-- ==== Sys2Proof/Word.lean ====
section
/-! DEFINITION. The word types of the station and their plainest arithmetic. -/

namespace Sys2Proof

/-- A byte of a frame, an image or a reply, and every 8-bit count. -/
abbrev Byte := BitVec 8

/-- A 16-bit value: signature, hold-up count, rise time, run number. -/
abbrev Half := BitVec 16

/-- A station number, 0 to 15 (R93), and the 4-bit sag count (R130). -/
abbrev Nibble := BitVec 4

/-- A saturating count stops at its largest value (00_scope.md, Counts). -/
def satInc {w : Nat} (c : BitVec w) : BitVec w :=
  if c = BitVec.allOnes w then c else c + 1

end Sys2Proof
end

