-- ==== Sys2Proof/Config.lean ====
section
/-! DEFINITION. What an image fixes (station settings, rail entries), the fixed times of the manual in base ticks, and the free values the manual leaves open. -/

namespace Sys2Proof

/-- How an EN output is driven (R3). -/
inductive DriveMode where
  | pushPull
  | openDrain
  | openDrainBoost
deriving DecidableEq, Repr

/-- The role set of a station (00_scope.md section 2). -/
structure Roles where
  requester : Bool
  mains : Bool
  panel : Bool
  backlight : Bool
deriving DecidableEq, Repr

/-- One entry of the rail table, field by field as R1 lists them. Thresholds are in 10 mV
steps, times in 0.1 ms. -/
structure RailEntry where
  present : Bool
  upPhase : Nat
  downPhase : Nat
  activeLow : Bool
  drive : DriveMode
  sense : Bool
  offThreshold : Nat
  goodLow : Nat
  goodHigh : Nat
  riseLimit : Nat
  settleTime : Nat
  fallLimit : Nat
  urgentFallLimit : Nat
  discharge : Option (Fin 4)
  sheddable : Bool
  blankAligned : Bool
  dimGated : Bool
deriving DecidableEq, Repr

/-- The entry of a rail that is not present (R2). -/
def RailEntry.absent : RailEntry where
  present := false
  upPhase := 0
  downPhase := 0
  activeLow := false
  drive := .pushPull
  sense := false
  offThreshold := 0
  goodLow := 0
  goodHigh := 0
  riseLimit := 0
  settleTime := 0
  fallLimit := 0
  urgentFallLimit := 0
  discharge := none
  sheddable := false
  blankAligned := false
  dimGated := false

/-- The period of the sample clock (R22, R163). -/
inductive SamplePeriod where
  | us2
  | us8
  | us32
  | us128
deriving DecidableEq, Repr

/-- The station settings: bytes 3 to 14 of the header and bytes 0 to 14 of the selected
profile, in the units R163 stores them in. -/
structure Settings where
  number : Nibble
  roles : Roles
  phaseCount : Nat
  peerCount : Nat
  retryLimit : Nat
  phaseLimit : Nat
  rollTimeout : Nat
  sagLimit : Nat
  quietTime : Nat
  retryDelay : Nat
  restTime : Nat
  autoResume : Bool
  blankWait : Nat
  unmuteDelay : Nat
  recoveryDwell : Nat
  mainsSag : Nat
  mainsRecover : Nat
  rideWindow : Nat
  holdUpBudget : Nat
  fallbackPeriod : Nat
  fixedDuty : Nat
  rampPeriods : Nat
  shedCap : Nat
  samplePeriod : SamplePeriod
  filterBypass : Bool
  fixedDimSource : Bool
  dimActiveLow : Bool
deriving DecidableEq, Repr

/-- The settings before a load succeeds: nothing loaded (DESIGN CHOICE, log 7). -/
def Settings.unloaded : Settings where
  number := 0
  roles := ⟨false, false, false, false⟩
  phaseCount := 0
  peerCount := 0
  retryLimit := 0
  phaseLimit := 0
  rollTimeout := 0
  sagLimit := 0
  quietTime := 0
  retryDelay := 0
  restTime := 0
  autoResume := false
  blankWait := 0
  unmuteDelay := 0
  recoveryDwell := 0
  mainsSag := 0
  mainsRecover := 0
  rideWindow := 0
  holdUpBudget := 0
  fallbackPeriod := 0
  fixedDuty := 0
  rampPeriods := 0
  shedCap := 0
  samplePeriod := .us2
  filterBypass := false
  fixedDimSource := false
  dimActiveLow := false

namespace Config

/-- Whether an assertion of RST shorter than 10 µs is taken: R161 leaves it open, so it is
a FREE VALUE, one for each such assertion (log 5). -/
opaque shortRstTaken : Nat → Bool

/-- Whether the phase timer's expiry comes before the pause that an entry to RIDING gives it at
the same tick: R38 and R60 leave the order open, so it is a FREE VALUE, one for each such pause
(log 29). -/
opaque expiryBeforePause : Nat → Bool

/-- Ticks of the units of R36. -/
def tenthMs : Nat := 100
/-- Ticks of 1 ms (R36). -/
def oneMs : Nat := 1000
/-- Ticks of 10 ms (R36). -/
def tenMs : Nat := 10000
/-- Ticks of 100 ms (R36). -/
def hundredMs : Nat := 100000
/-- The minimum hold, 64 µs (R51). -/
def minimumHold : Nat := 64
/-- The re-claim delay, 4 µs (R55). -/
def reclaimDelay : Nat := 4
/-- The drive of a BREAK, 48 µs (R81). -/
def breakDrive : Nat := 48
/-- The dominant time after which BREAK is detected, in µs (R82). -/
def breakSeen : Nat := 32
/-- The dominant time after which a slot is over-long, in µs (R64). -/
def overlongSlot : Nat := 8
/-- The active drive of a transition boost, 1 µs (R3). -/
def transitionBoost : Nat := 1
/-- The shortest RST that is surely taken, in µs (R161). -/
def rstTaken : Nat := 10
/-- Shortest and longest measured DIM_IN period, in µs (R147). -/
def minPeriod : Nat := 50
/-- See `minPeriod`. -/
def maxPeriod : Nat := 65535
/-- The time at which a measurement in progress is discarded, in µs (R147). -/
def measurementLimit : Nat := 65536
/-- The silence that ends a measurement in LEVEL, in µs (R148). -/
def levelSilence : Nat := 65000
/-- The bytes of an image (R163). -/
def imageLength : Nat := 465
/-- The time of a slot, in µs (R63). -/
def slotTime : Nat := 8
/-- The time from a slot's edge to its sample, in µs (R63). -/
def slotSample : Nat := 4
/-- The slots of a frame before the objection slot (R67). -/
def frameSlots : Nat := 32
/-- The microvolts of one threshold step of 10 mV (R23). -/
def stepMicrovolts : Nat := 10000
/-- The largest voltage of a sense pin, 2.55 V, in microvolts (13_status_port_and_board_lines.md
section 13.4). -/
def senseRange : Nat := 2550000

end Config
end Sys2Proof
end

