-- ==== Sys2Proof/Syntax.lean ====
section
/-! DEFINITION. The commands of the station: one constructor per row of spec/opcode_table.json, with the operands the model gives each row (log 2). -/

namespace Sys2Proof

/-- What one sample instant shows the station (R22): the voltages of SNS0 to SNS7 and of
MSNS in microvolts as the comparators see them (log 11), the levels of PWR_REQ and VBLANK,
and the level of HOLD at that instant. -/
structure Sample where
  sns : Vector Nat 8
  msns : Nat
  pwrReq : Bool
  vblank : Bool
  hold : Bool
deriving DecidableEq, Repr

/-- The ways of R162 in which a read of the image fails. -/
inductive ReadFailure where
  | busStuck
  | noAcknowledgeStep2
  | noAcknowledgeStep3
deriving DecidableEq, Repr

/-- The commands. An operand `hold` is the level of HOLD at the instant of the step, `true`
for high; `prof1` and `prof0` are the levels of the PROF pins; `rail` is a rail number. -/
inductive Instr where
  | supplyStart (prof1 prof0 : Bool)
  | rst (micros : Nat)
  | rstRelease (prof1 prof0 : Bool)
  | memoryNoAcknowledge
  | readFailed (cause : ReadFailure)
  | imageReadComplete (image : List Byte) (hold : Bool)
  | senseSample (sample : Sample)
  | mainsHeldEvent
  | riseLimitExpiry (rail : Fin 8) (hold : Bool)
  | settleExpiry (rail : Fin 8) (hold : Bool)
  | fallLimitExpiry (rail : Fin 8) (hold : Bool)
  | dischargeExpiry (rail : Fin 8) (hold : Bool)
  | blankWaitExpiry (hold : Bool)
  | minimumHold (hold : Bool)
  | reclaimDelayEnd
  | rise
  | holdLineFault
  | rollTimeoutExpiry (hold : Bool)
  | phaseLimitExpiry (hold : Bool)
  | windowExpiry
  | budgetExpiry
  | quietTimerExpiry
  | retryDelayExpiry
  | restTimeExpiry
  | muteReleaseExpiry
  | busFree
  | frameStart (slots : List Bool)
  | frameAbandoned
  | objectedFrame
  | foreignFrame
  | sagTaken (hold : Bool)
  | commitTaken (hold : Bool)
  | faultTaken (hold : Bool)
  | mainsOkTaken (hold : Bool)
  | fallTaken (hold : Bool)
  | riseTaken (hold : Bool)
  | rollTaken (hold : Bool)
  | tallyTaken (hold : Bool)
  | breakDriveEnd
  | breakDetected
  | linkStuck
  | periodBoundary (hold : Bool)
  | silenceTimeout
  | measurementOverflow
  | selectLowered
  | selectRaised
  | readState (hold : Bool)
  | readRails
  | readRecord
  | readLastRecord
  | readRoster
  | acknowledge
  | unknownCommand (code : Byte)
  | commandBit (bit : Bool) (hold : Bool)
  | replyBit
  | transitionBoostEnd (rail : Fin 8)
  | activeTimeEnd
  | lineGoesRecessive
  | dimInSample (level : Bool)
deriving DecidableEq, Repr

end Sys2Proof
end

