-- ==== Sys2Proof/Machine/State.lean ====
section
/-! DEFINITION. The state of the station as plain data, block by block, and the state right after a supply start. -/

namespace Sys2Proof.Machine

/-! ### Timing unit -/

/-- A one-shot counter; the remaining time is in base ticks (R37). -/
inductive OneShot where
  | stopped
  | running (left : Nat)
  | paused (left : Nat)
deriving DecidableEq, Repr

/-- The setting the phase timer was last loaded with, which its expiry names (R42). -/
inductive PhaseSetting where
  | phaseLimit
  | rollTimeout
deriving DecidableEq, Repr

/-- The setting the retry/rest timer was last loaded with, which its expiry names (R47). -/
inductive RetrySetting where
  | retryDelay
  | restTime
deriving DecidableEq, Repr

/-- The one-shot counters of the sequence controller (R42, R46, R47, R48). -/
structure Timers where
  phase : OneShot
  phaseSetting : PhaseSetting
  quiet : OneShot
  retry : OneShot
  retrySetting : RetrySetting
  mute : OneShot
deriving DecidableEq, Repr

/-- The hold-up timer (R43 to R45). `running` is the station's urgent condition; `sub` counts
the ticks of the current 0.1 ms unit. -/
structure HoldUp where
  running : Bool
  count : Half
  sub : Nat
  capture : Half
  compareA : Option Half
  compareP : Option Half
  armedA : Bool
  armedP : Bool
deriving DecidableEq, Repr

/-! ### Sense front end -/

/-- The zones of a rail (R23). -/
inductive Zone where
  | off
  | low
  | good
  | high
deriving DecidableEq, Repr

/-- The mains zones (R26). -/
inductive MainsZone where
  | sag
  | ok
deriving DecidableEq, Repr

/-- The filter of one sampled input (section 2.3 of 02_sense_inputs.md). -/
structure Filter (α : Type) where
  accepted : Option α
  candidate : Option α
  run : Nat
deriving DecidableEq, Repr

/-- The sense front end: one filter per input, the recovery dwell in ticks counted and the
mains held flag (R32, R33); the ticks left to the next sample instant and whether DIM_IN is still
to be sampled at this tick (R22), with the levels last seen at the inputs (log 28). -/
structure FrontEnd where
  sns : Vector (Filter Zone) 8
  msns : Filter MainsZone
  pwrReq : Filter Bool
  vblank : Filter Bool
  dimIn : Filter Bool
  dwell : Option Nat
  mainsHeld : Bool
  sampleLeft : Option Nat
  levels : Sample
  dimInDue : Bool
  dimInLevel : Bool
deriving DecidableEq, Repr

/-! ### Rail controller -/

/-- The ten rail states (section 1.3 of 01_rails_and_the_rail_table.md). -/
inductive RailState where
  | off
  | armedOn
  | armedOff
  | ramping
  | settling
  | good
  | shed
  | dimWait
  | falling
  | discharging
deriving DecidableEq, Repr

/-- The fault reasons of a rail (R5). -/
inductive RailReason where
  | riseTimeout
  | dip
  | over
  | restoreTimeout
deriving DecidableEq, Repr

/-- A rail: the record of R5 with its rail timer (R40), its discharge request (R4), whether
its fall was entered under urgent timing (R16), the ticks since its enable was applied on
(R5, rise time) and the ticks left of a transition boost (R3). -/
structure Rail where
  state : RailState
  faultReason : Option RailReason
  slowFall : Bool
  riseTime : Option Half
  glitches : Byte
  restoring : Bool
  requested : Bool
  applied : Bool
  timer : OneShot
  dischargeRequest : Bool
  urgentFall : Bool
  enableClock : Nat
  boost : Option Nat
deriving DecidableEq, Repr

/-- The conditions of R6 other than urgent, which is `HoldUp.running`, and the blank-wait
timer (R19, R41). -/
structure RailControl where
  ride : Bool
  held : Bool
  solo : Bool
  blankTimer : OneShot
deriving DecidableEq, Repr

/-! ### Phase line interface -/

/-- The phase line interface. `high` is HOLD as observed; `highTwo` says that HOLD has been
high for 2 µs at some time within the latest claim (R53, R57). -/
structure PhaseLine where
  claimed : Bool
  minHold : Bool
  minHoldLeft : Option Nat
  reclaim : Option Nat
  high : Bool
  riseTaken : Bool
  highTwo : Bool
  faultDelivered : Bool
deriving DecidableEq, Repr

/-! ### Notice interface -/

/-- The notice kinds (R72). -/
inductive Kind where
  | sag
  | commit
  | fault
  | mainsOk
  | fall
  | rise
  | roll
  | tally
deriving DecidableEq, Repr

/-- A notice as its frame carries it (R67). -/
structure Notice where
  kind : Kind
  sender : Nibble
  arg1 : Byte
  arg2 : Byte
deriving DecidableEq, Repr

/-- A pending notice in the place of its kind (R73, R76). -/
structure Pending where
  arg1 : Byte
  arg2 : Byte
  resend : Nat
deriving DecidableEq, Repr

/-- The outbound set: one place for each kind (R76). -/
structure Outbound where
  sag : Option Pending
  commit : Option Pending
  fault : Option Pending
  mainsOk : Option Pending
  fall : Option Pending
  rise : Option Pending
  roll : Option Pending
  tally : Option Pending
deriving DecidableEq, Repr

/-- The notice in flight with its withdrawn mark (R76, R80). -/
structure InFlight where
  kind : Kind
  notice : Pending
  withdrawn : Bool
deriving DecidableEq, Repr

/-- A frame under way: the slots 1 to 32 as this station reads them, and whether it is still
sending (R66, R70). -/
structure Frame where
  slots : List Bool
  sending : Bool
deriving DecidableEq, Repr

/-- The link states (R65). -/
inductive LinkState where
  | dormant
  | waiting
  | free
  | frame (f : Frame)
  | broken
deriving DecidableEq, Repr

/-- What this station drives as a sender in the latest frame: the ticks since the frame's first
edge, and for each slot from slot 1 on how long it holds DATA dominant from the slot's edge, in
µs (R63, R69, R74). -/
structure SlotDrive where
  ticks : Nat
  micros : List Nat
deriving DecidableEq, Repr

/-- The notice interface; `breakDrive` holds the ticks left of a BREAK's drive (R81). -/
structure NoticeInterface where
  link : LinkState
  outbound : Outbound
  inFlight : Option InFlight
  drive : SlotDrive
  breakDrive : Option Nat
  stuck : Bool
deriving DecidableEq, Repr

/-! ### Sequence controller -/

/-- The eleven station modes (R86). -/
inductive Mode where
  | loading
  | silent
  | unconfigured
  | off
  | lockout
  | rollcall
  | rising
  | on
  | riding
  | descending
  | solo
deriving DecidableEq, Repr

/-- The return mode, held in RIDING; RISING at k keeps k as the phase number (R54, R85). -/
inductive ReturnMode where
  | none
  | rollcall
  | rising
  | on
deriving DecidableEq, Repr

/-- Descent causes and last descent causes (R85). -/
inductive Cause where
  | none
  | request
  | fault
  | brownout
  | brk
deriving DecidableEq, Repr

/-- The requester wait (R96). -/
inductive Wait where
  | none
  | retry
  | rest
  | mains
  | fresh
deriving DecidableEq, Repr

/-- One roster entry (R93). -/
structure RosterEntry where
  number : Nibble
  roles : Roles
  profile : BitVec 2
  phaseCount : Nat
  retryLimit : Nat
  heard : Bool
  mismatch : Bool
  outOfStep : Bool
  clash : Bool
  taken : Byte
deriving DecidableEq, Repr

/-- The sequence controller's items (R85, R130, R154, R155). `recovered` says that the lead's
MAINS_OK has been taken in this ride-through (R49, R52). -/
structure Sequence where
  mode : Mode
  phase : Nat
  returnMode : ReturnMode
  recovered : Bool
  cause : Cause
  heldRise : Option Byte
  attempts : Nat
  lastCause : Cause
  wait : Wait
  roster : List RosterEntry
  sagCount : Nibble
  lead : Option Nibble
  owed : Bool
  mainsReturned : Bool
  budgetPassed : Bool
  signature : Half
  tally : Half
deriving DecidableEq, Repr

/-- The outcomes of a run (R156). -/
inductive RunOutcome where
  | inProgress
  | reachedOn
  | descendedRequest
  | descendedFault
  | descendedBrownout
  | soloBreak
  | lockout
deriving DecidableEq, Repr

/-- Commit causes (R140). -/
inductive CommitCause where
  | window
  | chatter
  | railSag
deriving DecidableEq, Repr

/-- The first-fault entry (R157); reason and rail are the FAULT's arg2 and arg1. -/
structure FirstFault where
  reason : Byte
  sender : Nibble
  rail : Byte
  phase : Nat
deriving DecidableEq, Repr

/-- A run record, field by field as R156 lists them. -/
structure RunRecord where
  runNumber : Half
  outcome : RunOutcome
  firstFault : Option FirstFault
  laterFaults : Byte
  sags : Byte
  lead : Option Nibble
  longestHoldUp : Half
  commitCause : Option CommitCause
  mainsReturned : Bool
  numberClash : Bool
  alertPending : Bool
  mismatchSet : Half
  objections : Byte
  dropped : Byte
  foreign : Byte
  breaks : Byte
  leadConflicts : Byte
  blankMisses : Byte
  phaseDisagreements : Byte
deriving DecidableEq, Repr

/-! ### Dimming channel -/

/-- The capture states (R146). -/
inductive Capture where
  | level
  | tracking
deriving DecidableEq, Repr

/-- A measurement in progress: µs since its rising edge and its high time once seen (R146). -/
structure Measurement where
  since : Nat
  high : Option Nat
deriving DecidableEq, Repr

/-- The measured pair (R146). -/
structure Pair where
  period : Nat
  high : Nat
deriving DecidableEq, Repr

/-- The ceiling settings (R151). -/
inductive CeilingSetting where
  | zero
  | ramp
  | cap
  | lift
  | full
deriving DecidableEq, Repr

/-- A ceiling in µs, or unlimited (section 10.4 of 10_dimming_channel.md). -/
inductive Ceiling where
  | limited (us : Nat)
  | unlimited
deriving DecidableEq, Repr

/-- The dimming channel (R146) with the ticks to its next period boundary, the ticks left of
its active time, and whether DIM_OUT is in the active part of the period (R149). -/
structure Dimming where
  capture : Capture
  measurement : Option Measurement
  pair : Option Pair
  silence : Nat
  setting : CeilingSetting
  rampIndex : Nat
  capLimit : Option Nat
  liftFloor : Ceiling
  ceiling : Ceiling
  outPeriod : Nat
  boundaryLeft : Option Nat
  activeLeft : Option Nat
  active : Bool
  zeroReport : Bool
deriving DecidableEq, Repr

/-! ### Status port and configuration loader -/

/-- A reply under way: the snapshot, the filler byte sent after it, the bits driven so far and
the level of data out (R168). -/
structure Reply where
  snapshot : List Byte
  filler : Byte
  sent : Nat
  out : Bool
deriving DecidableEq, Repr

/-- The exchange state (R168); the bit count of COMMAND is the number of bits taken. -/
inductive Port where
  | idle
  | command (bits : List Bool)
  | reply (r : Reply)
deriving DecidableEq, Repr

/-- The reset cause (R161). -/
inductive ResetCause where
  | supply
  | rst
deriving DecidableEq, Repr

/-- The load reasons (R164). -/
inductive LoadReason where
  | none
  | readFailed
  | badMarker
  | badVersion
  | badCheck
  | profileDisabled
  | badStation
  | badProfile
  | badRail
  | ascentBound
  | descentBound
deriving DecidableEq, Repr

/-- The configuration loader (R161, R162, R164); `rstAsserted` says that RST holds the station,
`busTicks` counts the ticks since the loader began to drive SCL and SDA. -/
structure Loader where
  rstAsserted : Bool
  reading : Bool
  busTicks : Nat
  resetCause : ResetCause
  profile : BitVec 2
  reason : LoadReason
  detail : Nat
deriving DecidableEq, Repr

/-! ### The station -/

/-- The station. `freeIndex` is the model's own (logs 5 and 29); `pending` is the queue of commands
that wait, first in first out. -/
structure State where
  settings : Settings
  table : Vector RailEntry 8
  rails : Vector Rail 8
  ctl : RailControl
  front : FrontEnd
  timers : Timers
  holdUp : HoldUp
  line : PhaseLine
  notices : NoticeInterface
  seq : Sequence
  cur : RunRecord
  last : RunRecord
  mute : Bool
  dim : Dimming
  port : Port
  loader : Loader
  freeIndex : Nat
  pending : List Instr
deriving DecidableEq, Repr

/-- The reasons for a fault: there are none, since no event of the manual stops the station
(section Faults of INVENTORY.md). Nothing raises it; safe. -/
inductive Fault
deriving DecidableEq, Repr

/-- The reasons for a refusal. -/
inductive Refusal where
  /-- Raised by an arm of exec whose command has no meaning yet; no arm raises it. Safe. -/
  | notModelled (mnemonic : String)
deriving DecidableEq, Repr

/-! ### Values after a supply start -/

/-- A rail after a supply start or RST (R5; helpers by log 8). -/
def Rail.initial : Rail where
  state := .off
  faultReason := none
  slowFall := false
  riseTime := none
  glitches := 0
  restoring := false
  requested := false
  applied := false
  timer := .stopped
  dischargeRequest := false
  urgentFall := false
  enableClock := 0
  boost := none

/-- A filter after a supply start or RST (section 2.3). -/
def Filter.initial {α : Type} : Filter α := ⟨none, none, 0⟩

/-- A digital line's filter: its filtered level starts deasserted (R33). -/
def Filter.deasserted : Filter Bool := ⟨some false, none, 0⟩

/-- Inputs at which nothing has been seen: 0 V and every line low (log 28). -/
def darkLevels : Sample where
  sns := Vector.replicate 8 0
  msns := 0
  pwrReq := false
  vblank := false
  hold := false

/-- The outbound set without a notice (R76). -/
def Outbound.empty : Outbound := ⟨none, none, none, none, none, none, none, none⟩

/-- A run record with every field cleared (R156). -/
def RunRecord.cleared : RunRecord where
  runNumber := 0
  outcome := .inProgress
  firstFault := none
  laterFaults := 0
  sags := 0
  lead := none
  longestHoldUp := 0
  commitCause := none
  mainsReturned := false
  numberClash := false
  alertPending := false
  mismatchSet := 0
  objections := 0
  dropped := 0
  foreign := 0
  breaks := 0
  leadConflicts := 0
  blankMisses := 0
  phaseDisagreements := 0

/-- The station right after a supply start: every item at the value its chapter gives, in
LOADING with reset cause SUPPLY (R161, R167). Values the spec does not give are the model's:
those of logs 6, 7, 8, 9, 28 and 31, among them that both compares are disarmed (R39; log 8) and
that the flags of the high interval and of the claim are clear (R53, R57; log 9). -/
def State.reset : State where
  settings := Settings.unloaded
  table := Vector.replicate 8 RailEntry.absent
  rails := Vector.replicate 8 Rail.initial
  ctl := { ride := false, held := false, solo := false, blankTimer := .stopped }
  front :=
    { sns := Vector.replicate 8 Filter.initial, msns := Filter.initial,
      pwrReq := Filter.deasserted, vblank := Filter.deasserted, dimIn := Filter.deasserted,
      dwell := none, mainsHeld := false, sampleLeft := none, levels := darkLevels,
      dimInDue := false, dimInLevel := false }
  timers :=
    { phase := .stopped, phaseSetting := .phaseLimit, quiet := .stopped, retry := .stopped,
      retrySetting := .retryDelay, mute := .stopped }
  holdUp :=
    { running := false, count := 0, sub := 0, capture := 0, compareA := none, compareP := none,
      armedA := false, armedP := false }
  line :=
    { claimed := false, minHold := false, minHoldLeft := none, reclaim := none, high := false,
      riseTaken := false, highTwo := false, faultDelivered := false }
  notices :=
    { link := .dormant, outbound := Outbound.empty, inFlight := none, drive := ⟨0, []⟩,
      breakDrive := none, stuck := false }
  seq :=
    { mode := .loading, phase := 0, returnMode := .none, recovered := false, cause := .none,
      heldRise := none, attempts := 0, lastCause := .none, wait := .none, roster := [],
      sagCount := 0, lead := none, owed := false, mainsReturned := false, budgetPassed := false,
      signature := 0xFFFF, tally := 0xFFFF }
  cur := RunRecord.cleared
  last := RunRecord.cleared
  mute := true
  dim :=
    { capture := .level, measurement := none, pair := none, silence := 0, setting := .zero,
      rampIndex := 0, capLimit := none, liftFloor := .limited 0, ceiling := .limited 0,
      outPeriod := 0, boundaryLeft := none, activeLeft := none, active := false,
      zeroReport := true }
  port := .idle
  loader :=
    { rstAsserted := false, reading := true, busTicks := 0, resetCause := .supply, profile := 0,
      reason := .none, detail := 15 }
  freeIndex := 0
  pending := []

end Sys2Proof.Machine
end

