-- ==== Sys2Proof/Machine/Bits.lean ====
section
/-! DEFINITION. Bits of bytes, most significant first, and the two check computations: CRC-8 (R68, R163) and CRC-16 (R154). -/

namespace Sys2Proof.Machine

/-- The bits of a byte, most significant first (00_scope.md section 7). -/
def byteBits (b : Byte) : List Bool :=
  [b.getLsbD 7, b.getLsbD 6, b.getLsbD 5, b.getLsbD 4, b.getLsbD 3, b.getLsbD 2, b.getLsbD 1,
    b.getLsbD 0]

/-- The bits of a 4-bit field, most significant first. -/
def nibbleBits (b : Nibble) : List Bool :=
  [b.getLsbD 3, b.getLsbD 2, b.getLsbD 1, b.getLsbD 0]

/-- The number that bits spell, most significant first. -/
def bitsToNat (bits : List Bool) : Nat :=
  bits.foldl (fun n b => 2 * n + b.toNat) 0

/-- A byte from its bits, most significant first. -/
def bitsToByte (bits : List Bool) : Byte :=
  BitVec.ofNat 8 (bitsToNat bits)

/-- A byte from two 4-bit fields, the first in bits 7 to 4. -/
def twoNibbles (high low : Nat) : Byte :=
  BitVec.ofNat 8 (16 * high + low)

/-- The bytes of a 16-bit value, most significant first. -/
def halfBytes (h : Half) : List Byte :=
  [h.extractLsb' 8 8, h.extractLsb' 0 8]

/-- One bit into the CRC-8 with polynomial x^8+x^2+x+1 (R68). -/
def crc8Bit (crc : Byte) (bit : Bool) : Byte :=
  if crc.getLsbD 7 ^^ bit then (crc <<< 1) ^^^ 0x07 else crc <<< 1

/-- The CRC-8 of bytes, most significant bit first, initial value 0 (R68, R163). -/
def crc8 (bytes : List Byte) : Byte :=
  (bytes.flatMap byteBits).foldl crc8Bit 0

/-- One shift of the CRC-16 with polynomial x^16+x^12+x^5+1 (R154). -/
def crc16Shift (crc : Half) : Half :=
  if crc.getLsbD 15 then (crc <<< 1) ^^^ 0x1021 else crc <<< 1

/-- One byte into the sequence signature (R154). -/
def crc16Byte (crc : Half) (byte : Byte) : Half :=
  crc16Shift (crc16Shift (crc16Shift (crc16Shift (crc16Shift (crc16Shift (crc16Shift (crc16Shift
    (crc ^^^ (byte.zeroExtend 16 <<< 8)))))))))

end Sys2Proof.Machine
end

