-- ==== Sys2Proof/Machine/Operands.lean ====
section
/-! DEFINITION. The forms in which values reach the station: sampled voltages and levels, notice frames, and the bytes of an image. -/

namespace Sys2Proof.Machine

/-! ### Samples -/

/-- The raw class of a sample of SNS i against the thresholds of rail i (R23). -/
def classifyRail (e : RailEntry) (microvolts : Nat) : Zone :=
  if microvolts < e.offThreshold * Config.stepMicrovolts then .off
  else if microvolts < e.goodLow * Config.stepMicrovolts then .low
  else if microvolts ≤ e.goodHigh * Config.stepMicrovolts then .good
  else .high

/-- The raw class of a sample of MSNS: SAG, OK, or `none` for BAND (R24). -/
def classifyMains (c : Settings) (microvolts : Nat) : Option MainsZone :=
  if microvolts < c.mainsSag * Config.stepMicrovolts then some .sag
  else if microvolts ≤ c.mainsRecover * Config.stepMicrovolts then none
  else some .ok

/-- One sample through a filter (R25, with the bypass R27). The second component is the
value this sample makes the filter accept, if it does. -/
def Filter.sample {α : Type} [DecidableEq α] (bypass : Bool) (raw : α) (f : Filter α) :
    Filter α × Option α :=
  if f.accepted = some raw then (⟨f.accepted, none, 0⟩, none)
  else if bypass then (⟨some raw, none, 0⟩, some raw)
  else if f.candidate = some raw then
    if f.run = 1 then (⟨f.accepted, f.candidate, 2⟩, none)
    else (⟨some raw, none, 0⟩, some raw)
  else (⟨f.accepted, some raw, 1⟩, none)

/-- A BAND sample clears candidate and run, and accepts nothing (R26, R27). -/
def Filter.band {α : Type} (f : Filter α) : Filter α :=
  ⟨f.accepted, none, 0⟩

/-- One sample of MSNS through its filter (R26). -/
def Filter.sampleMains (bypass : Bool) (raw : Option MainsZone) (f : Filter MainsZone) :
    Filter MainsZone × Option MainsZone :=
  match raw with
  | none => (f.band, none)
  | some z => f.sample bypass z

/-- The filtered level of a digital line (R33). -/
def Filter.level (f : Filter Bool) : Bool :=
  f.accepted.getD false

/-! ### Codes and frames of notices -/

/-- The kind codes (R72). -/
def Kind.code : Kind → Nat
  | .sag => 0
  | .commit => 1
  | .fault => 2
  | .mainsOk => 3
  | .fall => 4
  | .rise => 5
  | .roll => 6
  | .tally => 7

/-- The kind of a code; 8 to 15 are foreign (R67). -/
def Kind.ofCode : Nat → Option Kind
  | 0 => some .sag
  | 1 => some .commit
  | 2 => some .fault
  | 3 => some .mainsOk
  | 4 => some .fall
  | 5 => some .rise
  | 6 => some .roll
  | 7 => some .tally
  | _ => none

/-- The mode codes that SAG and READ STATE carry (R72, R169). -/
def Mode.code : Mode → Nat
  | .off => 0
  | .lockout => 1
  | .rollcall => 2
  | .rising => 3
  | .on => 4
  | .riding => 5
  | .descending => 6
  | .solo => 7
  | .loading => 8
  | .silent => 9
  | .unconfigured => 10

/-- The rail fault reasons (R72). -/
def RailReason.code : RailReason → Nat
  | .riseTimeout => 1
  | .dip => 2
  | .over => 3
  | .restoreTimeout => 4

/-- The rail number of a station-level FAULT (R72). -/
def stationLevel : Byte := 15

/-- Station-level reasons (R72). -/
def reasonBarrierTimeout : Byte := 16
/-- See `reasonBarrierTimeout`. -/
def reasonRosterShort : Byte := 17
/-- See `reasonBarrierTimeout`. -/
def reasonConfigMismatch : Byte := 18
/-- See `reasonBarrierTimeout`. -/
def reasonPeerRestart : Byte := 19
/-- See `reasonBarrierTimeout`. -/
def reasonHoldLine : Byte := 20
/-- See `reasonBarrierTimeout`. -/
def reasonNumberClash : Byte := 21

/-- The commit causes (R72, R140). -/
def CommitCause.code : CommitCause → Nat
  | .window => 1
  | .chatter => 2
  | .railSag => 3

/-- The commit cause of a COMMIT's arg1; a well-formed COMMIT has 1 to 3 (R72). -/
def CommitCause.ofByte (b : Byte) : CommitCause :=
  if b = 1 then .window else if b = 2 then .chatter else .railSag

/-- Bits 7 to 4 of ROLL's arg1 and of image byte 4 (R67, R163). -/
def Roles.ofByte (b : Byte) : Roles :=
  ⟨b.getLsbD 7, b.getLsbD 6, b.getLsbD 5, b.getLsbD 4⟩

/-- ROLL's arg1: the roles and the profile index (R67). -/
def rollArg1 (r : Roles) (profile : BitVec 2) : Byte :=
  bitsToByte [r.requester, r.mains, r.panel, r.backlight, false, false, profile.getLsbD 1,
    profile.getLsbD 0]

/-- ROLL's arg2: the phase count and the retry limit (R67). -/
def rollArg2 (c : Settings) : Byte :=
  twoNibbles c.phaseCount c.retryLimit

/-- Whether the arguments hold values that R72's table allows for the kind. -/
def Notice.wellFormed (n : Notice) : Bool :=
  let a := n.arg1.toNat
  let b := n.arg2.toNat
  match n.kind with
  | .sag => decide (a ≤ 15 ∧ b ≤ 7)
  | .commit => decide (1 ≤ a ∧ a ≤ 3 ∧ b ≤ 15)
  | .fault => decide ((a ≤ 7 ∧ 1 ≤ b ∧ b ≤ 4) ∨ (a = 15 ∧ 16 ≤ b ∧ b ≤ 21))
  | .mainsOk => decide (a ≤ 15 ∧ b = 0)
  | .fall => decide (a ≤ 15 ∧ b = 0)
  | .rise => decide (a ≤ 3 ∧ b = 0)
  | .roll => decide (a / 4 % 4 = 0 ∧ b / 4 % 4 = 0 ∧ 1 ≤ b / 16)
  | .tally => true

/-- The first byte of a frame: kind in the high four bits, sender in the low four (R67). -/
def Notice.head (n : Notice) : Byte :=
  twoNibbles n.kind.code n.sender.toNat

/-- The check of a notice (R68). -/
def Notice.check (n : Notice) : Byte :=
  crc8 [n.head, n.arg1, n.arg2]

/-- Slots 1 to 32 of a notice's frame (R67). -/
def Notice.slots (n : Notice) : List Bool :=
  byteBits n.head ++ byteBits n.arg1 ++ byteBits n.arg2 ++ byteBits n.check

/-- Byte `k` of the slots read. -/
def slotByte (slots : List Bool) (k : Nat) : Byte :=
  bitsToByte ((slots.drop (8 * k)).take 8)

/-- All 32 slots have been read: the station has received the frame (R70). -/
def Frame.received (f : Frame) : Bool :=
  f.slots.length == Config.frameSlots

/-- The check over the 24 bits read equals the 8 bits read in slots 25 to 32 (R68). -/
def Frame.checkMatches (f : Frame) : Bool :=
  crc8 [slotByte f.slots 0, slotByte f.slots 1, slotByte f.slots 2] == slotByte f.slots 3

/-- The notice a frame's bits spell, when its kind code is 0 to 7 (R67). -/
def Frame.content (f : Frame) : Option Notice :=
  let head := (slotByte f.slots 0).toNat
  match Kind.ofCode (head / 16) with
  | none => none
  | some k =>
    some
      { kind := k, sender := BitVec.ofNat 4 (head % 16), arg1 := slotByte f.slots 1,
        arg2 := slotByte f.slots 2 }

/-- The well-formed notice of a frame received with a matching check (R70 to R72). -/
def Frame.notice (f : Frame) : Option Notice :=
  if f.received && f.checkMatches then
    match f.content with
    | some n => if n.wellFormed then some n else none
    | none => none
  else none

/-- The phase a sender put into SAG, COMMIT, MAINS_OK or FALL; the other kinds carry none
(R72, R87). -/
def Notice.senderPhase (n : Notice) : Option Nat :=
  match n.kind with
  | .sag => some n.arg1.toNat
  | .commit => some n.arg2.toNat
  | .mainsOk => some n.arg1.toNat
  | .fall => some n.arg1.toNat
  | .fault => none
  | .rise => none
  | .roll => none
  | .tally => none

/-! ### Bytes of an image -/

/-- Byte `k` of an image. -/
def imageByte (image : List Byte) (k : Nat) : Nat :=
  (image.getD k 0).toNat

/-- The 16-bit value at byte `k`, most significant byte first (R163). -/
def imageHalf (image : List Byte) (k : Nat) : Nat :=
  256 * imageByte image k + imageByte image (k + 1)

/-- Bit `k` of a number. -/
def natBit (n k : Nat) : Bool :=
  n / 2 ^ k % 2 == 1

/-- The offset of profile `p` (R163). -/
def profileOffset (p : BitVec 2) : Nat :=
  16 + 112 * p.toNat

/-- The offset of rail entry `i` of profile `p` (R163). -/
def entryOffset (p : BitVec 2) (i : Fin 8) : Nat :=
  profileOffset p + 16 + 12 * i.val

/-- The drive mode of a code (R163). -/
def DriveMode.ofCode (n : Nat) : DriveMode :=
  if n = 0 then .pushPull else if n = 1 then .openDrain else .openDrainBoost

/-- The discharge output of a code: 0 none, 1 to 4 DIS0 to DIS3 (R163). -/
def dischargeOf (n : Nat) : Option (Fin 4) :=
  if n = 1 then some 0
  else if n = 2 then some 1
  else if n = 3 then some 2
  else if n = 4 then some 3
  else none

/-- The sample period of a code (R163). -/
def SamplePeriod.ofCode (n : Nat) : SamplePeriod :=
  if n = 0 then .us2 else if n = 1 then .us8 else if n = 2 then .us32 else .us128

/-- Rail entry `i` of the selected profile, as the image stores it (R163). An entry whose
present bit is clear has its other bytes unused. -/
def imageEntry (image : List Byte) (p : BitVec 2) (i : Fin 8) : RailEntry :=
  let o := entryOffset p i
  let flags := imageByte image o
  if natBit flags 7 then
    { present := true
      upPhase := imageByte image (o + 1) / 16
      downPhase := imageByte image (o + 1) % 16
      activeLow := natBit flags 5
      drive := DriveMode.ofCode (flags / 8 % 4)
      sense := natBit flags 6
      offThreshold := imageByte image (o + 2)
      goodLow := imageByte image (o + 3)
      goodHigh := imageByte image (o + 4)
      riseLimit := imageHalf image (o + 5)
      settleTime := imageByte image (o + 7)
      fallLimit := imageHalf image (o + 8)
      urgentFallLimit := imageByte image (o + 10)
      discharge := dischargeOf (imageByte image (o + 11))
      sheddable := natBit flags 2
      blankAligned := natBit flags 1
      dimGated := natBit flags 0 }
  else RailEntry.absent

/-- The station settings of an image with profile `p` (R163). -/
def imageSettings (image : List Byte) (p : BitVec 2) : Settings :=
  let o := profileOffset p
  let flags := imageByte image (o + 14)
  { number := BitVec.ofNat 4 (imageByte image 3)
    roles := Roles.ofByte (image.getD 4 0)
    phaseCount := imageByte image 5
    peerCount := imageByte image 6
    retryLimit := imageByte image 7
    phaseLimit := imageByte image 8
    rollTimeout := imageByte image 9
    sagLimit := imageByte image 10
    quietTime := imageByte image 11
    retryDelay := imageByte image 12
    restTime := imageByte image 13
    autoResume := natBit (imageByte image 14) 0
    blankWait := imageByte image o
    unmuteDelay := imageByte image (o + 1)
    recoveryDwell := imageByte image (o + 2)
    mainsSag := imageByte image (o + 3)
    mainsRecover := imageByte image (o + 4)
    rideWindow := imageHalf image (o + 5)
    holdUpBudget := imageHalf image (o + 7)
    fallbackPeriod := imageHalf image (o + 9)
    fixedDuty := imageByte image (o + 11)
    rampPeriods := imageByte image (o + 12)
    shedCap := imageByte image (o + 13)
    samplePeriod := SamplePeriod.ofCode (flags % 4)
    filterBypass := natBit flags 2
    fixedDimSource := natBit flags 3
    dimActiveLow := natBit flags 4 }

end Sys2Proof.Machine
end

