-- ==== Sys2Proof/Machine/Flags.lean ====
section
/-! DEFINITION. The flags and summaries computed from the state: rail summaries (R21), mode groups (R86), release conditions (R52), roster counts, and the counts and flags of the current run record (R84, R156, R159). -/

namespace Sys2Proof.Machine

/-- The rail numbers in the order the model handles rails (log 10). -/
def railIndices : List (Fin 8) := [0, 1, 2, 3, 4, 5, 6, 7]

/-- Rail `i` of the station. -/
def State.rail (s : State) (i : Fin 8) : Rail := s.rails[i]

/-- The rail table's entry `i` (R1). -/
def State.entry (s : State) (i : Fin 8) : RailEntry := s.table[i]

/-- The accepted zone of rail `i` (R28). -/
def State.zone (s : State) (i : Fin 8) : Option Zone := s.front.sns[i].accepted

/-- The urgent condition is the running flag of the hold-up timer (R43). -/
def State.urgent (s : State) : Bool := s.holdUp.running

/-- The zero ceiling report the rail controller keeps (R20). -/
def State.zeroReport (s : State) : Bool := s.dim.zeroReport

/-! ### Modes -/

/-- A load has succeeded: the station takes part in the link (R86, R166). -/
def Mode.loaded : Mode → Bool
  | .loading => false
  | .silent => false
  | .unconfigured => false
  | .off => true
  | .lockout => true
  | .rollcall => true
  | .rising => true
  | .on => true
  | .riding => true
  | .descending => true
  | .solo => true

/-- The active modes (R86). -/
def Mode.active (m : Mode) : Bool :=
  m == .rollcall || m == .rising || m == .on || m == .riding

/-- The modes in which a station may drive HOLD low and takes rises (R49, R53). -/
def Mode.claims (m : Mode) : Bool :=
  m == .rollcall || m == .rising || m == .riding || m == .descending

/-- A load has succeeded. -/
def State.loaded (s : State) : Bool := s.seq.mode.loaded

/-! ### Rail summaries (R21) -/

/-- A rail waits for vertical blanking (R19). -/
def RailState.armed (r : RailState) : Bool :=
  r == .armedOn || r == .armedOff

/-- A rail is switched on and its enable applied, before any switch off (R8, R9). -/
def RailState.serving (r : RailState) : Bool :=
  r == .ramping || r == .settling || r == .good

/-- The up summary for phase `k`. -/
def State.upSummary (s : State) (k : Nat) : Bool :=
  railIndices.all fun i =>
    !(s.entry i).present ||
      ((!decide ((s.entry i).upPhase ≤ k) ||
          (s.rail i).state == .good || (s.rail i).state == .shed) &&
        (!decide ((s.entry i).upPhase = k) || (s.rail i).state == .good))

/-- The down summary for phase `d`. -/
def State.downSummary (s : State) (d : Nat) : Bool :=
  railIndices.all fun i =>
    !(s.entry i).present || !decide ((s.entry i).downPhase = d) || (s.rail i).state == .off

/-- The shed summary. -/
def State.shedSummary (s : State) : Bool :=
  railIndices.all fun i =>
    !(s.entry i).present || ((s.rail i).state != .shed && !(s.rail i).restoring)

/-- The all-off summary. -/
def State.allOff (s : State) : Bool :=
  railIndices.all fun i => !(s.entry i).present || (s.rail i).state == .off

/-- Some rail is ARMED, so a blank wait is under way (R19). -/
def State.anyArmed (s : State) : Bool :=
  railIndices.any fun i => (s.rail i).state.armed

/-! ### Roster (R93) -/

/-- The heard count. -/
def State.heardCount (s : State) : Nat :=
  (s.seq.roster.filter (·.heard)).length

/-- Some entry carries the mismatch flag. -/
def State.anyMismatch (s : State) : Bool :=
  s.seq.roster.any (·.mismatch)

/-- The entry of a station number. -/
def State.rosterEntry (s : State) (n : Nibble) : Option RosterEntry :=
  s.seq.roster.find? (·.number == n)

/-! ### Release conditions (R52) -/

/-- The roll call release condition. -/
def State.rollcallDone (s : State) : Bool :=
  s.heardCount == s.settings.peerCount && !s.anyMismatch

/-- The release condition of the present mode and phase; a station outside the claiming
modes has none. -/
def State.releaseCondition (s : State) : Bool :=
  match s.seq.mode with
  | .rollcall => s.rollcallDone
  | .rising => s.upSummary s.seq.phase
  | .riding =>
    s.seq.recovered &&
      match s.seq.returnMode with
      | .none => false
      | .rollcall => s.rollcallDone
      | .rising => s.upSummary s.seq.phase && s.shedSummary
      | .on => s.shedSummary
  | .descending => s.downSummary s.seq.phase
  | .loading => false
  | .silent => false
  | .unconfigured => false
  | .off => false
  | .lockout => false
  | .on => false
  | .solo => false

/-- The station claims, its minimum hold is set and its release condition holds (R51, R52). -/
def State.canRelease (s : State) : Bool :=
  s.line.claimed && s.line.minHold && s.releaseCondition

/-! ### Ends of waits -/

/-- The dwell count has reached the recovery dwell with the zone OK (R32). -/
def State.dwellDue (s : State) : Bool :=
  match s.front.dwell with
  | some n =>
    decide (s.settings.recoveryDwell * Config.tenthMs ≤ n) && s.front.msns.accepted == some .ok
  | none => false

/-- The minimum hold of the present claim is over (R51). -/
def State.minHoldDue (s : State) : Bool :=
  s.line.claimed && !s.line.minHold && s.line.minHoldLeft == some 0

/-- A frame is under way for this station (R65). -/
def LinkState.inFrame : LinkState → Bool
  | .frame _ => true
  | .dormant => false
  | .waiting => false
  | .free => false
  | .broken => false

/-- This station's BREAK has been driven for at least `us` µs (R81). -/
def State.breakLasted (s : State) (us : Nat) : Bool :=
  match s.notices.breakDrive with
  | some n => decide (us + n ≤ Config.breakDrive)
  | none => false

/-- The frame that this station's own BREAK cuts has an over-long slot (R64, R81). -/
def State.overlongDue (s : State) : Bool :=
  match s.notices.link with
  | .frame _ => s.breakLasted Config.overlongSlot
  | .dormant => false
  | .waiting => false
  | .free => false
  | .broken => false

/-- This station's own BREAK has lasted as long as its detection takes (R82). -/
def State.ownBreakDue (s : State) : Bool :=
  match s.notices.link with
  | .waiting => s.breakLasted Config.breakSeen
  | .free => s.breakLasted Config.breakSeen
  | .frame _ => s.breakLasted Config.breakSeen
  | .dormant => false
  | .broken => false

/-! ### Run record (R84, R156, R159) -/

/-- Alert pending is set (R159). -/
def State.raiseAlert (s : State) : State :=
  { s with cur := { s.cur with alertPending := true } }

/-- One later fault (R157). -/
def State.countLaterFault (s : State) : State :=
  { s with cur := { s.cur with laterFaults := satInc s.cur.laterFaults } }

/-- One sag of the run (R131, R133). -/
def State.countSag (s : State) : State :=
  { s with cur := { s.cur with sags := satInc s.cur.sags } }

/-- One objection (R84). -/
def State.countObjection (s : State) : State :=
  { s with cur := { s.cur with objections := satInc s.cur.objections } }

/-- One dropped notice (R73). -/
def State.countDrop (s : State) : State :=
  { s with cur := { s.cur with dropped := satInc s.cur.dropped } }

/-- One foreign frame (R72). -/
def State.countForeign (s : State) : State :=
  { s with cur := { s.cur with foreign := satInc s.cur.foreign } }

/-- One BREAK detected (R82). -/
def State.countBreak (s : State) : State :=
  { s with cur := { s.cur with breaks := satInc s.cur.breaks } }

/-- One blank miss (R21). -/
def State.countBlankMiss (s : State) : State :=
  { s with cur := { s.cur with blankMisses := satInc s.cur.blankMisses } }

/-- One phase disagreement (R87). -/
def State.countDisagreement (s : State) : State :=
  { s with cur := { s.cur with phaseDisagreements := satInc s.cur.phaseDisagreements } }

/-- A lead conflict: one more in the record, and the alert (R145). -/
def State.leadConflict (s : State) : State :=
  { s with
    cur := { s.cur with leadConflicts := satInc s.cur.leadConflicts, alertPending := true } }

/-- The outcome of the run (R156). -/
def State.setOutcome (o : RunOutcome) (s : State) : State :=
  { s with cur := { s.cur with outcome := o } }

/-- A taken FAULT in the record: the first fault with the alert, or one later fault (R90,
R157). -/
def State.recordFault (n : Notice) (s : State) : State :=
  match s.cur.firstFault with
  | some _ => s.countLaterFault
  | none =>
    { s with
      cur :=
        { s.cur with
          firstFault := some ⟨n.arg2, n.sender, n.arg1, s.seq.phase⟩, alertPending := true } }

/-- One byte into the sequence signature (R154). -/
def State.feed (b : Byte) (s : State) : State :=
  { s with seq := { s.seq with signature := crc16Byte s.seq.signature b } }

end Sys2Proof.Machine
end

