-- ==== Sys2Proof/Machine/Ops.lean ====
section
/-! DEFINITION. The shared operations: one-shot counters (R37, R38), the outbound set and the notice in flight (R76 to R80), BREAK (R81), the roster (R93), and the loop over the rails. -/

namespace Sys2Proof.Machine

/-! ### One-shot counters (R37); every argument is in ticks -/

/-- A start, from any state. -/
def OneShot.start (ticks : Nat) : OneShot := .running ticks

/-- A start held, from any state. -/
def OneShot.startHeld (ticks : Nat) : OneShot := .paused ticks

/-- A pause keeps the remaining time. -/
def OneShot.pause : OneShot → OneShot
  | .running n => .paused n
  | .paused n => .paused n
  | .stopped => .stopped

/-- A resume runs on from the kept remaining time. -/
def OneShot.resume : OneShot → OneShot
  | .paused n => .running n
  | .running n => .running n
  | .stopped => .stopped

/-- A shorten: the smaller of the remaining time and `ticks`. -/
def OneShot.shorten (ticks : Nat) : OneShot → OneShot
  | .running n => .running (min ticks n)
  | .paused n => .paused (min ticks n)
  | .stopped => .stopped

/-- One base tick (R37). -/
def OneShot.tick : OneShot → OneShot
  | .running n => .running (n - 1)
  | .paused n => .paused n
  | .stopped => .stopped

/-- The remaining time of a RUNNING counter has reached 0, so its expiry is delivered (R38). -/
def OneShot.due : OneShot → Bool
  | .running n => n == 0
  | .paused _ => false
  | .stopped => false

/-! ### Free values -/

/-- The next free value is used up. -/
def State.nextFree (s : State) : State :=
  { s with freeIndex := s.freeIndex + 1 }

/-! ### Rails -/

/-- Replaces rail `i`. -/
def State.setRail (i : Fin 8) (r : Rail) (s : State) : State :=
  { s with rails := s.rails.set i.val r }

/-- Changes rail `i`. -/
def State.modifyRail (i : Fin 8) (f : Rail → Rail) (s : State) : State :=
  s.setRail i (f (s.rail i))

/-- Does `f` for the rails of the table in the model's order (log 10). -/
def State.forEachRail (f : Fin 8 → State → State) (s : State) : State :=
  railIndices.foldl (fun t i => f i t) s

/-! ### The outbound set -/

/-- The place of a kind (R76). -/
def Outbound.get (o : Outbound) : Kind → Option Pending
  | .sag => o.sag
  | .commit => o.commit
  | .fault => o.fault
  | .mainsOk => o.mainsOk
  | .fall => o.fall
  | .rise => o.rise
  | .roll => o.roll
  | .tally => o.tally

/-- Fills or empties the place of a kind. -/
def Outbound.set (o : Outbound) (k : Kind) (p : Option Pending) : Outbound :=
  match k with
  | .sag => { o with sag := p }
  | .commit => { o with commit := p }
  | .fault => { o with fault := p }
  | .mainsOk => { o with mainsOk := p }
  | .fall => { o with fall := p }
  | .rise => { o with rise := p }
  | .roll => { o with roll := p }
  | .tally => { o with tally := p }

/-- The kinds by rising code (R72). -/
def kinds : List Kind := [.sag, .commit, .fault, .mainsOk, .fall, .rise, .roll, .tally]

/-- The pending notice of lowest kind code (R66). -/
def Outbound.lowest (o : Outbound) : Option (Kind × Pending) :=
  kinds.findSome? fun k => (o.get k).map fun p => (k, p)

/-- The place of a kind in the station's outbound set. -/
def State.pendingOf (s : State) (k : Kind) : Option Pending :=
  s.notices.outbound.get k

/-- Fills or empties a place of the station's outbound set. -/
def State.setPending (k : Kind) (p : Option Pending) (s : State) : State :=
  { s with notices := { s.notices with outbound := s.notices.outbound.set k p } }

/-- The pending notice of kind `k` goes into flight (R66, R76). -/
def State.launch (k : Kind) (p : Pending) (s : State) : State :=
  let t := s.setPending k none
  { t with notices := { t.notices with inFlight := some ⟨k, p, false⟩ } }

/-- How long a sender drives a slot dominant from its edge, in µs, of the 8 µs (R63). -/
def dominantMicros (bit : Bool) : Nat :=
  if bit then 2 else 6

/-- The notice that this station sends from a place of its outbound set. -/
def State.ownNotice (k : Kind) (p : Pending) (s : State) : Notice :=
  ⟨k, s.settings.number, p.arg1, p.arg2⟩

/-- The first edge of a frame: no slot is read yet, and this station drives `bits` in slots 1 to
32 (R63). -/
def State.firstEdge (sending : Bool) (bits : List Bool) (s : State) : State :=
  { s with
    notices :=
      { s.notices with
        link := .frame ⟨[], sending⟩, drive := ⟨0, bits.map dominantMicros⟩ } }

/-- A frame begins at this station, with no slot read yet: it sends the pending notice of
lowest kind code, or receives where it holds none (R66). -/
def State.beginFrame (s : State) : State :=
  match s.notices.outbound.lowest with
  | none => s.firstEdge false []
  | some (k, p) => (s.launch k p).firstEdge true (s.ownNotice k p).slots

/-- The link is FREE and a notice is pending, so the station drives the first slot (R66). -/
def State.maySend (s : State) : Bool :=
  s.notices.link == .free && s.notices.outbound.lowest.isSome

/-- A station that finds the line free with a notice pending drives the first slot at once
(R66). -/
def State.sendIfFree (s : State) : State :=
  if s.maySend then s.beginFrame else s

/-- The FAULTs that hold the place of their kind: the pending one and the one in flight
(R77). -/
def State.heldFaults (s : State) : List Pending :=
  (s.pendingOf .fault).toList ++
    match s.notices.inFlight with
    | some f => if f.kind = .fault then [f.notice] else []
    | none => []

/-- A new FAULT with argument `arg1` is refused (R77): a rail FAULT holds the place, or a
station-level one holds it and the new one is station-level. Where a station-level FAULT is in
flight and a rail FAULT pending, both rows of R77 fit a new rail FAULT, and it is refused
(log 30). -/
def State.refusesFault (s : State) (arg1 : Byte) : Bool :=
  s.heldFaults.any fun p => p.arg1 != stationLevel || arg1 == stationLevel

/-- The sequence controller queues a notice (R77). A refused FAULT is one later fault. -/
def State.queueNotice (k : Kind) (arg1 arg2 : Byte) (s : State) : State :=
  if k = .fault ∧ s.refusesFault arg1 = true then s.countLaterFault
  else s.setPending k (some ⟨arg1, arg2, 0⟩)

/-- A station-level FAULT is queued (R91). -/
def State.queueStationFault (reason : Byte) (s : State) : State :=
  s.queueNotice .fault stationLevel reason

/-- The phase number as a notice argument. -/
def State.phaseByte (s : State) : Byte :=
  BitVec.ofNat 8 s.seq.phase

/-- The sequence controller withdraws a kind (R80). -/
def State.withdraw (k : Kind) (s : State) : State :=
  let t := s.setPending k none
  match t.notices.inFlight with
  | some f =>
    if f.kind = k then
      { t with notices := { t.notices with inFlight := some { f with withdrawn := true } } }
    else t
  | none => t

/-! ### BREAK -/

/-- The station issues BREAK (R81): not in DORMANT, and not while it drives one already. A
frame under way ends for this station. From FREE its own falling edge begins a frame (R65),
which is abandoned as an over-long slot (R64). A frame whose slot 33 has been read already ends
untaken as well (log 23). -/
def State.issueBreak (s : State) : State :=
  match s.notices.link, s.notices.breakDrive with
  | .dormant, _ => s
  | _, some _ => s
  | .frame _, none =>
    { s with
      notices := { s.notices with link := .waiting, breakDrive := some Config.breakDrive } }
  | .free, none =>
    let t := s.firstEdge false []
    { t with notices := { t.notices with breakDrive := some Config.breakDrive } }
  | .waiting, none
  | .broken, none => { s with notices := { s.notices with breakDrive := some Config.breakDrive } }

/-! ### Attempts -/

/-- What the requester does when one of its notices is dropped (R99). -/
def State.requesterDropped (k : Kind) (s : State) : State :=
  if !s.settings.roles.requester then s
  else
    match k with
    | .rise =>
      if (s.seq.mode = .off ∨ s.seq.mode = .lockout) ∧ s.front.pwrReq.level = true then
        { s with seq := { s.seq with wait := .fresh } }
      else s
    | .fall =>
      if s.seq.mode.active && !s.front.pwrReq.level then s.queueNotice .fall s.phaseByte 0
      else s
    | .sag => s
    | .commit => s
    | .fault => s
    | .mainsOk => s
    | .roll => s
    | .tally => s

/-- A notice of this station is dropped (R73, R99). -/
def State.dropNotice (k : Kind) (s : State) : State :=
  let t := s.countDrop
  match k with
  | .sag => t.issueBreak
  | .commit => t.issueBreak
  | .fault => t.issueBreak
  | .mainsOk => t
  | .fall => t.requesterDropped k
  | .rise => t.requesterDropped k
  | .roll => t
  | .tally => t

/-- The end of an attempt that was not taken (R73, R78): the notice in flight returns to its
place, charged or not, unless it is withdrawn, a newer one holds the place, or this was its
third charged attempt. -/
def State.returnInFlight (charged : Bool) (s : State) : State :=
  match s.notices.inFlight with
  | none => s
  | some f =>
    let t := { s with notices := { s.notices with inFlight := none } }
    if charged && decide (2 ≤ f.notice.resend) then t.dropNotice f.kind
    else if f.withdrawn || (t.pendingOf f.kind).isSome then t
    else
      t.setPending f.kind
        (some { f.notice with resend := f.notice.resend + (if charged then 1 else 0) })

/-! ### Roster -/

/-- Changes the entry of a station number, if there is one. -/
def State.modifyEntry (n : Nibble) (f : RosterEntry → RosterEntry) (s : State) : State :=
  { s with
    seq :=
      { s.seq with roster := s.seq.roster.map fun e => if e.number = n then f e else e } }

/-- Puts an entry at the place of its number, replacing the entry of that number (R93). -/
def rosterInsert (e : RosterEntry) : List RosterEntry → List RosterEntry
  | [] => [e]
  | x :: rest =>
    if e.number < x.number then e :: x :: rest
    else if e.number = x.number then e :: rest
    else x :: rosterInsert e rest

/-- Creates or replaces a roster entry. -/
def State.putEntry (e : RosterEntry) (s : State) : State :=
  { s with seq := { s.seq with roster := rosterInsert e s.seq.roster } }

/-- The station records a number clash (R75): the record's flag, the own entry's flag, the
alert, and FAULT NUMBER_CLASH in an active mode. -/
def State.recordClash (s : State) : State :=
  let t :=
    ({ s with cur := { s.cur with numberClash := true, alertPending := true } }).modifyEntry
      s.settings.number (fun e => { e with clash := true })
  if t.seq.mode.active then t.queueStationFault reasonNumberClash else t

end Sys2Proof.Machine
end

