-- ==== Sys2Proof/Machine/Rails.lean ====
section
/-! DEFINITION. The rail controller: enable, rail states, zone events, rail faults, commands, blank wait and dim wait (01_rails_and_the_rail_table.md), with restatement (R29). -/

namespace Sys2Proof.Machine

/-! ### Enable and timed states -/

/-- Applies the enable (R3, R5): a change restarts a transition boost, and applying it on
starts the measurement of the rise time. -/
def Rail.applyEnable (e : RailEntry) (level : Bool) (r : Rail) : Rail :=
  if r.applied = level then r
  else
    { r with
      applied := level
      boost := if e.drive = .openDrainBoost then some Config.transitionBoost else r.boost
      enableClock := if level then 0 else r.enableClock }

/-- The rail reaches OFF: its timer stops and its discharge request ends (R4, R16). -/
def Rail.toOff (r : Rail) : Rail :=
  { r with
    state := .off, timer := .stopped, dischargeRequest := false, restoring := false,
    requested := false }

/-- The rise time captured at zone GOOD, in whole 0.1 ms (R5; log 12). -/
def Rail.captureRise (r : Rail) : Rail :=
  { r with riseTime := some (BitVec.ofNat 16 (min 65535 (r.enableClock / Config.tenthMs))) }

/-- A rail timer of RAMPING or SETTLING: it starts held while the held condition is set
(R12). `units` is in 0.1 ms. -/
def State.railTimer (s : State) (units : Nat) : OneShot :=
  if s.ctl.held then OneShot.startHeld (units * Config.tenthMs)
  else OneShot.start (units * Config.tenthMs)

/-- The rail as it enters FALLING, before restatement (R4, R16). -/
def Rail.fall (e : RailEntry) (urgent : Bool) (r : Rail) : Rail :=
  { r.applyEnable e false with
    state := .falling
    requested := false
    restoring := false
    timer :=
      OneShot.start ((if urgent then e.urgentFallLimit else e.fallLimit) * Config.tenthMs)
    dischargeRequest := urgent || (!e.sense && e.discharge.isSome)
    urgentFall := urgent }

/-- Entry to FALLING (R16) with restatement (R29). `forced` is set for a rail fault and a
force off. -/
def State.enterFalling (i : Fin 8) (forced : Bool) (s : State) : State :=
  let e := s.entry i
  let r := (s.rail i).fall e (forced || s.urgent)
  s.setRail i (if e.sense && s.zone i == some .off then r.toOff else r)

/-- When no rail is ARMED any more, the blank-wait timer stops (R19). -/
def State.tidyBlankWait (s : State) : State :=
  if s.anyArmed then s else { s with ctl := { s.ctl with blankTimer := .stopped } }

/-! ### Reports (R21) -/

/-- The answer to a rail fault report (R91). -/
def State.reportRailFault (i : Fin 8) (reason : RailReason) (s : State) : State :=
  if s.seq.mode.active then
    s.queueNotice .fault (BitVec.ofNat 8 i.val) (BitVec.ofNat 8 reason.code)
  else s.countLaterFault

/-- The answer to a rail sag report (R140). -/
def State.reportRailSag (s : State) : State :=
  if s.seq.mode = .riding then
    s.queueNotice .commit (BitVec.ofNat 8 CommitCause.railSag.code) s.phaseByte
  else s

/-- A rail fault (R18). -/
def State.railFault (i : Fin 8) (reason : RailReason) (s : State) : State :=
  (((s.modifyRail i fun r => { r with faultReason := some reason }).enterFalling i
    true).tidyBlankWait).reportRailFault i reason

/-- Entry to SETTLING (R7, R10, R13). -/
def State.enterSettling (i : Fin 8) (s : State) : State :=
  s.modifyRail i fun r =>
    { r.applyEnable (s.entry i) true with
      state := .settling, timer := s.railTimer (s.entry i).settleTime }

/-- Zone GOOD accepted in RAMPING: the rise time is captured and the rail settles (R13). -/
def State.rampedUp (i : Fin 8) (s : State) : State :=
  (s.modifyRail i Rail.captureRise).enterSettling i

/-- Entry to RAMPING (R7, R10, R19) with restatement (R29). -/
def State.enterRamping (i : Fin 8) (s : State) : State :=
  let t := s.modifyRail i fun r =>
    { r.applyEnable (s.entry i) true with
      state := .ramping, timer := s.railTimer (s.entry i).riseLimit }
  match s.zone i with
  | some .good => t.rampedUp i
  | some .high => t.railFault i .over
  | some .low => t
  | some .off => t
  | none => t

/-- The enable of a rail is applied on: RAMPING with sense present, else SETTLING (R7, R10,
R19). -/
def State.bringUp (i : Fin 8) (s : State) : State :=
  if (s.entry i).sense then s.enterRamping i else s.enterSettling i

/-! ### Blank wait (R19) -/

/-- A rail joins the blank wait. -/
def State.joinBlankWait (s : State) : State :=
  match s.ctl.blankTimer with
  | .stopped =>
    { s with
      ctl := { s.ctl with blankTimer := OneShot.start (s.settings.blankWait * Config.oneMs) } }
  | .running _ => s
  | .paused _ => s

/-- An ARMED rail applies its change. -/
def State.applyArmed (i : Fin 8) (s : State) : State :=
  match (s.rail i).state with
  | .armedOn => s.bringUp i
  | .armedOff => s.enterFalling i false
  | .off => s
  | .ramping => s
  | .settling => s
  | .good => s
  | .shed => s
  | .dimWait => s
  | .falling => s
  | .discharging => s

/-- The blank wait ends: its timer stops and every ARMED rail applies its change. -/
def State.endBlankWait (s : State) : State :=
  ({ s with ctl := { s.ctl with blankTimer := .stopped } }).forEachRail State.applyArmed

/-- A filtered VBLANK rising edge. -/
def State.vblankEdge (s : State) : State :=
  if s.anyArmed then s.endBlankWait else s

/-! ### Commands (R7 to R12) -/

/-- The record cleared by a switch on taken in OFF (R7). -/
def Rail.cleared (r : Rail) : Rail :=
  { r with
    faultReason := none, slowFall := false, riseTime := none, glitches := 0,
    restoring := false, requested := true }

/-- Switch on (R7). -/
def State.switchOn (i : Fin 8) (s : State) : State :=
  if (s.entry i).present && (s.rail i).state == .off then
    let t := s.modifyRail i Rail.cleared
    if (s.entry i).blankAligned && !s.urgent && !s.ctl.solo then
      (t.modifyRail i fun r => { r with state := .armedOn }).joinBlankWait
    else t.bringUp i
  else s

/-- Switch off of a rail whose enable is applied and which serves (R8). -/
def State.switchOffServing (i : Fin 8) (s : State) : State :=
  let e := s.entry i
  if e.blankAligned && !s.urgent && !s.ctl.solo then
    (s.modifyRail i fun r =>
      { r with
        state := .armedOff, timer := .stopped, restoring := false,
        requested := false }).joinBlankWait
  else if e.dimGated && !s.urgent && !s.zeroReport then
    s.modifyRail i fun r =>
      { r with state := .dimWait, timer := .stopped, restoring := false, requested := false }
  else s.enterFalling i false

/-- Switch off (R8). -/
def State.switchOff (i : Fin 8) (s : State) : State :=
  if (s.entry i).present then
    match (s.rail i).state with
    | .armedOn => (s.modifyRail i Rail.toOff).tidyBlankWait
    | .ramping => s.switchOffServing i
    | .settling => s.switchOffServing i
    | .good => s.switchOffServing i
    | .shed => s.modifyRail i Rail.toOff
    | .off => s
    | .armedOff => s
    | .dimWait => s
    | .falling => s
    | .discharging => s
  else s

/-- Shed (R9). -/
def State.shed (i : Fin 8) (s : State) : State :=
  if (s.entry i).present && (s.entry i).sheddable && (s.rail i).state.serving then
    s.modifyRail i fun r =>
      { r.applyEnable (s.entry i) false with
        state := .shed, timer := .stopped, restoring := false, requested := false }
  else s

/-- Restore (R10). -/
def State.restore (i : Fin 8) (s : State) : State :=
  if (s.entry i).present && (s.rail i).state == .shed then
    (s.modifyRail i fun r => { r with requested := true, restoring := true }).bringUp i
  else s

/-- A FALLING rail requests discharge and its time is bounded by the urgent fall limit (R11,
R16). -/
def State.hurryFall (i : Fin 8) (s : State) : State :=
  s.modifyRail i fun r =>
    { r with
      dischargeRequest := true
      timer := r.timer.shorten ((s.entry i).urgentFallLimit * Config.tenthMs) }

/-- Force off of one rail (R11). -/
def State.forceRailOff (i : Fin 8) (s : State) : State :=
  if (s.entry i).present then
    match (s.rail i).state with
    | .armedOn => s.modifyRail i Rail.toOff
    | .shed => s.modifyRail i Rail.toOff
    | .ramping => s.enterFalling i true
    | .settling => s.enterFalling i true
    | .good => s.enterFalling i true
    | .armedOff => s.enterFalling i true
    | .dimWait => s.enterFalling i true
    | .falling => s.hurryFall i
    | .discharging => s
    | .off => s
  else s

/-- Force off (R11). -/
def State.forceOff (s : State) : State :=
  (s.forEachRail State.forceRailOff).tidyBlankWait

/-- A rail timer that stands still while held (R12). -/
def Rail.pauseTimed (r : Rail) : Rail :=
  if r.state == .ramping || r.state == .settling then { r with timer := r.timer.pause } else r

/-- A standing rail timer runs on (R12). -/
def Rail.resumeTimed (r : Rail) : Rail :=
  if r.state == .ramping || r.state == .settling then { r with timer := r.timer.resume } else r

/-- Hold (R12). -/
def State.hold (s : State) : State :=
  ({ s with ctl := { s.ctl with held := true } }).forEachRail
    fun i t => t.modifyRail i Rail.pauseTimed

/-- Resume (R12). -/
def State.resume (s : State) : State :=
  ({ s with ctl := { s.ctl with held := false } }).forEachRail
    fun i t => t.modifyRail i Rail.resumeTimed

/-- Switch on to the rails of up phase `k` (R103). -/
def State.switchOnPhase (k : Nat) (s : State) : State :=
  s.forEachRail fun i t => if (t.entry i).upPhase = k then t.switchOn i else t

/-- Switch off to the rails of down phase `d` (R117, R119, R126). -/
def State.switchOffPhase (d : Nat) (s : State) : State :=
  s.forEachRail fun i t => if (t.entry i).downPhase = d then t.switchOff i else t

/-! ### Zone events (R13 to R17) -/

/-- One glitch, saturating (R5). -/
def Rail.countGlitch (r : Rail) : Rail :=
  { r with glitches := satInc r.glitches }

/-- A dip of a SETTLING rail while ride is set (R14). -/
def State.dipSettling (i : Fin 8) (s : State) : State :=
  (s.modifyRail i fun r =>
    { r.countGlitch with
      state := .ramping, timer := s.railTimer (s.entry i).riseLimit }).reportRailSag

/-- A dip of a GOOD rail while ride is set (R15). -/
def State.dipGood (i : Fin 8) (s : State) : State :=
  (s.modifyRail i Rail.countGlitch).reportRailSag

/-- Zone GOOD accepted (R13 to R17). -/
def State.zoneGood (i : Fin 8) (s : State) : State :=
  match (s.rail i).state with
  | .ramping => s.rampedUp i
  | .off => s
  | .armedOn => s
  | .armedOff => s
  | .settling => s
  | .good => s
  | .shed => s
  | .dimWait => s
  | .falling => s
  | .discharging => s

/-- Zone HIGH accepted (R13 to R17). -/
def State.zoneHigh (i : Fin 8) (s : State) : State :=
  match (s.rail i).state with
  | .ramping => s.railFault i .over
  | .settling => s.railFault i .over
  | .good => s.railFault i .over
  | .armedOff => s.railFault i .over
  | .dimWait => s.railFault i .over
  | .off => s
  | .armedOn => s
  | .shed => s
  | .falling => s
  | .discharging => s

/-- Zone LOW or OFF accepted; `isOff` for OFF (R13 to R17). -/
def State.zoneLow (i : Fin 8) (isOff : Bool) (s : State) : State :=
  match (s.rail i).state with
  | .settling => if s.ctl.ride then s.dipSettling i else s.railFault i .dip
  | .good => if s.ctl.ride then s.dipGood i else s.railFault i .dip
  | .falling => if isOff then s.modifyRail i Rail.toOff else s
  | .discharging => if isOff then s.modifyRail i Rail.toOff else s
  | .ramping => s
  | .off => s
  | .armedOn => s
  | .armedOff => s
  | .shed => s
  | .dimWait => s

/-- A zone event reaches rail `i` (R28). -/
def State.zoneEvent (i : Fin 8) (z : Zone) (s : State) : State :=
  match z with
  | .good => s.zoneGood i
  | .high => s.zoneHigh i
  | .low => s.zoneLow i false
  | .off => s.zoneLow i true

/-! ### Conditions (R6) -/

/-- The onset of urgency at one rail (R16, R19, R20, R121). -/
def State.urgentRail (i : Fin 8) (s : State) : State :=
  match (s.rail i).state with
  | .armedOff => s.enterFalling i true
  | .dimWait => s.enterFalling i true
  | .falling => if (s.rail i).urgentFall then s else s.hurryFall i
  | .off => s
  | .armedOn => s
  | .ramping => s
  | .settling => s
  | .good => s
  | .shed => s
  | .discharging => s

/-- The onset of urgency at the rails. -/
def State.urgentRails (s : State) : State :=
  (s.forEachRail State.urgentRail).tidyBlankWait

/-- The onset of solo at one rail (R19). -/
def State.soloRail (i : Fin 8) (s : State) : State :=
  match (s.rail i).state with
  | .armedOff => s.enterFalling i false
  | .armedOn => s.modifyRail i Rail.toOff
  | .off => s
  | .ramping => s
  | .settling => s
  | .good => s
  | .shed => s
  | .dimWait => s
  | .falling => s
  | .discharging => s

/-- The solo condition is set (R6, R19). -/
def State.setSolo (s : State) : State :=
  (({ s with ctl := { s.ctl with solo := true } }).forEachRail State.soloRail).tidyBlankWait

/-- The end of ride at one rail: a GOOD rail whose accepted zone is LOW or OFF faults (R15). -/
def State.rideEndRail (i : Fin 8) (s : State) : State :=
  if (s.rail i).state = .good ∧ (s.zone i = some .low ∨ s.zone i = some .off) then
    s.railFault i .dip
  else s

/-- The ride condition is cleared (R15). -/
def State.clearRide (s : State) : State :=
  if s.ctl.ride then
    ({ s with ctl := { s.ctl with ride := false } }).forEachRail State.rideEndRail
  else s

/-- The zero ceiling report becomes true: a DIM_WAIT rail falls (R20). -/
def State.dimWaitEnds (i : Fin 8) (s : State) : State :=
  if (s.rail i).state = .dimWait then s.enterFalling i false else s

/-! ### Rail-timer expiries (R13, R14, R16, R17) -/

/-- The rail timer of rail `i` has run out in state `st`, so its expiry belongs to that state
(R38). -/
def State.timedIn (s : State) (i : Fin 8) (st : RailState) : Bool :=
  (s.rail i).state == st && (s.rail i).timer.due

/-- The rail timer has expired: it is STOPPED (R38). -/
def State.stopRailTimer (i : Fin 8) (s : State) : State :=
  s.modifyRail i fun r => { r with timer := .stopped }

/-- Rise-limit expiry of a RAMPING rail (R13). -/
def State.riseLimitExpired (i : Fin 8) (s : State) : State :=
  (s.stopRailTimer i).railFault i
    (if (s.rail i).restoring then .restoreTimeout else .riseTimeout)

/-- Settle expiry of a SETTLING rail (R14). -/
def State.settleExpired (i : Fin 8) (s : State) : State :=
  s.modifyRail i fun r => { r with state := .good, timer := .stopped, restoring := false }

/-- Expiry of a FALLING rail (R16). -/
def State.fallExpired (i : Fin 8) (s : State) : State :=
  let e := s.entry i
  if e.sense && !(s.rail i).urgentFall && !s.urgent && e.discharge.isSome then
    s.modifyRail i fun r =>
      { r with
        state := .discharging, dischargeRequest := true,
        timer := OneShot.start (e.fallLimit * Config.tenthMs) }
  else if e.sense then s.modifyRail i fun r => { r.toOff with slowFall := true }
  else s.modifyRail i Rail.toOff

/-- Expiry of a DISCHARGING rail (R17). -/
def State.dischargeExpired (i : Fin 8) (s : State) : State :=
  s.modifyRail i fun r => { r.toOff with slowFall := true }

end Sys2Proof.Machine
end

