-- ==== Sys2Proof/Machine/Dimming.lean ====
section
/-! DEFINITION. The dimming channel: capture of DIM_IN, period boundaries, ceilings, cuts and the zero ceiling report (10_dimming_channel.md). -/

namespace Sys2Proof.Machine

/-- The station has a dimming channel (10_dimming_channel.md, introduction). -/
def State.hasDimming (s : State) : Bool := s.settings.roles.backlight

/-- The ceiling in effect changes, and the zero ceiling report with it (R153). A report that
becomes true lets each DIM_WAIT rail fall (R20). -/
def State.setCeiling (c : Ceiling) (s : State) : State :=
  let was := s.dim.ceiling
  let t := { s with dim := { s.dim with ceiling := c } }
  if c = .limited 0 then
    if was = .limited 0 then t
    else
      ({ t with dim := { t.dim with zeroReport := true } }).forEachRail State.dimWaitEnds
  else if was = .limited 0 then { t with dim := { t.dim with zeroReport := false } }
  else t

/-- The cut command (R152). -/
def State.dimCut (s : State) : State :=
  if s.hasDimming then
    ({ s with
        dim :=
          { s.dim with
            setting := .zero, rampIndex := 0, capLimit := none, liftFloor := .limited 0,
            active := false, activeLeft := none } }).setCeiling (.limited 0)
  else s

/-- The zero command (R151). -/
def State.dimZero (s : State) : State :=
  if s.hasDimming then { s with dim := { s.dim with setting := .zero } } else s

/-- The zero command at an entry to DESCENDING: DIM_OUT goes inactive in the middle of the
period and stays so until a boundary, also where ON is entered before it (R150; log 25). -/
def State.dimZeroDark (s : State) : State :=
  if s.hasDimming then
    { s with dim := { s.dim with setting := .zero, active := false, activeLeft := none } }
  else s

/-- The ramp command (R151). -/
def State.dimRamp (s : State) : State :=
  if s.hasDimming then { s with dim := { s.dim with setting := .ramp, rampIndex := 0 } } else s

/-- The cap limit taken at the cap command: an unlimited ceiling gives none (R151). -/
def Ceiling.capLimit : Ceiling → Option Nat
  | .limited n => some n
  | .unlimited => none

/-- The cap command (R151). -/
def State.dimCap (s : State) : State :=
  if s.hasDimming then
    { s with dim := { s.dim with setting := .cap, capLimit := s.dim.ceiling.capLimit } }
  else s

/-- The lift command (R151). -/
def State.dimLift (s : State) : State :=
  if s.hasDimming then
    if s.seq.returnMode = .on then
      { s with
        dim := { s.dim with setting := .lift, rampIndex := 0, liftFloor := s.dim.ceiling } }
    else s.dimZero
  else s

/-! ### Period boundaries (R149) -/

/-- The smaller of a high time and a ceiling. -/
def Ceiling.clip (c : Ceiling) (h : Nat) : Nat :=
  match c with
  | .limited n => min h n
  | .unlimited => h

/-- The larger of a lift floor and a time in µs (R151). -/
def Ceiling.atLeast (floor : Ceiling) (us : Nat) : Ceiling :=
  match floor with
  | .limited n => .limited (max n us)
  | .unlimited => .unlimited

/-- The output period fixed at a boundary (R149). -/
def State.nextPeriod (s : State) : Nat :=
  if s.settings.fixedDimSource then s.settings.fallbackPeriod
  else
    match s.dim.capture, s.dim.pair with
    | .tracking, some p => p.period
    | .tracking, none => s.settings.fallbackPeriod
    | .level, _ => s.settings.fallbackPeriod

/-- The requested high time fixed at a boundary (R149), by the level rule in LEVEL (R148). -/
def State.nextHigh (s : State) : Nat :=
  if s.settings.fixedDimSource then s.settings.fixedDuty * s.nextPeriod / 100
  else
    match s.dim.capture, s.dim.pair with
    | .tracking, some p => p.high
    | .tracking, none => if s.front.dimIn.level then s.nextPeriod else 0
    | .level, _ => if s.front.dimIn.level then s.nextPeriod else 0

/-- The ramp index at the next boundary (R151). -/
def State.nextRampIndex (s : State) : Nat :=
  match s.dim.setting with
  | .ramp => s.dim.rampIndex + 1
  | .lift => s.dim.rampIndex + 1
  | .zero => s.dim.rampIndex
  | .cap => s.dim.rampIndex
  | .full => s.dim.rampIndex

/-- The ceiling at the next boundary (R151). -/
def State.nextCeiling (s : State) : Ceiling :=
  let p := s.nextPeriod
  let r := s.settings.rampPeriods
  let j := s.nextRampIndex
  match s.dim.setting with
  | .zero => .limited 0
  | .full => .unlimited
  | .ramp => if j < r then .limited (j * (p / r)) else .unlimited
  | .lift => if j < r then s.dim.liftFloor.atLeast (j * (p / r)) else .unlimited
  | .cap =>
    let c := s.settings.shedCap * p / 100
    match s.dim.capLimit with
    | some l => .limited (min c l)
    | none => .limited c

/-- The setting after the next boundary: RAMP and LIFT become FULL where their ceiling
becomes unlimited (R151). -/
def State.nextSetting (s : State) : CeilingSetting :=
  match s.dim.setting with
  | .ramp => if s.nextCeiling = .unlimited then .full else .ramp
  | .lift => if s.nextCeiling = .unlimited then .full else .lift
  | .zero => .zero
  | .cap => .cap
  | .full => .full

/-- A period boundary (R149, R151, R153). -/
def State.boundary (s : State) : State :=
  let p := s.nextPeriod
  let a := s.nextCeiling.clip s.nextHigh
  ({ s with
      dim :=
        { s.dim with
          outPeriod := p, rampIndex := s.nextRampIndex, setting := s.nextSetting,
          boundaryLeft := some p, active := decide (0 < a),
          activeLeft := if 0 < a ∧ a < p then some a else none } }).setCeiling s.nextCeiling

/-! ### Capture (R147, R148) -/

/-- The capture falls back to LEVEL with the pair absent (R148). -/
def Dimming.toLevel (d : Dimming) : Dimming :=
  { d with capture := .level, pair := none }

/-- A completed period (R147, R148). -/
def Dimming.completed (d : Dimming) (period high : Nat) : Dimming :=
  if Config.minPeriod ≤ period ∧ period ≤ Config.maxPeriod then
    { d with pair := some ⟨period, high⟩, capture := .tracking }
  else d.toLevel

/-- A filtered DIM_IN edge of the measured source, rising when `level` is true (R147). -/
def Dimming.edge (level : Bool) (d : Dimming) : Dimming :=
  let d := { d with silence := 0 }
  match level, d.measurement with
  | true, none => { d with measurement := some ⟨0, none⟩ }
  | true, some ⟨since, some high⟩ =>
    { d.completed since high with measurement := some ⟨0, none⟩ }
  | true, some ⟨_, none⟩ => { d with measurement := some ⟨0, none⟩ }
  | false, none => d
  | false, some ⟨since, none⟩ => { d with measurement := some ⟨since, some since⟩ }
  | false, some ⟨_, some _⟩ => d

/-- A silence timeout (R148). -/
def Dimming.silent (d : Dimming) : Dimming :=
  match d.capture with
  | .tracking => { d.toLevel with measurement := none }
  | .level => { d with measurement := none }

/-- A measurement overflow (R147, R148). -/
def Dimming.overflow (d : Dimming) : Dimming :=
  match d.measurement with
  | some _ => { d.toLevel with measurement := none }
  | none => d

/-- The channel captures DIM_IN: the BACKLIGHT role and the measured source (R22, R146). -/
def State.captures (s : State) : Bool :=
  s.loaded && s.hasDimming && !s.settings.fixedDimSource

/-- The silence count has reached its limit (R148). -/
def State.silenceDue (s : State) : Bool :=
  s.captures &&
    match s.dim.capture, s.dim.pair with
    | .tracking, some p => decide (3 * p.period ≤ s.dim.silence)
    | .tracking, none => false
    | .level, _ => s.dim.measurement.isSome && decide (Config.levelSilence ≤ s.dim.silence)

/-- The measurement in progress has reached its limit (R147). -/
def State.overflowDue (s : State) : Bool :=
  s.captures &&
    match s.dim.measurement with
    | some m => decide (Config.measurementLimit ≤ m.since)
    | none => false

/-- A period boundary has come (R149). -/
def State.boundaryDue (s : State) : Bool :=
  s.loaded && s.hasDimming && s.dim.boundaryLeft == some 0

/-- DIM_IN is to be sampled at this base tick (R22; log 28). -/
def State.dimInSampleDue (s : State) : Bool :=
  s.captures && s.front.dimInDue

/-- The level of DIM_IN at this base tick is seen (R22). -/
def State.seeDimIn (level : Bool) (s : State) : State :=
  { s with front := { s.front with dimInDue := false, dimInLevel := level } }

/-- A sample of DIM_IN (R22, R33, R34). -/
def State.sampleDimIn (level : Bool) (s : State) : State :=
  let r := s.front.dimIn.sample s.settings.filterBypass level
  let t := { s with front := { s.front with dimIn := r.1 } }
  match r.2 with
  | some l => { t with dim := t.dim.edge l }
  | none => t

end Sys2Proof.Machine
end

