-- ==== Sys2Proof/Machine/HoldUpTimer.lean ====
section
/-! DEFINITION. The hold-up timer with the urgent condition it sets and clears (R43 to R45). -/

namespace Sys2Proof.Machine

/-- The onset of urgency: at the rails (R121) and, in DESCENDING, as a cut of the dimming
channel (R152). -/
def State.urgentSet (s : State) : State :=
  if s.seq.mode = .descending then s.urgentRails.dimCut else s.urgentRails

/-- Start from 0 (R43); budget passed is cleared (R130). -/
def State.holdUpStart (s : State) : State :=
  let t :=
    { s with
      holdUp :=
        { s.holdUp with running := true, count := 0, sub := 0, armedA := true, armedP := true }
      seq := { s.seq with budgetPassed := false } }
  if s.holdUp.running then t else t.urgentSet

/-- Start if stopped (R43). -/
def State.holdUpStartIfStopped (s : State) : State :=
  if s.holdUp.running then s else s.holdUpStart

/-- A plain stop (R43); budget passed is cleared (R130). -/
def State.holdUpStop (s : State) : State :=
  { s with
    holdUp := { s.holdUp with running := false }
    seq := { s.seq with budgetPassed := false } }

/-- Stop with capture (R43, R45), and the longest hold-up of the run (R138, R156). -/
def State.holdUpStopCapture (s : State) : State :=
  if s.holdUp.running then
    let c := s.holdUp.count
    { s with
      holdUp := { s.holdUp with running := false, capture := c }
      seq := { s.seq with budgetPassed := false }
      cur :=
        { s.cur with longestHoldUp := if s.cur.longestHoldUp < c then c else s.cur.longestHoldUp } }
  else { s with seq := { s.seq with budgetPassed := false } }

/-- An armed compare is reached by the running count (R44). -/
def HoldUp.reached (h : HoldUp) (armed : Bool) (compare : Option Half) : Bool :=
  h.running && armed &&
    match compare with
    | some v => decide (v ≤ h.count)
    | none => false

/-- The window expiry is to be delivered (R44). -/
def HoldUp.windowDue (h : HoldUp) : Bool :=
  h.reached h.armedA h.compareA

/-- The budget expiry is to be delivered: where both compares are matched at one tick, after the
window expiry (R44). -/
def HoldUp.budgetDue (h : HoldUp) : Bool :=
  h.reached h.armedP h.compareP && !h.windowDue

/-- Compare A is matched: it is disarmed (R44). -/
def HoldUp.matchA (h : HoldUp) : HoldUp :=
  { h with armedA := false }

/-- Compare P is matched: it is disarmed (R44). -/
def HoldUp.matchP (h : HoldUp) : HoldUp :=
  { h with armedP := false }

/-- One base tick of the hold-up timer (R43): one count every 100 ticks, up to 65535. -/
def HoldUp.tick (h : HoldUp) : HoldUp :=
  if h.running then
    if h.sub + 1 < Config.tenthMs then { h with sub := h.sub + 1 }
    else { h with sub := 0, count := satInc h.count }
  else h

/-- The phase timer's start (R42, R58). -/
def State.startPhase (setting : PhaseSetting) (s : State) : State :=
  let units :=
    match setting with
    | .phaseLimit => s.settings.phaseLimit
    | .rollTimeout => s.settings.rollTimeout
  { s with
    timers := { s.timers with phase := OneShot.start (units * Config.tenMs), phaseSetting := setting } }

/-- The phase timer's pause at an entry to RIDING (R42). At the tick of its expiry the pause is
first, and the expiry comes at the resume, or the expiry is first, and the pause has no effect,
so that the expiry reaches the station in RIDING (R38, R60; log 29). -/
def State.pausePhase (s : State) : State :=
  if s.timers.phase.due then
    (if Config.expiryBeforePause s.freeIndex then s
    else { s with timers := { s.timers with phase := s.timers.phase.pause } }).nextFree
  else { s with timers := { s.timers with phase := s.timers.phase.pause } }

/-- The retry/rest timer's start (R47). -/
def State.startRetry (setting : RetrySetting) (s : State) : State :=
  let units :=
    match setting with
    | .retryDelay => s.settings.retryDelay
    | .restTime => s.settings.restTime
  { s with
    timers :=
      { s.timers with retry := OneShot.start (units * Config.hundredMs), retrySetting := setting } }

/-- The quiet timer's start (R46). -/
def State.startQuiet (s : State) : State :=
  { s with
    timers := { s.timers with quiet := OneShot.start (s.settings.quietTime * Config.hundredMs) } }

/-- The mute-release timer's start in ON (R48). With an unmute delay of 0 the expiry follows at
the same instant, and MUTE is deasserted (R114). -/
def State.startMute (s : State) : State :=
  let delay := s.settings.unmuteDelay
  { s with
    timers :=
      { s.timers with
        mute := if delay = 0 then .stopped else OneShot.start (delay * Config.oneMs) }
    mute := s.mute && decide (delay ≠ 0) }

/-- The phase timer's stop (R58). -/
def State.stopPhase (s : State) : State :=
  { s with timers := { s.timers with phase := .stopped } }

/-- The quiet and mute-release timers' stop on leaving ON (R46, R48). -/
def State.stopOnTimers (s : State) : State :=
  { s with timers := { s.timers with quiet := .stopped, mute := .stopped } }

/-- The retry/rest timer's stop (R125). -/
def State.stopRetryTimer (s : State) : State :=
  { s with timers := { s.timers with retry := .stopped } }

/-- The retry/rest timer's stop, with the requester wait (R96). -/
def State.stopRetry (s : State) : State :=
  { s with
    timers := { s.timers with retry := .stopped }
    seq := { s.seq with wait := .none } }

end Sys2Proof.Machine
end

