-- ==== Sys2Proof/Machine/Phases.lean ====
section
/-! DEFINITION. The phase line and the mode machine: claims and releases (R49 to R52), entries to the modes (R92, R110, R117, R124, R125, R129, R134), taken rises (R54), and what follows every step at once (R52, R126, R129). -/

namespace Sys2Proof.Machine

/-! ### Claims -/

/-- HOLD is seen at a level (R53). A change to high begins a high interval, and a low ends
it; each clears the rise-taken flag. That HOLD was high for 2 µs within a claim is kept to the
end of the claim. Nothing is watched before a load. -/
def State.seeHold (level : Bool) (s : State) : State :=
  if s.loaded then
    { s with
      line :=
        { s.line with
          high := level
          riseTaken := s.line.riseTaken && s.line.high && level } }
  else s

/-- A claim at once (R50, R51): a station that already claims keeps its claim with its
minimum-hold flag as it stands. A new claim pulls the line low (log 9). -/
def State.claimNow (s : State) : State :=
  if s.line.claimed then s
  else
    { s with
      line :=
        { claimed := true, minHold := false, minHoldLeft := some Config.minimumHold,
          reclaim := none, high := false, riseTaken := false, highTwo := false,
          faultDelivered := false } }

/-- A claim at the re-claim delay (R50, R55). -/
def State.claimLater (s : State) : State :=
  { s with line := { s.line with reclaim := some Config.reclaimDelay } }

/-- HOLD is let go (R49, R52). -/
def State.release (s : State) : State :=
  { s with line := { s.line with claimed := false, minHoldLeft := none } }

/-- Leaving the claiming modes: the line is released at once, and a claim due is withdrawn
(R49, R50). -/
def State.leaveClaim (s : State) : State :=
  { s with line := { s.line with claimed := false, minHoldLeft := none, reclaim := none } }

/-! ### Requester -/

/-- The requester at entry to OFF with PWR_REQ asserted (R96). -/
def State.requestAtOff (s : State) : State :=
  match s.seq.lastCause with
  | .none | .request => { s.queueNotice .rise 0 0 with seq := { s.seq with wait := .none } }
  | .fault | .brk => { s.startRetry .retryDelay with seq := { s.seq with wait := .retry } }
  | .brownout =>
    if s.settings.autoResume then
      { s.startRetry .restTime with seq := { s.seq with wait := .rest } }
    else { s with seq := { s.seq with wait := .fresh } }

/-- The requester's part of an entry to OFF (R96). -/
def State.requesterEntersOff (s : State) : State :=
  if s.settings.roles.requester then
    if s.front.pwrReq.level then s.requestAtOff else { s with seq := { s.seq with wait := .none } }
  else s

/-! ### Entry to ROLLCALL (R92) -/

/-- Rotation of the run records (R158). -/
def State.rotate (s : State) : State :=
  { s with
    last := s.cur
    cur :=
      { RunRecord.cleared with
        runNumber := s.cur.runNumber + 1, alertPending := s.cur.alertPending } }

/-- Step 3 of R92: every heard flag cleared, the own entry heard. -/
def State.clearHeard (own : Bool) (s : State) : State :=
  { s with
    seq :=
      { s.seq with
        roster :=
          s.seq.roster.map fun e =>
            { e with heard := own && e.number == s.settings.number } } }

/-- ROLL is queued with the station's own configuration (R92 step 6, R165). -/
def State.queueRoll (s : State) : State :=
  s.queueNotice .roll (rollArg1 s.settings.roles s.loader.profile) (rollArg2 s.settings)

/-- SAG is queued with the present phase and mode code (R131, R132). -/
def State.queueSag (s : State) : State :=
  s.queueNotice .sag s.phaseByte (BitVec.ofNat 8 s.seq.mode.code)

/-- A MAINS station whose accepted zone is SAG reports it (R132). -/
def State.reportStandingSag (s : State) : State :=
  if s.settings.roles.mains && s.front.msns.accepted == some .sag then s.queueSag else s

/-- A requester that no longer wants the set queues FALL at entry to ROLLCALL (R98). -/
def State.refuseRollcall (s : State) : State :=
  if s.settings.roles.requester && !s.front.pwrReq.level then s.queueNotice .fall s.phaseByte 0
  else s

/-- Entry to ROLLCALL (R92, with R130, R132, R155). `atOnce` is clear for the entry that
follows the final rise of a descent, whose claim waits for the re-claim delay (R50). -/
def State.enterRollcall (atOnce : Bool) (s : State) : State :=
  let s := s.rotate
  let s := { s with seq := { s.seq with signature := 0xFFFF, tally := 0xFFFF } }
  let s := s.clearHeard true
  let s :=
    { s with
      seq :=
        { s.seq with
          mode := .rollcall, phase := 0, returnMode := .none, recovered := false,
          cause := .none, heldRise := none, mainsReturned := false } }
  let s := s.stopRetry
  let s := if atOnce then s.claimNow else s.claimLater
  let s := s.queueRoll
  let s := s.startPhase .rollTimeout
  s.refuseRollcall.reportStandingSag

/-! ### Ends of descent and of SOLO -/

/-- The attempt count and the last descent cause at the end of a descent or SOLO (R100). -/
def State.countAttempt (s : State) : State :=
  let n :=
    match s.seq.cause with
    | .request => 0
    | .fault | .brk => min (s.seq.attempts + 1) (s.settings.retryLimit + 1)
    | .brownout | .none => s.seq.attempts
  { s with seq := { s.seq with attempts := n, lastCause := s.seq.cause } }

/-- Entry to LOCKOUT (R101, R159). -/
def State.enterLockout (s : State) : State :=
  (({ s with
      seq := { s.seq with mode := .lockout, phase := 0, cause := .none } }).setOutcome
    .lockout).raiseAlert

/-- A held RISE, the requester, or nothing, at the entry to OFF or LOCKOUT (R88, R124). -/
def State.settleIdle (atOnce : Bool) (s : State) : State :=
  match s.seq.heldRise with
  | some a =>
    if s.seq.mode = .off then s.enterRollcall atOnce
    else if a = 0 then
      ({ s with seq := { s.seq with attempts := 0 } }).enterRollcall atOnce
    else { s with seq := { s.seq with heldRise := none } }
  | none => if s.seq.mode = .off then s.requesterEntersOff else s

/-- Entry to OFF or LOCKOUT at the end of a descent or SOLO (R100, R124, R129). -/
def State.enterIdle (atOnce : Bool) (s : State) : State :=
  let s := s.countAttempt.leaveClaim
  let s :=
    if s.settings.retryLimit < s.seq.attempts then s.enterLockout
    else { s with seq := { s.seq with mode := .off, phase := 0, cause := .none } }
  s.settleIdle atOnce

/-- The end of descent (R124). -/
def State.endDescent (s : State) : State :=
  s.stopPhase.holdUpStop.enterIdle false

/-- The end of SOLO (R129). -/
def State.endSolo (s : State) : State :=
  let s := s.holdUpStop
  ({ s with ctl := { s.ctl with solo := false } }).enterIdle true

/-! ### Ascent -/

/-- RISING at phase `k` by a taken rise (R54, R103, R154). -/
def State.enterRising (k : Nat) (s : State) : State :=
  let s :=
    { s with
      seq :=
        { s.seq with mode := .rising, phase := k, returnMode := .none, recovered := false } }
  ((s.startPhase .phaseLimit).claimLater.feed (BitVec.ofNat 8 k)).switchOnPhase k

/-- MUTE's timer at an entry to ON (R110). -/
def State.startMuteIfPanel (s : State) : State :=
  if s.settings.roles.panel then s.startMute else s

/-- ON at phase N: released, the phase timer stopped, the rise fed, the quiet timer started
(R54, R58, R110, R139, R154). -/
def State.arriveOn (s : State) : State :=
  let n := s.settings.phaseCount
  let s :=
    { s with
      seq := { s.seq with mode := .on, phase := n, returnMode := .none, recovered := false } }
  ((s.leaveClaim.stopPhase).feed (BitVec.ofNat 8 n)).startQuiet

/-- TALLY carries the signature, which becomes the tally value (R111, R155). -/
def State.queueTally (s : State) : State :=
  let g := s.seq.signature
  ({ s with seq := { s.seq with tally := g } }).queueNotice .tally (g.extractLsb' 8 8)
    (g.extractLsb' 0 8)

/-- Entry to ON (R110). -/
def State.enterOn (s : State) : State :=
  ((s.arriveOn.queueTally.startMuteIfPanel).dimRamp).setOutcome .reachedOn

/-- A return to ON from RIDING (R116, R139). -/
def State.returnToOn (s : State) : State :=
  let s := s.arriveOn
  if s.settings.roles.panel && s.mute then s.startMute else s

/-- A rise in ROLLCALL, RISING or RIDING that brings the phase after `k`, or ON after N. -/
def State.ascendFrom (k : Nat) (s : State) : State :=
  if k < s.settings.phaseCount then s.enterRising (k + 1) else s.enterOn

/-! ### Descent -/

/-- The outcome an entry to DESCENDING sets (R117). -/
def Cause.outcome : Cause → RunOutcome
  | .request => .descendedRequest
  | .fault => .descendedFault
  | .brownout => .descendedBrownout
  | .none => .inProgress
  | .brk => .soloBreak

/-- What a ride-through had running ends (R118, R125): held and ride cleared. -/
def State.endRide (s : State) : State :=
  (if s.ctl.held then s.resume else s).clearRide

/-- MUTE is asserted on a PANEL station (R113). -/
def State.assertMute (s : State) : State :=
  if s.settings.roles.panel then { s with mute := true } else s

/-- Entry to DESCENDING with a cause (R117, R118, R143, R152). -/
def State.enterDescending (cause : Cause) (s : State) : State :=
  let broken := s.seq.mode == .riding && s.seq.budgetPassed
  let n := s.settings.phaseCount
  let s :=
    { s with
      seq :=
        { s.seq with
          mode := .descending, phase := n, cause := cause, returnMode := .none,
          recovered := false } }
  let s := s.endRide.claimNow
  let s := ((s.startPhase .phaseLimit).stopOnTimers).assertMute
  let s := if s.urgent then s.dimCut else s.dimZeroDark
  let s := (s.switchOffPhase n).setOutcome cause.outcome
  if broken then s.issueBreak else s

/-- A rise at down phase `d` > 1 (R54, R119, R154). -/
def State.stepDown (d : Nat) (s : State) : State :=
  let s := { s with seq := { s.seq with phase := d } }
  ((s.startPhase .phaseLimit).claimLater.feed (BitVec.ofNat 8 (0x80 + d))).switchOffPhase d

/-! ### Taken rises (R54) -/

/-- A rise taken in RIDING (R139): the ride condition is cleared in the new mode, and a
MAINS station reports a standing sag (R132). The rails of the new phase are switched on before
ride ends: the spec puts both at one instant, and the order is the model's (log 17). -/
def State.riseFromRiding (s : State) : State :=
  let t :=
    match s.seq.returnMode with
    | .rollcall => s.ascendFrom 0
    | .rising => s.ascendFrom s.seq.phase
    | .on => s.returnToOn
    | .none => s.returnToOn
  t.clearRide.reportStandingSag

/-- A taken rise (R53, R54). Outside the claiming modes a rise is not taken. -/
def State.takeRise (s : State) : State :=
  let t := { s with line := { s.line with riseTaken := true } }
  match s.seq.mode with
  | .rollcall => t.ascendFrom 0
  | .rising => t.ascendFrom s.seq.phase
  | .riding => t.riseFromRiding
  | .descending =>
    if 1 < s.seq.phase then t.stepDown (s.seq.phase - 1) else (t.feed 0x80).endDescent
  | .off => s
  | .lockout => s
  | .on => s
  | .solo => s
  | .loading => s
  | .silent => s
  | .unconfigured => s

/-! ### RIDING and SOLO -/

/-- The mode that RIDING returns to (R134). -/
def Mode.toReturn : Mode → ReturnMode
  | .rollcall => .rollcall
  | .rising => .rising
  | .on => .on
  | .off => .none
  | .lockout => .none
  | .riding => .none
  | .descending => .none
  | .solo => .none
  | .loading => .none
  | .silent => .none
  | .unconfigured => .none

/-- Entry to RIDING (R134). -/
def State.enterRiding (s : State) : State :=
  let s :=
    { s with
      seq :=
        { s.seq with mode := .riding, returnMode := s.seq.mode.toReturn, recovered := false } }
  let s := s.claimNow.holdUpStart.pausePhase.stopOnTimers
  let s := ({ s with ctl := { s.ctl with ride := true } }).hold
  (s.forEachRail State.shed).dimCap

/-- Entry to SOLO (R125 to R127). The requester wait ends when OFF is left (R96, log 22). -/
def State.enterSolo (s : State) : State :=
  let n := s.settings.phaseCount
  let s :=
    { s with
      seq :=
        { s.seq with
          mode := .solo, phase := n, cause := .brk, heldRise := none, returnMode := .none,
          recovered := false, wait := if s.seq.mode == Mode.off then Wait.none else s.seq.wait } }
  let s := s.leaveClaim.stopPhase.endRide.setSolo
  let s := (s.dimCut.assertMute.stopOnTimers.stopRetryTimer).setOutcome .soloBreak
  if s.urgent then ({ s with seq := { s.seq with phase := 1 } }).forceOff
  else s.switchOffPhase n

/-- One step of the solo down phase, where its down summary holds (R126). -/
def State.soloStep (s : State) : State :=
  if s.seq.mode = .solo ∧ 1 < s.seq.phase ∧ s.downSummary s.seq.phase = true then
    let d := s.seq.phase - 1
    ({ s with seq := { s.seq with phase := d } }).switchOffPhase d
  else s

/-- As many solo steps as one instant can hold: N is at most 15 (R126). -/
def State.soloSteps : Nat → State → State
  | 0, s => s
  | n + 1, s => soloSteps n s.soloStep

/-- SOLO goes on as far as it can at one instant, and ends when every rail is OFF (R126,
R129). -/
def State.advanceSolo (s : State) : State :=
  let s := s.soloSteps 15
  if s.seq.mode = .solo ∧ s.allOff = true then s.endSolo else s

/-- The release that R52 asks for at the first moment it may be, and the rise that R53 lets
a station observe when it releases into a line that was high through its claim. -/
def State.releaseIfReady (s : State) : State :=
  if s.canRelease then
    let t := s.release
    if t.line.high && t.line.highTwo then
      ({ t with line := { t.line with riseTaken := false, highTwo := false } }).takeRise
    else t
  else s

/-- What follows every step at the same instant (R52, R66, R126, R129). -/
def State.conclude (s : State) : State :=
  s.advanceSolo.releaseIfReady.sendIfFree

end Sys2Proof.Machine
end

