-- ==== Sys2Proof/Machine/Taken.lean ====
section
/-! DEFINITION. Taken notices: the steps of R71, R79 and R87, then the meaning of each of the eight <KIND>_TAKEN commands (R88 to R95, R133 to R142, R155). -/

namespace Sys2Proof.Machine

/-- What every meaning answers. -/
abbrev Result := Host.Outcome State Fault Refusal

/-! ### The steps of every taken notice -/

/-- The pending notices a taken notice withdraws (R79); `own` says that this station sent it
through slot 33 (log 18). -/
def State.withdrawForTaken (k : Kind) (own : Bool) (s : State) : State :=
  match k with
  | .fault =>
    match s.pendingOf .fault with
    | some p => if p.arg1 = stationLevel then s.setPending .fault none else s
    | none => s
  | .roll => s
  | .tally => s
  | .sag => if own then s else s.setPending .sag none
  | .commit => if own then s else s.setPending .commit none
  | .mainsOk => if own then s else s.setPending .mainsOk none
  | .fall => if own then s else s.setPending .fall none
  | .rise => if own then s else s.setPending .rise none

/-- The station takes the notice of kind `k` that the frame under way holds, if it does
(R70, R71): the link waits for bus free, a notice of this station that was in flight ends,
and the withdrawals of R79 are made. The answer says whether this station was the sender. -/
def State.receive (k : Kind) (s : State) : Option (Notice × Bool × State) :=
  match s.notices.link with
  | .frame f =>
    match f.notice with
    | some n =>
      if n.kind = k then
        let t :=
          { s with
            notices :=
              { s.notices with
                link := .waiting
                inFlight := if f.sending then none else s.notices.inFlight } }
        some (n, f.sending, t.withdrawForTaken k f.sending)
      else none
    | none => none
  | .dormant => none
  | .waiting => none
  | .free => none
  | .broken => none

/-- The notice changes the mode of a station in a claiming mode (R56). -/
def changesMode (m : Mode) (k : Kind) : Bool :=
  match m with
  | .rollcall | .rising => k == .sag || k == .fall || k == .fault || k == .commit
  | .riding => k == .fall || k == .fault || k == .commit
  | .descending | .off | .lockout | .on | .solo | .loading | .silent | .unconfigured => false

/-- Rise before notice (R56, step 1 of R87). -/
def State.riseBefore (k : Kind) (s : State) : State :=
  if changesMode s.seq.mode k && !s.line.claimed && s.line.high && !s.line.riseTaken then
    s.takeRise
  else s

/-- Steps 2 and 3 of R87: the sender's count of notices taken, and a phase disagreement. -/
def State.countTaken (n : Notice) (s : State) : State :=
  let t := s.modifyEntry n.sender fun e => { e with taken := satInc e.taken }
  match n.senderPhase with
  | some p => if p = s.seq.phase then t else t.countDisagreement
  | none => t

/-- A notice with this station's own number that it did not send is a number clash (R75). -/
def State.checkClash (n : Notice) (own : Bool) (s : State) : State :=
  if n.sender = s.settings.number ∧ own = false then s.recordClash else s

/-- Steps 1 to 3 of R87 and the number clash (log 14). -/
def State.beforeNotice (n : Notice) (own : Bool) (s : State) : State :=
  ((s.riseBefore n.kind).countTaken n).checkClash n own

/-- Receives a notice of kind `k` with HOLD at `hold`, makes the common steps and then acts.
A station that has not received such a notice is unchanged. -/
def State.take (k : Kind) (hold : Bool) (act : Notice → Bool → State → State) (s : State) :
    State :=
  match s.receive k with
  | some (n, own, t) => (act n own ((t.seeHold hold).beforeNotice n own)).conclude
  | none => s

/-! ### SAG -/

/-- The station queues MAINS_OK (R137). -/
def State.queueMainsOk (s : State) : State :=
  s.queueNotice .mainsOk s.phaseByte 0

/-- The lead that a SAG outside RIDING sets (R133). -/
def State.setLead (n : Notice) (own : Bool) (s : State) : State :=
  { s with
    seq := { s.seq with lead := some n.sender, mainsReturned := false, owed := own }
    cur := { s.cur with lead := some n.sender } }

/-- The sag count, the record and the signature of a SAG (R133). -/
def State.countTakenSag (s : State) : State :=
  ({ s with seq := { s.seq with sagCount := satInc s.seq.sagCount } }).countSag.feed 0x40

/-- COMMIT CHATTER when the sag count is at or above the sag limit (R133, R140). -/
def State.checkChatter (s : State) : State :=
  if s.settings.sagLimit ≤ s.seq.sagCount.toNat then
    s.queueNotice .commit (BitVec.ofNat 8 CommitCause.chatter.code) s.phaseByte
  else s

/-- A station that becomes lead with mains held set queues MAINS_OK (R137). -/
def State.leadAlreadyHeld (own : Bool) (s : State) : State :=
  if own && s.front.mainsHeld then s.queueMainsOk else s

/-- What a taken SAG does (R133, R134, R142, R145). -/
def State.onSag (n : Notice) (own : Bool) (s : State) : State :=
  match s.seq.mode with
  | .rollcall | .rising | .on =>
    ((s.countTakenSag.setLead n own).checkChatter.enterRiding).leadAlreadyHeld own
  | .descending =>
    ((s.countTakenSag.setLead n own).checkChatter.holdUpStartIfStopped).leadAlreadyHeld own
  | .riding =>
    let t := s.countTakenSag
    (if s.seq.lead = some n.sender then t else t.leadConflict).checkChatter
  | .off | .lockout | .solo | .loading | .silent | .unconfigured => s.countSag

/-- SAG_TAKEN (R133). -/
def execSagTaken (hold : Bool) (s : State) : Result :=
  .next (s.take .sag hold State.onSag)

/-! ### COMMIT, FAULT and FALL -/

/-- What a taken COMMIT does (R141). -/
def State.onCommit (n : Notice) (_own : Bool) (s : State) : State :=
  let c := CommitCause.ofByte n.arg1
  let s := s.raiseAlert
  let s :=
    ({ s with cur := { s.cur with commitCause := some c } }).feed (BitVec.ofNat 8 (0x42 + c.code))
  if s.seq.mode.active then s.holdUpStartIfStopped.enterDescending .brownout else s

/-- COMMIT_TAKEN (R141). -/
def execCommitTaken (hold : Bool) (s : State) : Result :=
  .next (s.take .commit hold State.onCommit)

/-- What a taken FAULT does (R90). -/
def State.onFault (n : Notice) (_own : Bool) (s : State) : State :=
  let s := s.recordFault n
  if s.seq.mode.active then s.enterDescending .fault else s

/-- FAULT_TAKEN (R90). -/
def execFaultTaken (hold : Bool) (s : State) : Result :=
  .next (s.take .fault hold State.onFault)

/-- What a taken FALL does (R89). In OFF during the rest time it abandons the resume (R97; log
24). -/
def State.onFall (_n : Notice) (_own : Bool) (s : State) : State :=
  if s.seq.mode.active then s.enterDescending .request
  else if s.seq.mode = .off ∧ s.seq.wait = .rest then s.stopRetry
  else s

/-- FALL_TAKEN (R89). -/
def execFallTaken (hold : Bool) (s : State) : Result :=
  .next (s.take .fall hold State.onFall)

/-! ### MAINS_OK -/

/-- The requester in MAINS when mains-returned becomes set (R97). -/
def State.mainsReturnedToRequester (s : State) : State :=
  if s.seq.mode = .off ∧ s.seq.wait = .mains then
    { s.queueNotice .rise 0 0 with seq := { s.seq with wait := .none } }
  else s

/-- Recovery (R138). -/
def State.recover (s : State) : State :=
  let s := s.holdUpStopCapture.withdraw .commit
  let s := { s with timers := { s.timers with phase := s.timers.phase.resume } }
  let s := (s.resume.forEachRail State.restore).dimLift
  ({ s with seq := { s.seq with lead := none, recovered := true } }).feed 0x41

/-- The lead's MAINS_OK outside RIDING (R138). -/
def State.markReturned (s : State) : State :=
  ({ s with
    seq := { s.seq with mainsReturned := true, lead := none }
    cur := { s.cur with mainsReturned := true } }).mainsReturnedToRequester

/-- What a taken MAINS_OK does (R138, R145); the station's own clears its owed flag (R137). -/
def State.onMainsOk (n : Notice) (own : Bool) (s : State) : State :=
  let t := if own then { s with seq := { s.seq with owed := false } } else s
  if t.seq.lead = some n.sender then if t.seq.mode = .riding then t.recover else t.markReturned
  else t.leadConflict

/-- MAINS_OK_TAKEN (R138). -/
def execMainsOkTaken (hold : Bool) (s : State) : Result :=
  .next (s.take .mainsOk hold State.onMainsOk)

/-! ### RISE, ROLL and TALLY -/

/-- What a taken RISE does (R88). -/
def State.onRise (n : Notice) (_own : Bool) (s : State) : State :=
  match s.seq.mode with
  | .off => s.enterRollcall true
  | .lockout =>
    if n.arg1 = 0 then ({ s with seq := { s.seq with attempts := 0 } }).enterRollcall true else s
  | .descending | .solo => { s with seq := { s.seq with heldRise := some n.arg1 } }
  | .rollcall | .rising | .on | .riding | .loading | .silent | .unconfigured => s

/-- RISE_TAKEN (R88). -/
def execRiseTaken (hold : Bool) (s : State) : Result :=
  .next (s.take .rise hold State.onRise)

/-- The station is in roll call for R52, R59 and R94 (R92). -/
def State.inRollcall (s : State) : Bool :=
  s.seq.mode == .rollcall || (s.seq.mode == .riding && s.seq.returnMode == .rollcall)

/-- The entry that a peer's ROLL makes or refreshes (R94); the clash flag is set when an
entry already heard in this roll call changes its roles or profile index. -/
def State.rolledEntry (n : Notice) (s : State) : RosterEntry :=
  let roles := Roles.ofByte n.arg1
  let profile := n.arg1.extractLsb' 0 2
  let count := n.arg2.toNat / 16
  let retry := n.arg2.toNat % 4
  let wrong := !(count == s.settings.phaseCount && retry == s.settings.retryLimit)
  match s.rosterEntry n.sender with
  | some e =>
    { e with
      roles := roles, profile := profile, phaseCount := count, retryLimit := retry,
      heard := e.heard || s.inRollcall
      mismatch := wrong
      clash := e.clash || (s.inRollcall && e.heard && !(e.roles == roles && e.profile == profile)) }
  | none =>
    { number := n.sender, roles := roles, profile := profile, phaseCount := count,
      retryLimit := retry, heard := s.inRollcall, mismatch := wrong, outOfStep := false,
      clash := false, taken := 0 }

/-- The mode's answer to a ROLL from another station (R94). -/
def State.answerRoll (mismatch : Bool) (s : State) : State :=
  if s.inRollcall then
    if mismatch then s.queueStationFault reasonConfigMismatch else s
  else if s.seq.mode.active then s.queueStationFault reasonPeerRestart
  else s

/-- What a taken ROLL does (R94, R95). -/
def State.onRoll (n : Notice) (own : Bool) (s : State) : State :=
  if own then
    if s.seq.mode = .off ∧ s.line.high = false then s.queueStationFault reasonPeerRestart else s
  else if n.sender = s.settings.number then s.answerRoll false
  else
    let e := s.rolledEntry n
    (s.putEntry e).answerRoll e.mismatch

/-- ROLL_TAKEN (R94). -/
def execRollTaken (hold : Bool) (s : State) : Result :=
  .next (s.take .roll hold State.onRoll)

/-- The 16 bits a TALLY carries (R155). -/
def Notice.tallyBits (n : Notice) : Half :=
  n.arg1 ++ n.arg2

/-- What a taken TALLY does (R155). -/
def State.onTally (n : Notice) (_own : Bool) (s : State) : State :=
  if s.seq.mode = .on then
    if n.tallyBits = s.seq.tally then
      s.modifyEntry n.sender fun e => { e with outOfStep := false }
    else
      let t := s.modifyEntry n.sender fun e => { e with outOfStep := true }
      ({ t with
        cur :=
          { t.cur with mismatchSet := t.cur.mismatchSet ||| (1#16 <<< n.sender.toNat) } }).raiseAlert
  else s

/-- TALLY_TAKEN (R155). -/
def execTallyTaken (hold : Bool) (s : State) : Result :=
  .next (s.take .tally hold State.onTally)

end Sys2Proof.Machine
end

