-- ==== Sys2Proof/Machine/Expiries.lean ====
section
/-! DEFINITION. The commands of the timing unit, the phase line and the dimming channel: expiries, compare matches, rises, the ends of delays and drives (R13 to R19, R38, R49 to R62, R97, R114, R140, R143, R144, R147 to R149). -/

namespace Sys2Proof.Machine

/-! ### Rail controller -/

/-- RISE_LIMIT_EXPIRY (R13). -/
def execRiseLimitExpiry (i : Fin 8) (hold : Bool) (s : State) : Result :=
  if s.timedIn i .ramping then .next (((s.seeHold hold).riseLimitExpired i).conclude) else .next s

/-- SETTLE_EXPIRY (R14). -/
def execSettleExpiry (i : Fin 8) (hold : Bool) (s : State) : Result :=
  if s.timedIn i .settling then .next (((s.seeHold hold).settleExpired i).conclude) else .next s

/-- FALL_LIMIT_EXPIRY (R16). -/
def execFallLimitExpiry (i : Fin 8) (hold : Bool) (s : State) : Result :=
  if s.timedIn i .falling then .next (((s.seeHold hold).fallExpired i).conclude) else .next s

/-- DISCHARGE_EXPIRY (R17). -/
def execDischargeExpiry (i : Fin 8) (hold : Bool) (s : State) : Result :=
  if s.timedIn i .discharging then .next (((s.seeHold hold).dischargeExpired i).conclude)
  else .next s

/-- BLANK_WAIT_EXPIRY (R19, R21): every ARMED rail applies its change and one blank miss is
counted. -/
def execBlankWaitExpiry (hold : Bool) (s : State) : Result :=
  if s.ctl.blankTimer.due then
    .next (((s.seeHold hold).endBlankWait.countBlankMiss).conclude)
  else .next s

/-- TRANSITION_BOOST_END (R3). -/
def execTransitionBoostEnd (i : Fin 8) (s : State) : Result :=
  if (s.rail i).boost == some 0 then .next (s.modifyRail i fun r => { r with boost := none })
  else .next s

/-! ### Phase line -/

/-- The minimum hold of the claim is over (R51). -/
def State.setMinHold (s : State) : State :=
  { s with line := { s.line with minHold := true, minHoldLeft := none } }

/-- MINIMUM_HOLD (R51, R52). -/
def execMinimumHold (hold : Bool) (s : State) : Result :=
  if s.minHoldDue then .next ((s.setMinHold.seeHold hold).conclude) else .next s

/-- The claim due is made if the station is still in a claiming mode (R55). -/
def State.reclaimNow (s : State) : State :=
  let t := { s with line := { s.line with reclaim := none } }
  if t.seq.mode.claims then t.claimNow else t

/-- RECLAIM_DELAY_END (R55). -/
def execReclaimDelayEnd (s : State) : Result :=
  if s.line.reclaim == some 0 then .next s.reclaimNow else .next s

/-- A rise event (R53): it acts if the rise of this high interval has not been taken. -/
def State.riseEvent (s : State) : State :=
  if s.line.riseTaken then s else s.takeRise

/-- RISE (R53, R54): HOLD has been high for 2 µs while this station's drive is released. -/
def execRise (s : State) : Result :=
  if s.loaded && !s.line.claimed then .next (s.seeHold true).riseEvent.conclude else .next s

/-- HOLD has been high for 2 µs within the claim, delivered once for each claim (R57). -/
def State.holdFaultFound (s : State) : State :=
  let t := s.seeHold true
  { t with line := { t.line with highTwo := true, faultDelivered := true } }

/-- The answer to a hold line fault (R57). -/
def State.answerHoldFault (s : State) : State :=
  match s.seq.mode with
  | .rollcall | .rising | .riding => s.queueStationFault reasonHoldLine
  | .descending => s.countLaterFault
  | .off | .lockout | .on | .solo | .loading | .silent | .unconfigured => s

/-- HOLD_LINE_FAULT (R57). -/
def execHoldLineFault (s : State) : Result :=
  if s.line.claimed then
    if s.line.faultDelivered then .next s.holdFaultFound
    else .next s.holdFaultFound.answerHoldFault.sendIfFree
  else .next s

/-! ### Phase timer -/

/-- The phase timer has run out with a setting, so its expiry names that setting (R38, R42). -/
def State.phaseTimedBy (s : State) (setting : PhaseSetting) : Bool :=
  s.timers.phase.due && s.timers.phaseSetting == setting

/-- The station claims HOLD, or has released it and sees it low (R59). -/
def State.rollcallStuck (s : State) : Bool :=
  s.line.claimed || !s.line.high

/-- The station has released HOLD and sees it low (R60, R61). -/
def State.barrierStuck (s : State) : Bool :=
  !s.line.claimed && !s.line.high

/-- The judgement of a roll timeout (R59, R62). -/
def State.judgeRollTimeout (s : State) : State :=
  if s.inRollcall && s.rollcallStuck then s.queueStationFault reasonRosterShort else s

/-- The judgement of a phase limit (R60 to R62). -/
def State.judgePhaseLimit (s : State) : State :=
  if s.barrierStuck then
    match s.seq.mode with
    | .rising => s.queueStationFault reasonBarrierTimeout
    | .riding =>
      if s.seq.returnMode = .rising then s.queueStationFault reasonBarrierTimeout else s
    | .descending => s.issueBreak
    | .off | .lockout | .rollcall | .on | .solo | .loading | .silent | .unconfigured => s
  else s

/-- ROLL_TIMEOUT_EXPIRY (R38, R59). -/
def execRollTimeoutExpiry (hold : Bool) (s : State) : Result :=
  if s.phaseTimedBy .rollTimeout then
    .next (s.stopPhase.seeHold hold).judgeRollTimeout.sendIfFree
  else .next s

/-- PHASE_LIMIT_EXPIRY (R38, R60, R61). -/
def execPhaseLimitExpiry (hold : Bool) (s : State) : Result :=
  if s.phaseTimedBy .phaseLimit then
    .next (s.stopPhase.seeHold hold).judgePhaseLimit.sendIfFree
  else .next s

/-! ### Hold-up compares -/

/-- The answer to a window expiry (R140). -/
def State.windowExpired (s : State) : State :=
  if s.seq.mode = .riding then
    s.queueNotice .commit (BitVec.ofNat 8 CommitCause.window.code) s.phaseByte
  else s

/-- WINDOW_EXPIRY (R44, R140): the running count has reached the armed compare A. -/
def execWindowExpiry (s : State) : Result :=
  if s.holdUp.windowDue then
    .next ({ s with holdUp := s.holdUp.matchA }).windowExpired.sendIfFree
  else .next s

/-- The answer to a budget expiry (R143). -/
def State.budgetExpired (s : State) : State :=
  match s.seq.mode with
  | .descending => s.issueBreak
  | .riding => { s with seq := { s.seq with budgetPassed := true } }
  | .off | .lockout | .rollcall | .rising | .on | .solo | .loading | .silent | .unconfigured => s

/-- BUDGET_EXPIRY (R44, R143): the running count has reached the armed compare P, and no window
expiry is to be delivered before. -/
def execBudgetExpiry (s : State) : Result :=
  if s.holdUp.budgetDue then
    .next ({ s with holdUp := s.holdUp.matchP }).budgetExpired
  else .next s

/-! ### Quiet, retry/rest and mute-release timers -/

/-- The quiet timer has expired (R38, R144). -/
def State.quietExpired (s : State) : State :=
  let t := { s with timers := { s.timers with quiet := .stopped } }
  if t.seq.mode = .on then { t with seq := { t.seq with sagCount := 0 } } else t

/-- QUIET_TIMER_EXPIRY (R46, R144). -/
def execQuietTimerExpiry (s : State) : Result :=
  if s.timers.quiet.due then .next s.quietExpired else .next s

/-- The retry/rest timer has run out with a setting, which its expiry names (R38, R47). -/
def State.retryTimedBy (s : State) (setting : RetrySetting) : Bool :=
  s.timers.retry.due && s.timers.retrySetting == setting

/-- A RISE is queued and the wait ends (R97). -/
def State.queueRetry (attempt : Byte) (s : State) : State :=
  { s.queueNotice .rise attempt 0 with seq := { s.seq with wait := .none } }

/-- RETRY_DELAY_EXPIRY (R97). -/
def execRetryDelayExpiry (s : State) : Result :=
  if s.retryTimedBy .retryDelay then
    let t := s.stopRetryTimer
    if t.seq.mode = .off ∧ t.seq.wait = .retry then
      .next (t.queueRetry (BitVec.ofNat 8 t.seq.attempts)).sendIfFree
    else .next t
  else .next s

/-- REST_TIME_EXPIRY (R97). -/
def execRestTimeExpiry (s : State) : Result :=
  if s.retryTimedBy .restTime then
    let t := s.stopRetryTimer
    if t.seq.mode = .off ∧ t.seq.wait = .rest then
      if t.seq.mainsReturned then .next (t.queueRetry 0).sendIfFree
      else .next { t with seq := { t.seq with wait := .mains } }
    else .next t
  else .next s

/-- The mute-release timer has expired (R38, R114). -/
def State.muteExpired (s : State) : State :=
  let t := { s with timers := { s.timers with mute := .stopped } }
  if t.seq.mode = .on then { t with mute := false } else t

/-- MUTE_RELEASE_EXPIRY (R48, R114). -/
def execMuteReleaseExpiry (s : State) : Result :=
  if s.timers.mute.due then .next s.muteExpired else .next s

/-! ### Dimming channel -/

/-- PERIOD_BOUNDARY (R149): on a station with a dimming channel, at its instant. -/
def execPeriodBoundary (hold : Bool) (s : State) : Result :=
  if s.boundaryDue then .next (((s.seeHold hold).boundary).conclude) else .next s

/-- SILENCE_TIMEOUT (R148). -/
def execSilenceTimeout (s : State) : Result :=
  if s.silenceDue then .next { s with dim := s.dim.silent } else .next s

/-- MEASUREMENT_OVERFLOW (R147). -/
def execMeasurementOverflow (s : State) : Result :=
  if s.overflowDue then .next { s with dim := s.dim.overflow } else .next s

/-- ACTIVE_TIME_END (R149): DIM_OUT is inactive until the next boundary. -/
def execActiveTimeEnd (s : State) : Result :=
  if s.dim.activeLeft == some 0 then
    .next { s with dim := { s.dim with active := false, activeLeft := none } }
  else .next s

end Sys2Proof.Machine
end

