-- ==== Sys2Proof/Machine/Link.lean ====
section
/-! DEFINITION. The data line: bus free, frames with arbitration and collision, objected and foreign frames, and BREAK (R63 to R84). -/

namespace Sys2Proof.Machine

/-- BUS_FREE (R65, R83): the link becomes FREE and link stuck clears. A station with a pending
notice drives the first slot at once (R66); the slots it then reads come with FRAME_START
(log 19). -/
def execBusFree (s : State) : Result :=
  match s.notices.link with
  | .waiting =>
    .next ({ s with notices := { s.notices with link := .free, stuck := false } }).sendIfFree
  | .dormant => .next s
  | .free => .next s
  | .frame _ => .next s
  | .broken => .next s

/-! ### A frame -/

/-- What becomes of a sender in slots 1 to 32 (R69, R74). -/
inductive SendFate where
  | sending
  | lostArbitration
  | collided
  | driveFault
deriving DecidableEq, Repr

/-- Compares the bits sent with the bits read from slot `k` on, until the first that differ
(R69, R74). -/
def sendFate : Nat → List Bool → List Bool → SendFate
  | k, sent :: ss, read :: rs =>
    if sent = read then sendFate (k + 1) ss rs
    else if read then .driveFault
    else if k ≤ 8 then .lostArbitration
    else .collided
  | _, [], _ => .sending
  | _, _, [] => .sending

/-- What a sender's fate in the slots brings at once (R69, R73, R74). -/
def State.meetFate (fate : SendFate) (s : State) : State :=
  match fate with
  | .sending => s
  | .lostArbitration => s.returnInFlight false
  | .collided => s.recordClash.returnInFlight true
  | .driveFault => s.returnInFlight true

/-- The slots read as they were sent, up to the first that differs (R69, R74). -/
def agreedSlots : List Bool → List Bool → Nat
  | sent :: ss, read :: rs => if sent = read then agreedSlots ss rs + 1 else 0
  | [], _ => 0
  | _, [] => 0

/-- What a sender drives in a frame of which `agreed` slots read as it sent them. It stops in the
slot that differs: after the 2 µs of its `1` (R69, R74), or where its `0` reads recessive at the
sample of 4 µs (R74; log 31). -/
def cutDrive (fate : SendFate) (agreed : Nat) (micros : List Nat) : List Nat :=
  match fate with
  | .sending => micros
  | .lostArbitration => micros.take (agreed + 1)
  | .collided => micros.take (agreed + 1)
  | .driveFault => micros.take agreed ++ [Config.slotSample]

/-- What becomes of this station as a sender where it reads `slots`: a receiver has no fate of
its own (R69, R74). -/
def State.fateOf (s : State) (sending : Bool) (slots : List Bool) : SendFate :=
  match sending, s.notices.inFlight with
  | true, some f => sendFate 1 (s.ownNotice f.kind f.notice).slots slots
  | true, none => .sending
  | false, _ => .sending

/-- The slots that this station reads as it sent them, while it sends. -/
def State.agreed (s : State) (slots : List Bool) : Nat :=
  match s.notices.inFlight with
  | some f => agreedSlots (s.ownNotice f.kind f.notice).slots slots
  | none => 0

/-- The slots of the frame under way as this station reads them (R69, R74). -/
def State.readSlots (sending : Bool) (slots : List Bool) (s : State) : State :=
  let fate := s.fateOf sending slots
  let micros := cutDrive fate (s.agreed slots) s.notices.drive.micros
  ({ s with
    notices :=
      { s.notices with
        link := .frame ⟨slots, sending && fate == SendFate.sending⟩
        drive := { s.notices.drive with micros := micros } } }).meetFate fate

/-- The slots of a frame in which this station has read none. -/
def State.hearFrame (slots : List Bool) (s : State) : State :=
  match s.notices.link with
  | .frame f => if f.slots.isEmpty then s.readSlots f.sending slots else s
  | .dormant => s
  | .waiting => s
  | .free => s
  | .broken => s

/-- FRAME_START (R66, R69, R74): a falling edge that another station drove on the free line, or
the frame that this station has begun itself (log 19). A station receives a frame only if it
was FREE at its first edge (R65). -/
def execFrameStart (slots : List Bool) (s : State) : Result :=
  match s.notices.link with
  | .free => .next (s.beginFrame.hearFrame slots)
  | .frame _ => .next (s.hearFrame slots)
  | .dormant => .next s
  | .waiting => .next s
  | .broken => .next s

/-- The frame under way ends for this station (R65). -/
def State.endFrame (s : State) : State :=
  { s with notices := { s.notices with link := .waiting } }

/-- FRAME_ABANDONED (R64): the bits are discarded and a notice in flight returns uncharged. -/
def execFrameAbandoned (s : State) : Result :=
  match s.notices.link with
  | .frame _ => .next (s.endFrame.returnInFlight false)
  | .dormant => .next s
  | .waiting => .next s
  | .free => .next s
  | .broken => .next s

/-- OBJECTED_FRAME (R71, R84): every station that received the frame counts one objection,
and the sender's notice returns charged. -/
def execObjectedFrame (s : State) : Result :=
  match s.notices.link with
  | .frame f =>
    if f.received then .next (s.endFrame.countObjection.returnInFlight true) else .next s
  | .dormant => .next s
  | .waiting => .next s
  | .free => .next s
  | .broken => .next s

/-- FOREIGN_FRAME (R71, R72): a frame received that is not well-formed at this station. One whose
check did not match here, and whose slot 33 still reads `1`, counts as foreign too (log 32). -/
def execForeignFrame (s : State) : Result :=
  match s.notices.link with
  | .frame f =>
    if f.received && f.notice.isNone then
      .next (s.endFrame.countForeign.returnInFlight false)
    else .next s
  | .dormant => .next s
  | .waiting => .next s
  | .free => .next s
  | .broken => .next s

/-! ### BREAK -/

/-- BREAK_DRIVE_END (R81): the drive of 48 µs is over, and the station releases DATA. -/
def execBreakDriveEnd (s : State) : Result :=
  if s.notices.breakDrive == some 0 then
    .next { s with notices := { s.notices with breakDrive := none } }
  else .next s

/-- What the interface does at the detection of BREAK (R82, R93, R159). -/
def State.breakAtLink (s : State) : State :=
  ((({ s with
      notices :=
        { s.notices with
          link := .broken, outbound := Outbound.empty, inFlight := none } }).clearHeard
    false).countBreak).raiseAlert

/-- A lead that owes MAINS_OK with mains held set queues it at the detection (R137, log 13). -/
def State.owedAfterBreak (s : State) : State :=
  if s.seq.owed && s.front.mainsHeld then s.queueMainsOk else s

/-- A BREAK is detected (R82, R125, R128). -/
def State.detectBreak (s : State) : State :=
  let t := s.breakAtLink
  (if t.seq.mode = .solo then t else t.enterSolo).owedAfterBreak.conclude

/-- BREAK_DETECTED (R82): in WAITING, FREE or FRAME. -/
def execBreakDetected (s : State) : Result :=
  match s.notices.link with
  | .waiting => .next s.detectBreak
  | .free => .next s.detectBreak
  | .frame _ => .next s.detectBreak
  | .dormant => .next s
  | .broken => .next s

/-- LINK_STUCK (R83): DATA has been dominant for 10 ms; the interface is BROKEN then. -/
def execLinkStuck (s : State) : Result :=
  match s.notices.link with
  | .broken => .next { s with notices := { s.notices with stuck := true } }
  | .dormant => .next s
  | .waiting => .next s
  | .free => .next s
  | .frame _ => .next s

/-- LINE_GOES_RECESSIVE (R65, R82): BROKEN is left for WAITING. The line does not go recessive
while this station drives it. -/
def execLineGoesRecessive (s : State) : Result :=
  match s.notices.link with
  | .broken =>
    if s.notices.breakDrive.isNone then
      .next { s with notices := { s.notices with link := .waiting } }
    else .next s
  | .dormant => .next s
  | .waiting => .next s
  | .free => .next s
  | .frame _ => .next s

end Sys2Proof.Machine
end

