-- ==== Sys2Proof/Machine/Sense.lean ====
section
/-! DEFINITION. The sense front end's commands: a sample instant, a DIM_IN sample and the end of the recovery dwell (02_sense_inputs.md), with the sequence controller's answers to mains events (R131) and to PWR_REQ (R96, R98). -/

namespace Sys2Proof.Machine

/-! ### Rail inputs -/

/-- SNS i is sampled (R22). -/
def State.senses (s : State) (i : Fin 8) : Bool :=
  (s.entry i).present && (s.entry i).sense

/-- The glitch rule, judged before the sample acts on the filter (R30). -/
def State.glitches (raw : Zone) (i : Fin 8) (s : State) : Bool :=
  (s.rail i).state == .good && (s.front.sns[i]).accepted == some .good &&
    (s.front.sns[i]).candidate.isNone && raw != .good

/-- Replaces the filter of SNS i. -/
def State.setFilter (i : Fin 8) (f : Filter Zone) (s : State) : State :=
  { s with front := { s.front with sns := s.front.sns.set i.val f } }

/-- One sample of SNS i: glitch, filter, and the zone event of a newly accepted zone (R23, R25,
R28, R30). -/
def State.sampleRail (microvolts : Nat) (i : Fin 8) (s : State) : State :=
  if s.senses i then
    let raw := classifyRail (s.entry i) microvolts
    let t := if s.glitches raw i then s.modifyRail i Rail.countGlitch else s
    let r := (s.front.sns[i]).sample s.settings.filterBypass raw
    let t := t.setFilter i r.1
    match r.2 with
    | some z => t.zoneEvent i z
    | none => t
  else s

/-! ### Mains -/

/-- A mains sag event: mains held and the dwell end (R32), and the sag is reported or counted
(R131). -/
def State.mainsSagEvent (s : State) : State :=
  let t := { s with front := { s.front with dwell := none, mainsHeld := false } }
  match t.seq.mode with
  | .rollcall | .rising | .on | .descending => t.queueSag
  | .off | .lockout | .riding | .solo => t.countSag
  | .loading | .silent | .unconfigured => t

/-- A mains recovery event: the dwell starts from 0 and mains held is cleared (R32). -/
def State.mainsRecoveryEvent (s : State) : State :=
  { s with front := { s.front with dwell := some 0, mainsHeld := false } }

/-- One sample of MSNS (R24, R26, R31). -/
def State.sampleMainsInput (microvolts : Nat) (s : State) : State :=
  if s.settings.roles.mains then
    let r := s.front.msns.sampleMains s.settings.filterBypass (classifyMains s.settings microvolts)
    let t := { s with front := { s.front with msns := r.1 } }
    match r.2 with
    | some .sag => t.mainsSagEvent
    | some .ok => t.mainsRecoveryEvent
    | none => t
  else s

/-! ### PWR_REQ -/

/-- The requester at an assertion in OFF (R96). -/
def State.requestInOff (s : State) : State :=
  match s.seq.lastCause with
  | .none | .request | .brownout =>
    { s.queueNotice .rise 0 0 with seq := { s.seq with wait := .none } }
  | .fault | .brk => { s.startRetry .retryDelay with seq := { s.seq with wait := .retry } }

/-- A filtered assertion of PWR_REQ (R80, R96, R98). In LOCKOUT it leaves a wait of FRESH as it is
(log 33). -/
def State.pwrReqAsserted (s : State) : State :=
  let t := s.withdraw .fall
  match t.seq.mode with
  | .off => t.requestInOff
  | .lockout => t.queueNotice .rise 0 0
  | .rollcall | .rising | .on | .riding | .descending | .solo => t
  | .loading | .silent | .unconfigured => t

/-- A filtered deassertion of PWR_REQ (R80, R96, R98). In LOCKOUT it leaves a wait of FRESH as it
is (log 33). -/
def State.pwrReqDeasserted (s : State) : State :=
  let t := s.withdraw .rise
  match t.seq.mode with
  | .off => t.stopRetry
  | .rollcall | .rising | .on | .riding => t.queueNotice .fall t.phaseByte 0
  | .lockout | .descending | .solo => t
  | .loading | .silent | .unconfigured => t

/-- One sample of PWR_REQ (R22, R33, R34). -/
def State.samplePwrReq (level : Bool) (s : State) : State :=
  if s.settings.roles.requester then
    let r := s.front.pwrReq.sample s.settings.filterBypass level
    let t := { s with front := { s.front with pwrReq := r.1 } }
    match r.2 with
    | some true => t.pwrReqAsserted
    | some false => t.pwrReqDeasserted
    | none => t
  else s

/-! ### VBLANK -/

/-- One sample of VBLANK; its rising edge ends the blank wait (R19, R22, R33, R34). -/
def State.sampleVblank (level : Bool) (s : State) : State :=
  if s.settings.roles.panel then
    let r := s.front.vblank.sample s.settings.filterBypass level
    let t := { s with front := { s.front with vblank := r.1 } }
    match r.2 with
    | some true => t.vblankEdge
    | some false => t
    | none => t
  else s

/-! ### The commands -/

/-- The sample period in base ticks (R22). -/
def sampleTicks : SamplePeriod → Nat
  | .us2 => 2
  | .us8 => 8
  | .us32 => 32
  | .us128 => 128

/-- A sample instant of the station's sample clock has come (R22; log 28). -/
def State.sampleDue (s : State) : Bool :=
  s.loaded && s.front.sampleLeft == some 0

/-- The levels of a sample instant are seen, and the next instant is one sample period later
(R22). -/
def State.startSample (x : Sample) (s : State) : State :=
  { s with
    front :=
      { s.front with sampleLeft := some (sampleTicks s.settings.samplePeriod), levels := x } }

/-- One sample instant of every selected input, in the model's order (R22, log 10). -/
def State.sampleAll (x : Sample) (s : State) : State :=
  let t := (s.seeHold x.hold).forEachRail fun i u => u.sampleRail x.sns[i] i
  ((t.sampleMainsInput x.msns).samplePwrReq x.pwrReq).sampleVblank x.vblank

/-- SENSE_SAMPLE (R22, R25): at a sample instant. Nothing is sampled before a load succeeds. -/
def execSenseSample (x : Sample) (s : State) : Result :=
  if s.sampleDue then .next ((s.startSample x).sampleAll x).conclude else .next s

/-- DIM_IN_SAMPLE (R22): once at a base tick, with the BACKLIGHT role and the measured source. -/
def execDimInSample (level : Bool) (s : State) : Result :=
  if s.dimInSampleDue then .next ((s.seeDimIn level).sampleDimIn level) else .next s

/-- The dwell completes: mains held, and MAINS_OK if it is owed (R32, R137). -/
def State.mainsHeldEvent (s : State) : State :=
  let t := { s with front := { s.front with dwell := none, mainsHeld := true } }
  if t.seq.owed then t.queueMainsOk else t

/-- MAINS_HELD_EVENT (R32): the dwell count has reached the recovery dwell with the zone OK. -/
def execMainsHeldEvent (s : State) : Result :=
  if s.dwellDue then .next s.mainsHeldEvent.sendIfFree else .next s

end Sys2Proof.Machine
end

