-- ==== Sys2Proof/Machine/StartUp.lean ====
section
/-! DEFINITION. Supply start, RST, the read of the serial memory, the checks of an image and the outcomes of a load (12_configuration_image_and_start_up.md). -/

namespace Sys2Proof.Machine

/-! ### Supply start and RST -/

/-- The profile index of the PROF pins (R161 step 1). -/
def profileIndex (prof1 prof0 : Bool) : BitVec 2 :=
  BitVec.ofNat 2 (2 * prof1.toNat + prof0.toNat)

/-- The loader at a supply start: LOADING begins with the PROF pins sampled, but while RST is
asserted it waits for the release (R161). -/
def Loader.supplied (prof1 prof0 : Bool) (l : Loader) : Loader :=
  if l.rstAsserted then { State.reset.loader with rstAsserted := true, reading := false }
  else { State.reset.loader with profile := profileIndex prof1 prof0 }

/-- SUPPLY_START (R161, R167): every item at its value for a supply start, with the PROF pins
sampled. The queue and the index of free values are the model's own and go on (log 6). -/
def execSupplyStart (prof1 prof0 : Bool) (s : State) : Result :=
  .next
    { State.reset with
      loader := s.loader.supplied prof1 prof0
      freeIndex := s.freeIndex
      pending := s.pending }

/-- RST holds the station (R161, R167, R168): every item at its reset value but the last run
record, and what the loader keeps until LOADING begins. -/
def State.heldInReset (s : State) : State :=
  { State.reset with
    loader := { s.loader with rstAsserted := true, reading := false }
    last := s.last
    freeIndex := s.freeIndex
    pending := s.pending }

/-- RST (R161), asserted for `micros`. Whether an assertion of less than 10 µs is taken is a
free value (log 5). -/
def execRst (micros : Nat) (s : State) : Result :=
  if Config.rstTaken ≤ micros then .next s.heldInReset
  else if Config.shortRstTaken s.freeIndex then .next s.nextFree.heldInReset
  else .next s.nextFree

/-- LOADING begins at the release of RST (R161, R167). -/
def State.beginLoading (prof1 prof0 : Bool) (s : State) : State :=
  { s with
    loader :=
      { rstAsserted := false, reading := true, busTicks := 0, resetCause := .rst,
        profile := profileIndex prof1 prof0, reason := .none, detail := 15 } }

/-- RST_RELEASE (R161): RST was asserted. -/
def execRstRelease (prof1 prof0 : Bool) (s : State) : Result :=
  if s.loader.rstAsserted then .next (s.beginLoading prof1 prof0) else .next s

/-! ### The transaction with the serial memory (R161 step 2, R162) -/

/-- One interval on the I2C link: its length in base ticks, the level to which the loader
leaves or pulls SCL, and the new level of SDA where it changes; `true` is released. -/
structure BusPhase where
  ticks : Nat
  scl : Bool
  sda : Option Bool
deriving DecidableEq, Repr

/-- What the loader does on the I2C link. -/
inductive BusAction where
  | clockPulse
  | start
  | repeatedStart
  | send (b : Byte)
  | receive (acknowledge : Bool)
  | stop
deriving DecidableEq, Repr

/-- One clock of 10 µs, 100 kHz, with SDA changed only while SCL is low (R162); how the 10 µs
are shared is the model's choice (log 26). -/
def busClock (sda : Bool) : List BusPhase :=
  [⟨2, false, none⟩, ⟨3, false, some sda⟩, ⟨5, true, none⟩]

/-- The levels of an action: a start is a fall and a stop a rise of SDA while SCL is high; a
byte is eight bits, most significant first, and a ninth clock in which the receiver pulls SDA
low to acknowledge (R162). -/
def BusAction.phases : BusAction → List BusPhase
  | .clockPulse => busClock true
  | .start => [⟨5, true, some true⟩, ⟨5, true, some false⟩]
  | .repeatedStart => busClock true ++ [⟨5, true, some false⟩]
  | .send b => (byteBits b).flatMap busClock ++ busClock true
  | .receive acknowledge => (List.replicate 8 (busClock true)).flatten ++ busClock !acknowledge
  | .stop => busClock false ++ [⟨5, true, some true⟩]

/-- The address byte: the 7-bit bus address 0x54, then 0 for write and 1 for read (R162). -/
def addressByte (read : Bool) : Byte :=
  (0x54#8 <<< 1) ||| BitVec.ofNat 8 read.toNat

/-- The freeing of the bus, with SDA released (R161 step 2). -/
def freeBus : List BusAction := List.replicate 9 .clockPulse ++ [.stop]

/-- Steps 1 to 5 of R162: the last byte is not acknowledged. -/
def readTransaction : List BusAction :=
  [.start, .send (addressByte false), .send 0, .send 0, .repeatedStart,
      .send (addressByte true)] ++
    List.replicate (Config.imageLength - 1) (.receive true) ++ [.receive false, .stop]

/-- SCL and SDA after `t` ticks of intervals that begin with SDA at `sda`; both are released
after the last. -/
def busLevelsFrom : List BusPhase → Bool → Nat → Bool × Bool
  | [], _, _ => (true, true)
  | p :: rest, sda, t =>
    let now := p.sda.getD sda
    if t < p.ticks then (p.scl, now) else busLevelsFrom rest now (t - p.ticks)

/-- SCL and SDA as the loader leaves or pulls them `t` ticks after LOADING began: the freeing
of the bus and then the read (R161, R162). -/
def busLevels (t : Nat) : Bool × Bool :=
  busLevelsFrom ((freeBus ++ readTransaction).flatMap BusAction.phases) true t

/-- The image read is under way (R161). -/
def State.readsImage (s : State) : Bool :=
  s.loader.reading && s.seq.mode == .loading

/-- LOADING ends in SILENT (R166). -/
def State.enterSilent (s : State) : State :=
  { s with
    loader := { s.loader with reading := false }
    seq := { s.seq with mode := .silent } }

/-- LOADING ends in UNCONFIGURED with a load reason and load detail (R164, R166). -/
def State.enterUnconfigured (reason : LoadReason) (detail : Nat) (s : State) : State :=
  { s with
    loader := { s.loader with reading := false, reason := reason, detail := detail }
    seq := { s.seq with mode := .unconfigured } }

/-- MEMORY_NO_ACKNOWLEDGE (R162): at the address byte of step 1. -/
def execMemoryNoAcknowledge (s : State) : Result :=
  if s.readsImage then .next s.enterSilent else .next s

/-- READ_FAILED (R162): each of its causes ends LOADING in the same way. -/
def execReadFailed (_cause : ReadFailure) (s : State) : Result :=
  if s.readsImage then .next (s.enterUnconfigured .readFailed 15) else .next s

/-! ### Checks (R164) -/

/-- Check 3: the CRC-8 over bytes 0 to 463 equals byte 464. -/
def imageCheckMatches (image : List Byte) : Bool :=
  crc8 (image.take 464) == image.getD 464 0

/-- Check 5: the station record is in range. -/
def stationInRange (image : List Byte) : Bool :=
  let b := imageByte image
  decide (b 3 ≤ 15) && decide (b 4 % 16 = 0) && decide (1 ≤ b 5 ∧ b 5 ≤ 15) &&
    decide (1 ≤ b 6 ∧ b 6 ≤ 16) && decide (b 7 ≤ 3) && decide (b 8 ≠ 0) && decide (b 9 ≠ 0) &&
    decide (1 ≤ b 10 ∧ b 10 ≤ 15) && decide (b 11 ≠ 0) && decide (b 12 ≠ 0) &&
    decide (b 13 ≠ 0) && decide (b 14 ≤ 1) && decide (b 15 ≤ 15)

/-- Check 6: the settings of profile `p` are in range. -/
def profileInRange (image : List Byte) (p : BitVec 2) : Bool :=
  let c := imageSettings image p
  let o := profileOffset p
  decide (c.blankWait ≠ 0) &&
    decide (c.rideWindow ≠ 0 ∧ c.holdUpBudget ≠ 0 ∧ c.rideWindow ≤ c.holdUpBudget) &&
    decide (50 ≤ c.fallbackPeriod) && decide (c.fixedDuty ≤ 100) && decide (c.shedCap ≤ 100) &&
    decide (imageByte image (o + 14) < 32) && decide (imageByte image (o + 15) = p.toNat) &&
    (!c.roles.mains || decide (c.mainsSag < c.mainsRecover))

/-- Check 7 for one rail: a present rail is consistent. -/
def railConsistent (image : List Byte) (p : BitVec 2) (i : Fin 8) : Bool :=
  let c := imageSettings image p
  let e := imageEntry image p i
  let o := entryOffset p i
  !e.present ||
    (decide (1 ≤ e.upPhase ∧ e.upPhase ≤ c.phaseCount) &&
      decide (1 ≤ e.downPhase ∧ e.downPhase ≤ c.phaseCount) &&
      decide (imageByte image o / 8 % 4 ≤ 2) && decide (imageByte image (o + 11) ≤ 4) &&
      decide (e.riseLimit ≠ 0 ∧ e.fallLimit ≠ 0 ∧ e.urgentFallLimit ≠ 0) &&
      (!e.sense || decide (e.offThreshold < e.goodLow ∧ e.goodLow < e.goodHigh)) &&
      (!e.blankAligned || c.roles.panel) && (!e.dimGated || c.roles.backlight) &&
      !(e.blankAligned && e.sheddable) && !(e.blankAligned && e.dimGated))

/-- Check 8 for one rail: the ascent bound in 0.1 ms. -/
def ascentBound (c : Settings) (e : RailEntry) : Bool :=
  !e.present ||
    decide
      ((if e.sense then e.riseLimit else 0) + e.settleTime +
          (if e.blankAligned then 10 * c.blankWait else 0) <
        100 * c.phaseLimit)

/-- Check 9 for one rail: the descent bound in 0.1 ms. -/
def descentBound (c : Settings) (e : RailEntry) : Bool :=
  !e.present || decide (2 * e.fallLimit + 10 * c.blankWait + 655 < 100 * c.phaseLimit)

/-- The first rail that fails a check. -/
def firstFailing (check : Fin 8 → Bool) : Option (Fin 8) :=
  railIndices.find? fun i => !check i

/-- The rail checks 7, 8 and 9 in order: the reason and the first failing rail. -/
def railChecks (image : List Byte) (p : BitVec 2) : Option (LoadReason × Nat) :=
  let c := imageSettings image p
  match firstFailing (railConsistent image p) with
  | some i => some (.badRail, i.val)
  | none =>
    match firstFailing fun i => ascentBound c (imageEntry image p i) with
    | some i => some (.ascentBound, i.val)
    | none =>
      match firstFailing fun i => descentBound c (imageEntry image p i) with
      | some i => some (.descentBound, i.val)
      | none => none

/-- The checks of R164 in order: the load reason and load detail of the first that fails. -/
def checkImage (image : List Byte) (p : BitVec 2) : Option (LoadReason × Nat) :=
  let b := imageByte image
  if ¬(b 0 = 0x5C ∧ b 1 = 0x40) then some (.badMarker, 15)
  else if b 2 ≠ 1 then some (.badVersion, 15)
  else if imageCheckMatches image = false then some (.badCheck, 15)
  else if natBit (b 15) p.toNat = false then some (.profileDisabled, 15)
  else if stationInRange image = false then some (.badStation, 15)
  else if profileInRange image p = false then some (.badProfile, 15)
  else railChecks image p

/-! ### A load that succeeds (R165) -/

/-- The station's own roster entry at the end of loading (R93). -/
def ownEntry (c : Settings) (p : BitVec 2) : RosterEntry where
  number := c.number
  roles := c.roles
  profile := p
  phaseCount := c.phaseCount
  retryLimit := c.retryLimit
  heard := false
  mismatch := false
  outOfStep := false
  clash := false
  taken := 0

/-- The settings, the rail table and the hold-up compares take the values of the image (R39,
R165). -/
def State.takeImage (image : List Byte) (s : State) : State :=
  let c := imageSettings image s.loader.profile
  { s with
    settings := c
    table := Vector.ofFn (imageEntry image s.loader.profile)
    holdUp :=
      { s.holdUp with
        compareA := some (BitVec.ofNat 16 c.rideWindow)
        compareP := some (BitVec.ofNat 16 c.holdUpBudget) } }

/-- The station begins to watch HOLD and DATA (R49, R53, R65). -/
def State.watchLines (hold : Bool) (s : State) : State :=
  { s with
    line := { s.line with high := hold, riseTaken := false, highTwo := false }
    notices := { s.notices with link := .waiting } }

/-- The front end begins sampling, with a sample instant at once (R22, R165; log 28). -/
def State.beginSampling (s : State) : State :=
  { s with front := { s.front with sampleLeft := some 0, dimInDue := true } }

/-- The first period boundary, on a BACKLIGHT station (R149). -/
def State.firstBoundary (s : State) : State :=
  if s.hasDimming then s.boundary else s

/-- The instant at which a load succeeds (R165). -/
def State.loadSucceeds (image : List Byte) (hold : Bool) (s : State) : State :=
  let s := s.takeImage image
  let s := (s.watchLines hold).beginSampling
  let s := s.putEntry (ownEntry s.settings s.loader.profile)
  let s :=
    { s with
      loader := { s.loader with reading := false, reason := .none, detail := 15 }
      seq := { s.seq with mode := .off, lastCause := .none } }
  s.firstBoundary.requesterEntersOff.queueRoll

/-- The checks end LOADING in OFF or in UNCONFIGURED (R164 to R166). -/
def State.finishLoading (image : List Byte) (hold : Bool) (s : State) : State :=
  match checkImage image s.loader.profile with
  | some (reason, detail) => s.enterUnconfigured reason detail
  | none => s.loadSucceeds image hold

/-- IMAGE_READ_COMPLETE (R162, R164): all 465 bytes have been received. -/
def execImageReadComplete (image : List Byte) (hold : Bool) (s : State) : Result :=
  if s.readsImage && image.length == Config.imageLength then .next (s.finishLoading image hold)
  else .next s

end Sys2Proof.Machine
end

