-- ==== Sys2Proof/Machine/Pins.lean ====
section
/-! DEFINITION. The pins as a view of the state: EN, DIS, LGOOD, READY, ALERT, MUTE, DIM_OUT, and the drive of HOLD, DATA, SCL, SDA and data out (R2 to R4, R35, R49, R63, R70, R81, R102, R113, R149, R150, R160 to R162, R166, R168, R173). -/

namespace Sys2Proof.Machine

/-- How an output stands at its pin. -/
inductive Pin where
  | highImpedance
  | low
  | high
deriving DecidableEq, Repr

/-- A push-pull output at a level. -/
def Pin.drive (level : Bool) : Pin :=
  if level then .high else .low

/-- The pin level of an applied enable (R3). -/
def enableLevel (e : RailEntry) (applied : Bool) : Bool :=
  applied != e.activeLow

/-- The EN pin of a present rail in its drive mode (R3). -/
def Rail.enablePin (e : RailEntry) (r : Rail) : Pin :=
  let level := enableLevel e r.applied
  match e.drive with
  | .pushPull => .drive level
  | .openDrain => if level then .highImpedance else .low
  | .openDrainBoost =>
    if level then (if r.boost.isSome then .high else .highImpedance) else .low

/-- EN0 to EN7 (R2, R3). -/
def State.enPin (s : State) (i : Fin 8) : Pin :=
  if s.loaded && (s.entry i).present then (s.rail i).enablePin (s.entry i) else .highImpedance

/-- Some present rail that names discharge output `k` requests discharge (R4). -/
def State.discharges (s : State) (k : Fin 4) : Bool :=
  railIndices.any fun i =>
    (s.entry i).present && (s.entry i).discharge == some k && (s.rail i).dischargeRequest

/-- DIS0 to DIS3 (R4, R173). -/
def State.disPin (s : State) (k : Fin 4) : Pin :=
  if s.loaded then .drive (s.discharges k) else .highImpedance

/-- LGOOD is asserted (R35). -/
def State.lgood (s : State) : Bool :=
  (s.seq.mode == .on || s.seq.mode == .riding) &&
    railIndices.all fun i =>
      !(s.entry i).present || (s.rail i).state == .shed || (s.rail i).state == .good

/-- LGOOD at its pin (R35). -/
def State.lgoodPin (s : State) : Pin :=
  if s.loaded then .drive s.lgood else .highImpedance

/-- READY is asserted (R102). -/
def State.ready (s : State) : Bool :=
  s.seq.mode == .on

/-- READY at its pin (R102, R166). -/
def State.readyPin (s : State) : Pin :=
  if s.loaded || s.seq.mode == .unconfigured then .drive s.ready else .highImpedance

/-- ALERT is asserted (R160). -/
def State.alert (s : State) : Bool :=
  s.seq.mode == .unconfigured || (s.loaded && s.cur.alertPending)

/-- ALERT at its pin: active low, open-drain (R160, R173). -/
def State.alertPin (s : State) : Pin :=
  if s.alert then .low else .highImpedance

/-- MUTE is driven (R113, R166). -/
def State.drivesMute (s : State) : Bool :=
  s.seq.mode == .unconfigured || (s.loaded && s.settings.roles.panel)

/-- MUTE is asserted (R113, R169; log 22). -/
def State.muteAsserted (s : State) : Bool :=
  s.drivesMute && s.mute

/-- MUTE at its pin (R113, R173). -/
def State.mutePin (s : State) : Pin :=
  if s.drivesMute then .drive s.mute else .highImpedance

/-- DIM_OUT is active (R149, R150). -/
def State.dimActive (s : State) : Bool :=
  (s.seq.mode == .on || s.seq.mode == .riding) && s.dim.active

/-- DIM_OUT at its pin (R150, R173). -/
def State.dimOutPin (s : State) : Pin :=
  if s.loaded && s.hasDimming then .drive (s.dimActive != s.settings.dimActiveLow)
  else .highImpedance

/-- HOLD as this station drives it (R49). -/
def State.holdPin (s : State) : Pin :=
  if s.line.claimed then .low else .highImpedance

/-- The bit this station drives in slot 33 of the frame it has received: `0` objects (R70). -/
def State.objectionBit (s : State) : Option Bool :=
  match s.notices.link with
  | .frame f => if f.received then some (f.sending || f.checkMatches) else none
  | .dormant => none
  | .waiting => none
  | .free => none
  | .broken => none

/-- The bits of slots 1 to 32 that this station offers: of its notice in flight, or of the notice
it would send in the next frame (R66, R67). What stands on DATA is `dataPin`. -/
def State.offeredSlots (s : State) : Option (List Bool) :=
  match s.notices.inFlight with
  | some f => some (s.ownNotice f.kind f.notice).slots
  | none => s.notices.outbound.lowest.map fun x => (s.ownNotice x.1 x.2).slots

/-- The bit that this station drives in slot 33: a sender still sending drives `1`, and any other
station that has received the frame its objection bit (R70). -/
def State.lastSlotBit (s : State) : Option Bool :=
  match s.notices.link with
  | .frame f => if f.sending then some true else s.objectionBit
  | .dormant => none
  | .waiting => none
  | .free => none
  | .broken => none

/-- How long this station holds DATA dominant from the edge of the slot with `k` slots before it,
in µs (R63, R70). -/
def State.slotMicros (s : State) (k : Nat) : Nat :=
  if k = Config.frameSlots then
    match s.lastSlotBit with
    | some bit => dominantMicros bit
    | none => 0
  else s.notices.drive.micros.getD k 0

/-- This station drives a slot of the frame under way dominant at this tick; each slot is 8 µs
(R63; log 31). -/
def State.drivesSlot (s : State) : Bool :=
  s.notices.link.inFrame &&
    decide (s.notices.drive.ticks % Config.slotTime <
      s.slotMicros (s.notices.drive.ticks / Config.slotTime))

/-- DATA as this station drives it: low under its BREAK (R81) and in the dominant part of a slot
that it drives, and released else (R63). -/
def State.dataPin (s : State) : Pin :=
  if s.notices.breakDrive.isSome || s.drivesSlot then .low else .highImpedance

/-- An open-drain line of the serial memory: driven low or released (R161, R162, R173). -/
def Pin.openDrain (released : Bool) : Pin :=
  if released then .highImpedance else .low

/-- SCL as the loader drives it; it is released outside a read, while RST is asserted too
(R161, R162). -/
def State.sclPin (s : State) : Pin :=
  .openDrain (!s.readsImage || (busLevels s.loader.busTicks).1)

/-- SDA as the loader drives it (R161, R162). -/
def State.sdaPin (s : State) : Pin :=
  .openDrain (!s.readsImage || (busLevels s.loader.busTicks).2)

/-- Data out of the status port (R168). It stays high-impedance until select is lowered, also where
select is held low through a release of RST (log 27). -/
def State.dataOutPin (s : State) : Pin :=
  match s.port with
  | .idle => .highImpedance
  | .command _ => .low
  | .reply r => .drive r.out

end Sys2Proof.Machine
end

