-- ==== Sys2Proof/Machine/StatusPort.lean ====
section
/-! DEFINITION. The status port: the exchange, the six commands and the layouts of their replies (13_status_port_and_board_lines.md). -/

namespace Sys2Proof.Machine

/-! ### Reply layouts -/

/-- Descent causes (R169). -/
def Cause.code : Cause → Nat
  | .none => 0
  | .request => 1
  | .fault => 2
  | .brownout => 3
  | .brk => 4

/-- Requester waits (R169). -/
def Wait.code : Wait → Nat
  | .none => 0
  | .retry => 1
  | .rest => 2
  | .mains => 3
  | .fresh => 4

/-- Load reasons (R164). -/
def LoadReason.code : LoadReason → Nat
  | .none => 0
  | .readFailed => 1
  | .badMarker => 2
  | .badVersion => 3
  | .badCheck => 4
  | .profileDisabled => 5
  | .badStation => 6
  | .badProfile => 7
  | .badRail => 8
  | .ascentBound => 9
  | .descentBound => 10

/-- Link states (R169). -/
def LinkState.code : LinkState → Nat
  | .dormant => 0
  | .waiting => 1
  | .free => 2
  | .frame _ => 3
  | .broken => 4

/-- Accepted mains zones (R169). -/
def mainsZoneCode : Option MainsZone → Nat
  | none => 0
  | some .sag => 1
  | some .ok => 2

/-- Byte 5 of READ STATE: bit k for a pending notice of kind k (R169). -/
def Outbound.kindsByte (o : Outbound) : Byte :=
  bitsToByte
    [o.tally.isSome, o.roll.isSome, o.rise.isSome, o.fall.isSome, o.mainsOk.isSome,
      o.fault.isSome, o.commit.isSome, o.sag.isSome]

/-- READ STATE (R169). -/
def State.stateReply (s : State) : List Byte :=
  let q := s.seq
  [ twoNibbles q.mode.code q.phase,
    BitVec.ofNat 8
      (32 * q.cause.code + 4 * q.lastCause.code +
        2 * (s.loader.resetCause == .rst).toNat + s.urgent.toNat),
    BitVec.ofNat 8
      (32 * q.attempts + 4 * q.wait.code + 2 * s.line.claimed.toNat + s.line.high.toNat),
    twoNibbles q.sagCount.toNat (q.lead.getD 0).toNat,
    BitVec.ofNat 8
      (128 * q.lead.isSome.toNat + 64 * q.mainsReturned.toNat + 32 * q.owed.toNat +
        16 * s.front.mainsHeld.toNat + 4 * mainsZoneCode s.front.msns.accepted +
        2 * s.notices.stuck.toNat + s.cur.alertPending.toNat),
    s.notices.outbound.kindsByte,
    twoNibbles s.loader.reason.code s.loader.detail,
    BitVec.ofNat 8
      (32 * s.notices.link.code + 8 * s.loader.profile.toNat + 4 * s.ready.toNat +
        2 * s.lgood.toNat + s.muteAsserted.toNat) ]

/-- Rail states (R170). -/
def RailState.code : RailState → Nat
  | .off => 0
  | .armedOn => 1
  | .armedOff => 2
  | .ramping => 3
  | .settling => 4
  | .good => 5
  | .shed => 6
  | .dimWait => 7
  | .falling => 8
  | .discharging => 9

/-- Accepted zones of a rail (R170). -/
def zoneCode : Option Zone → Nat
  | none => 0
  | some .off => 1
  | some .low => 2
  | some .good => 3
  | some .high => 4

/-- Fault reasons of a rail (R170). -/
def faultReasonCode : Option RailReason → Nat
  | none => 0
  | some r => r.code

/-- The six bytes of a rail (R170); an absent rail, and every rail before a load, reads 0. -/
def State.railReply (s : State) (i : Fin 8) : List Byte :=
  let r := s.rail i
  if (s.entry i).present then
    [BitVec.ofNat 8 (16 * r.state.code + 8 + zoneCode (s.zone i)),
      BitVec.ofNat 8
        (32 * faultReasonCode r.faultReason + 16 * r.slowFall.toNat + 8 * r.restoring.toNat +
          4 * r.requested.toNat + 2 * r.applied.toNat + r.dischargeRequest.toNat)] ++
      halfBytes (r.riseTime.getD 0) ++
      [r.glitches, BitVec.ofNat 8 (128 * r.riseTime.isSome.toNat)]
  else [0, 0, 0, 0, 0, 0]

/-- READ RAILS (R170). -/
def State.railsReply (s : State) : List Byte :=
  railIndices.flatMap s.railReply

/-- Outcomes (R171). -/
def RunOutcome.code : RunOutcome → Nat
  | .inProgress => 0
  | .reachedOn => 1
  | .descendedRequest => 2
  | .descendedFault => 3
  | .descendedBrownout => 4
  | .soloBreak => 5
  | .lockout => 6

/-- Bytes 3 to 6 of a record (R171). -/
def firstFaultBytes : Option FirstFault → List Byte
  | none => [0, 0, 0, 0]
  | some f =>
    [BitVec.ofNat 8 (128 + f.reason.toNat % 32), BitVec.ofNat 8 f.sender.toNat, f.rail,
      BitVec.ofNat 8 f.phase]

/-- Byte 9 of a record (R171). -/
def leadByte : Option Nibble → Byte
  | none => 0
  | some n => BitVec.ofNat 8 (128 + n.toNat)

/-- Byte 12 of a record (R171). -/
def commitByte : Option CommitCause → Byte
  | none => 0
  | some c => BitVec.ofNat 8 c.code

/-- READ RECORD and READ LAST RECORD (R171). -/
def RunRecord.reply (r : RunRecord) : List Byte :=
  halfBytes r.runNumber ++ [BitVec.ofNat 8 r.outcome.code] ++ firstFaultBytes r.firstFault ++
    [r.laterFaults, r.sags, leadByte r.lead] ++ halfBytes r.longestHoldUp ++
    [commitByte r.commitCause,
      BitVec.ofNat 8
        (4 * r.mainsReturned.toNat + 2 * r.numberClash.toNat + r.alertPending.toNat)] ++
    halfBytes r.mismatchSet ++
    [r.objections, r.dropped, r.foreign, r.breaks, r.leadConflicts, r.blankMisses,
      r.phaseDisagreements]

/-- The two bytes of a roster entry (R172). -/
def rosterBytes : Option RosterEntry → List Byte
  | none => [0, 0]
  | some e =>
    [e.taken,
      BitVec.ofNat 8
        (16 * e.phaseCount + 8 * e.heard.toNat + 4 * e.mismatch.toNat + 2 * e.outOfStep.toNat +
          e.clash.toNat)]

/-- The station numbers in order. -/
def stationNumbers : List Nibble := [0, 1, 2, 3, 4, 5, 6, 7, 8, 9, 10, 11, 12, 13, 14, 15]

/-- READ ROSTER (R172). -/
def State.rosterReply (s : State) : List Byte :=
  stationNumbers.flatMap fun n => rosterBytes (s.rosterEntry n)

/-! ### The exchange (R168) -/

/-- What a command byte asks for. -/
inductive PortCommand where
  | readState
  | readRails
  | readRecord
  | readLastRecord
  | readRoster
  | acknowledge
  | unknown
deriving DecidableEq, Repr

/-- The commands by their codes (R168). -/
def PortCommand.ofCode (b : Byte) : PortCommand :=
  if b = 0xA1 then .readState
  else if b = 0xA2 then .readRails
  else if b = 0xA3 then .readRecord
  else if b = 0xA4 then .readLastRecord
  else if b = 0xA5 then .readRoster
  else if b = 0xC0 then .acknowledge
  else .unknown

/-- The snapshot that a command names (R168 to R172). -/
def State.snapshot (s : State) : PortCommand → List Byte
  | .readState => s.stateReply
  | .readRails => s.railsReply
  | .readRecord => s.cur.reply
  | .readLastRecord => s.last.reply
  | .readRoster => s.rosterReply
  | .acknowledge => []
  | .unknown => []

/-- The byte sent after the reply (R168). -/
def PortCommand.filler : PortCommand → Byte
  | .readState => 0x00
  | .readRails => 0x00
  | .readRecord => 0x00
  | .readLastRecord => 0x00
  | .readRoster => 0x00
  | .acknowledge => 0x00
  | .unknown => 0xFF

/-- Alert pending is cleared (R159). -/
def State.clearAlert (s : State) : State :=
  { s with cur := { s.cur with alertPending := false } }

/-- A command byte completes: the snapshot is taken, and ACKNOWLEDGE clears the alert (R168). -/
def State.completeCommand (b : Byte) (s : State) : State :=
  let c := PortCommand.ofCode b
  let t :=
    { s with
      port := .reply { snapshot := s.snapshot c, filler := c.filler, sent := 0, out := false } }
  if c = .acknowledge then t.clearAlert else t

/-- The command byte `b` completes in COMMAND, if the bits taken so far begin it (log 2). -/
def State.acceptByte (b : Byte) (s : State) : State :=
  match s.port with
  | .command bits => if bits.isPrefixOf (byteBits b) then s.completeCommand b else s
  | .idle => s
  | .reply _ => s

/-- SELECT_LOWERED (R168): while RST is asserted the port ignores select. -/
def execSelectLowered (s : State) : Result :=
  if s.loader.rstAsserted then .next s
  else
    match s.port with
    | .idle => .next { s with port := .command [] }
    | .command _ => .next s
    | .reply _ => .next s

/-- SELECT_RAISED (R168). -/
def execSelectRaised (s : State) : Result :=
  .next { s with port := .idle }

/-- READ_STATE (R168, R169), with HOLD at the level `hold`. -/
def execReadState (hold : Bool) (s : State) : Result :=
  .next ((s.seeHold hold).acceptByte 0xA1)

/-- READ_RAILS (R168, R170). -/
def execReadRails (s : State) : Result :=
  .next (s.acceptByte 0xA2)

/-- READ_RECORD (R168, R171). -/
def execReadRecord (s : State) : Result :=
  .next (s.acceptByte 0xA3)

/-- READ_LAST_RECORD (R168, R171). -/
def execReadLastRecord (s : State) : Result :=
  .next (s.acceptByte 0xA4)

/-- READ_ROSTER (R168, R172). -/
def execReadRoster (s : State) : Result :=
  .next (s.acceptByte 0xA5)

/-- ACKNOWLEDGE (R159, R168). -/
def execAcknowledge (s : State) : Result :=
  .next (s.acceptByte 0xC0)

/-- UNKNOWN_COMMAND (R168): any byte but the six codes. -/
def execUnknownCommand (code : Byte) (s : State) : Result :=
  if PortCommand.ofCode code = .unknown then .next (s.acceptByte code) else .next s

/-- A rising clock edge: one command bit in COMMAND, and at the eighth the command completes
(R168). -/
def State.takeBit (bit : Bool) (s : State) : State :=
  match s.port with
  | .command bits =>
    if bits.length < 7 then { s with port := .command (bits ++ [bit]) }
    else s.completeCommand (bitsToByte (bits ++ [bit]))
  | .idle => s
  | .reply _ => s

/-- COMMAND_BIT (R168), with HOLD at the level `hold`. -/
def execCommandBit (bit hold : Bool) (s : State) : Result :=
  .next ((s.seeHold hold).takeBit bit)

/-- Bit `n` of the bytes of a reply, the filler byte repeated after the snapshot (R168). -/
def Reply.bit (r : Reply) (n : Nat) : Bool :=
  (r.snapshot.getD (n / 8) r.filler).getMsbD (n % 8)

/-- A falling clock edge in REPLY: the next reply bit is driven (R168). -/
def Reply.advance (r : Reply) : Reply :=
  { r with sent := r.sent + 1, out := r.bit r.sent }

/-- REPLY_BIT (R168). -/
def execReplyBit (s : State) : Result :=
  match s.port with
  | .reply r => .next { s with port := .reply r.advance }
  | .idle => .next s
  | .command _ => .next s

end Sys2Proof.Machine
end

