-- ==== Sys2Proof/Machine/Dispatch.lean ====
section
/-! DEFINITION. The meaning of every command: one arm for each row of spec/opcode_table.json. -/

namespace Sys2Proof.Machine

def exec (i : Instr) (s : State) : Host.Outcome State Fault Refusal :=
  match i with
  | .supplyStart prof1 prof0 => Sys2Proof.Machine.execSupplyStart prof1 prof0 s
  | .rst micros => Sys2Proof.Machine.execRst micros s
  | .rstRelease prof1 prof0 => Sys2Proof.Machine.execRstRelease prof1 prof0 s
  | .memoryNoAcknowledge => Sys2Proof.Machine.execMemoryNoAcknowledge s
  | .readFailed cause => Sys2Proof.Machine.execReadFailed cause s
  | .imageReadComplete image hold => Sys2Proof.Machine.execImageReadComplete image hold s
  | .senseSample sample => Sys2Proof.Machine.execSenseSample sample s
  | .mainsHeldEvent => Sys2Proof.Machine.execMainsHeldEvent s
  | .riseLimitExpiry rail hold => Sys2Proof.Machine.execRiseLimitExpiry rail hold s
  | .settleExpiry rail hold => Sys2Proof.Machine.execSettleExpiry rail hold s
  | .fallLimitExpiry rail hold => Sys2Proof.Machine.execFallLimitExpiry rail hold s
  | .dischargeExpiry rail hold => Sys2Proof.Machine.execDischargeExpiry rail hold s
  | .blankWaitExpiry hold => Sys2Proof.Machine.execBlankWaitExpiry hold s
  | .minimumHold hold => Sys2Proof.Machine.execMinimumHold hold s
  | .reclaimDelayEnd => Sys2Proof.Machine.execReclaimDelayEnd s
  | .rise => Sys2Proof.Machine.execRise s
  | .holdLineFault => Sys2Proof.Machine.execHoldLineFault s
  | .rollTimeoutExpiry hold => Sys2Proof.Machine.execRollTimeoutExpiry hold s
  | .phaseLimitExpiry hold => Sys2Proof.Machine.execPhaseLimitExpiry hold s
  | .windowExpiry => Sys2Proof.Machine.execWindowExpiry s
  | .budgetExpiry => Sys2Proof.Machine.execBudgetExpiry s
  | .quietTimerExpiry => Sys2Proof.Machine.execQuietTimerExpiry s
  | .retryDelayExpiry => Sys2Proof.Machine.execRetryDelayExpiry s
  | .restTimeExpiry => Sys2Proof.Machine.execRestTimeExpiry s
  | .muteReleaseExpiry => Sys2Proof.Machine.execMuteReleaseExpiry s
  | .busFree => Sys2Proof.Machine.execBusFree s
  | .frameStart slots => Sys2Proof.Machine.execFrameStart slots s
  | .frameAbandoned => Sys2Proof.Machine.execFrameAbandoned s
  | .objectedFrame => Sys2Proof.Machine.execObjectedFrame s
  | .foreignFrame => Sys2Proof.Machine.execForeignFrame s
  | .sagTaken hold => Sys2Proof.Machine.execSagTaken hold s
  | .commitTaken hold => Sys2Proof.Machine.execCommitTaken hold s
  | .faultTaken hold => Sys2Proof.Machine.execFaultTaken hold s
  | .mainsOkTaken hold => Sys2Proof.Machine.execMainsOkTaken hold s
  | .fallTaken hold => Sys2Proof.Machine.execFallTaken hold s
  | .riseTaken hold => Sys2Proof.Machine.execRiseTaken hold s
  | .rollTaken hold => Sys2Proof.Machine.execRollTaken hold s
  | .tallyTaken hold => Sys2Proof.Machine.execTallyTaken hold s
  | .breakDriveEnd => Sys2Proof.Machine.execBreakDriveEnd s
  | .breakDetected => Sys2Proof.Machine.execBreakDetected s
  | .linkStuck => Sys2Proof.Machine.execLinkStuck s
  | .periodBoundary hold => Sys2Proof.Machine.execPeriodBoundary hold s
  | .silenceTimeout => Sys2Proof.Machine.execSilenceTimeout s
  | .measurementOverflow => Sys2Proof.Machine.execMeasurementOverflow s
  | .selectLowered => Sys2Proof.Machine.execSelectLowered s
  | .selectRaised => Sys2Proof.Machine.execSelectRaised s
  | .readState hold => Sys2Proof.Machine.execReadState hold s
  | .readRails => Sys2Proof.Machine.execReadRails s
  | .readRecord => Sys2Proof.Machine.execReadRecord s
  | .readLastRecord => Sys2Proof.Machine.execReadLastRecord s
  | .readRoster => Sys2Proof.Machine.execReadRoster s
  | .acknowledge => Sys2Proof.Machine.execAcknowledge s
  | .unknownCommand code => Sys2Proof.Machine.execUnknownCommand code s
  | .commandBit bit hold => Sys2Proof.Machine.execCommandBit bit hold s
  | .replyBit => Sys2Proof.Machine.execReplyBit s
  | .transitionBoostEnd rail => Sys2Proof.Machine.execTransitionBoostEnd rail s
  | .activeTimeEnd => Sys2Proof.Machine.execActiveTimeEnd s
  | .lineGoesRecessive => Sys2Proof.Machine.execLineGoesRecessive s
  | .dimInSample level => Sys2Proof.Machine.execDimInSample level s

end Sys2Proof.Machine
end

