-- ==== Sys2Proof/Machine/Tick.lean ====
section
/-! DEFINITION. The passage of time: one base tick of 1 µs on every counter and clock of the station (R36), and the station's own event that is due (log 1). -/

namespace Sys2Proof.Machine

/-! ### One base tick -/

/-- One tick less, down to 0. -/
def countDown : Option Nat → Option Nat
  | some n => some (n - 1)
  | none => none

/-- One tick more. -/
def countUp : Option Nat → Option Nat
  | some n => some (n + 1)
  | none => none

/-- One tick of a rail: its timer, the ticks since its enable was applied on, its boost. -/
def Rail.tick (r : Rail) : Rail :=
  { r with
    timer := r.timer.tick
    enableClock := if r.applied then r.enableClock + 1 else r.enableClock
    boost := countDown r.boost }

/-- One tick of the sequence controller's one-shot counters. -/
def Timers.tick (t : Timers) : Timers :=
  { t with phase := t.phase.tick, quiet := t.quiet.tick, retry := t.retry.tick, mute := t.mute.tick }

/-- One tick of the sense front end: the dwell, the sample clock, and a new instant for DIM_IN
(R22, R32). -/
def FrontEnd.tick (f : FrontEnd) : FrontEnd :=
  { f with dwell := countUp f.dwell, sampleLeft := countDown f.sampleLeft, dimInDue := true }

/-- One tick of a measurement in progress. -/
def Measurement.tick (m : Measurement) : Measurement :=
  { m with since := m.since + 1 }

/-- One tick of the dimming channel; `captures` says that DIM_IN is measured (R146). -/
def Dimming.tick (captures : Bool) (d : Dimming) : Dimming :=
  { d with
    measurement := if captures then d.measurement.map Measurement.tick else d.measurement
    silence := if captures then d.silence + 1 else d.silence
    boundaryLeft := countDown d.boundaryLeft
    activeLeft := countDown d.activeLeft }

/-- One tick of the loader: it drives SCL and SDA while it reads the image (R162; log 26). -/
def Loader.tick (l : Loader) : Loader :=
  if l.reading then { l with busTicks := l.busTicks + 1 } else l

/-- One tick of the notice interface: its BREAK, and the frame under way (R63, R81). -/
def NoticeInterface.tick (n : NoticeInterface) : NoticeInterface :=
  { n with
    breakDrive := countDown n.breakDrive
    drive := if n.link.inFrame then { n.drive with ticks := n.drive.ticks + 1 } else n.drive }

/-- One base tick (R36). -/
def State.tick (s : State) : State :=
  { s with
    rails := s.rails.map Rail.tick
    ctl := { s.ctl with blankTimer := s.ctl.blankTimer.tick }
    front := s.front.tick
    timers := s.timers.tick
    holdUp := s.holdUp.tick
    line :=
      { s.line with
        minHoldLeft := countDown s.line.minHoldLeft, reclaim := countDown s.line.reclaim }
    notices := s.notices.tick
    dim := s.dim.tick s.captures
    loader := s.loader.tick }

/-! ### Events that are due -/

/-- The event if its condition holds. -/
def dueIf (cond : Bool) (c : Instr) : Option Instr :=
  if cond then some c else none

/-- The expiry of the rail timer of rail `i` (R13, R14, R16, R17, R40). -/
def State.railDue (s : State) (i : Fin 8) : Option Instr :=
  if (s.rail i).timer.due then
    match (s.rail i).state with
    | .ramping => some (.riseLimitExpiry i s.line.high)
    | .settling => some (.settleExpiry i s.line.high)
    | .falling => some (.fallLimitExpiry i s.line.high)
    | .discharging => some (.dischargeExpiry i s.line.high)
    | .off => none
    | .armedOn => none
    | .armedOff => none
    | .good => none
    | .shed => none
    | .dimWait => none
  else none

/-- The end of the transition boost of rail `i` (R3). -/
def State.boostDue (s : State) (i : Fin 8) : Option Instr :=
  dueIf ((s.rail i).boost == some 0) (.transitionBoostEnd i)

/-- The expiry of the phase timer by its setting (R42). -/
def State.phaseDue (s : State) : Option Instr :=
  if s.timers.phase.due then
    match s.timers.phaseSetting with
    | .phaseLimit => some (.phaseLimitExpiry s.line.high)
    | .rollTimeout => some (.rollTimeoutExpiry s.line.high)
  else none

/-- The expiry of the retry/rest timer by its setting (R47). -/
def State.retryDue (s : State) : Option Instr :=
  if s.timers.retry.due then
    match s.timers.retrySetting with
    | .retryDelay => some .retryDelayExpiry
    | .restTime => some .restTimeExpiry
  else none

/-- The station's own events that are due, in the model's order (log 10). -/
def State.dueList (s : State) : List (Option Instr) :=
  railIndices.map s.railDue ++ railIndices.map s.boostDue ++
    [ dueIf s.ctl.blankTimer.due (.blankWaitExpiry s.line.high),
      dueIf s.holdUp.windowDue .windowExpiry,
      dueIf s.holdUp.budgetDue .budgetExpiry,
      s.phaseDue,
      dueIf s.timers.quiet.due .quietTimerExpiry,
      s.retryDue,
      dueIf s.timers.mute.due .muteReleaseExpiry,
      dueIf s.dwellDue .mainsHeldEvent,
      dueIf s.minHoldDue (.minimumHold s.line.high),
      dueIf (s.line.reclaim == some 0) .reclaimDelayEnd,
      dueIf s.overlongDue .frameAbandoned,
      dueIf s.ownBreakDue .breakDetected,
      dueIf (s.notices.breakDrive == some 0) .breakDriveEnd,
      dueIf s.boundaryDue (.periodBoundary s.line.high),
      dueIf (s.dim.activeLeft == some 0) .activeTimeEnd,
      dueIf s.silenceDue .silenceTimeout,
      dueIf s.overflowDue .measurementOverflow,
      dueIf s.sampleDue (.senseSample { s.front.levels with hold := s.line.high }),
      dueIf s.dimInSampleDue (.dimInSample s.front.dimInLevel) ]

/-- The first of the station's own events that is due. -/
def State.dueEvent (s : State) : Option Instr :=
  s.dueList.findSome? id

end Sys2Proof.Machine
end

