-- ==== Sys2Proof/Safety.lean ====
section
/-! DEFINITION. The invariants of the station that the statements speak of, the conditions under which little follows a step, and what a rail is after its entry to FALLING, its switch to on and the onset of urgency. -/

namespace Sys2Proof.Machine

/-! ### What follows a step -/

/-- Nothing follows a step at the same instant but a release of HOLD and the first slot of a
frame: the station is not in SOLO (R126, R129), and HOLD is not high after 2 µs of high within
the claim (R53). -/
def State.calm (s : State) : Prop :=
  s.seq.mode ≠ .solo ∧ ¬(s.line.high = true ∧ s.line.highTwo = true)

/-- The line after the release that R52 asks for, if it asks for one. -/
def State.lineAfterRelease (s : State) : PhaseLine :=
  if s.canRelease then { s.line with claimed := false, minHoldLeft := none } else s.line

/-! ### A notice about to be taken -/

/-- This station has received the well-formed notice `n` in the frame under way; `own` says that
it sends that frame (R70, R71). -/
def State.takes (s : State) (n : Notice) (own : Bool) : Prop :=
  ∃ slots, s.notices.link = .frame ⟨slots, own⟩ ∧ Frame.notice ⟨slots, own⟩ = some n

/-- The rise of the high interval that stands has been taken (R53). -/
def State.riseAlreadyTaken (s : State) : Bool :=
  s.line.riseTaken && s.line.high

/-- No rise is taken before a notice of kind `k` that arrives with HOLD at `hold` (R56): the
notice changes no mode here, or this station claims HOLD, or HOLD is low, or the rise of the
high interval is taken. -/
def State.noRiseFirst (s : State) (k : Kind) (hold : Bool) : Prop :=
  changesMode s.seq.mode k = false ∨ s.line.claimed = true ∨ hold = false ∨
    s.riseAlreadyTaken = true

/-- The command of a taken notice of kind `k` with HOLD at `hold`. -/
def Kind.taken (k : Kind) (hold : Bool) : Instr :=
  match k with
  | .sag => .sagTaken hold
  | .commit => .commitTaken hold
  | .fault => .faultTaken hold
  | .mainsOk => .mainsOkTaken hold
  | .fall => .fallTaken hold
  | .rise => .riseTaken hold
  | .roll => .rollTaken hold
  | .tally => .tallyTaken hold

/-- The station in which a taken notice acts when no rise is taken first: the frame has ended,
the withdrawals of R79 are made, HOLD is seen at `hold`, and steps 2 and 3 of R87 and a number
clash are done (log 14). -/
def State.atNotice (s : State) (n : Notice) (own hold : Bool) : State :=
  ((({ s with
      notices :=
        { s.notices with
          link := .waiting
          inFlight := if own then none else s.notices.inFlight } }.withdrawForTaken n.kind
      own).seeHold hold).countTaken n).checkClash n own

/-! ### Rails -/

/-- A rail that has come to rest in OFF: no timer, no discharge, no mark, requested off (R4,
R16). -/
def Rail.rests (r : Rail) : Rail :=
  { r with
    state := .off, timer := .stopped, dischargeRequest := false, restoring := false,
    requested := false }

/-- Rail `i` after its entry to FALLING (R4, R16), or in OFF at once where its accepted zone is
OFF (R29). `urgent` says that the fall is under urgent timing. -/
def State.fallenRail (s : State) (i : Fin 8) (urgent : Bool) : Rail :=
  let e := s.entry i
  let r := { (s.rail i).applyEnable e false with urgentFall := urgent }
  if e.sense = true ∧ s.zone i = some .off then r.rests
  else
    { r with
      state := .falling, requested := false, restoring := false
      timer := .running ((if urgent then e.urgentFallLimit else e.fallLimit) * 100)
      dischargeRequest := urgent || (!e.sense && e.discharge.isSome) }

/-- The rail `r` at place `i` after its enable is applied on, where its zone is not HIGH: RAMPING
while it has to reach GOOD, SETTLING where it has no sense input or stands at GOOD already
(R7, R10, R29). Its timer is loaded with the full time, and stands still while held (R12). -/
def State.raisedRail (s : State) (i : Fin 8) (r : Rail) : Rail :=
  let e := s.entry i
  let on := r.applyEnable e true
  let timed : Nat → OneShot := fun units =>
    if s.ctl.held then .paused (units * 100) else .running (units * 100)
  if e.sense = false then { on with state := .settling, timer := timed e.settleTime }
  else if s.zone i = some .good then
    { on with
      state := .settling, timer := timed e.settleTime
      riseTime := some (BitVec.ofNat 16 (min 65535 (on.enableClock / 100))) }
  else { on with state := .ramping, timer := timed e.riseLimit }

/-- A FALLING rail that begins to request discharge and whose time is bounded by the urgent fall
limit (R11, R16). -/
def State.hurriedRail (s : State) (i : Fin 8) : Rail :=
  { s.rail i with
    dischargeRequest := true
    timer := (s.rail i).timer.shorten ((s.entry i).urgentFallLimit * 100) }

/-- Rail `i` after the onset of urgency (R121). -/
def State.urgedRail (s : State) (i : Fin 8) : Rail :=
  match (s.rail i).state with
  | .armedOff | .dimWait => s.fallenRail i true
  | .falling => if (s.rail i).urgentFall then s.rail i else s.hurriedRail i
  | .off | .armedOn | .ramping | .settling | .good | .shed | .discharging => s.rail i

/-- Rail `i` after a force off, by its state (R11). -/
def State.forcedRail (s : State) (i : Fin 8) : Rail :=
  match (s.rail i).state with
  | .armedOn | .shed => (s.rail i).rests
  | .ramping | .settling | .good | .armedOff | .dimWait => s.fallenRail i true
  | .falling => s.hurriedRail i
  | .off | .discharging => s.rail i

/-- At the end of ride, rail `i` faults with DIP: GOOD with zone LOW or OFF (R15). -/
def State.dips (s : State) (i : Fin 8) : Prop :=
  (s.rail i).state = .good ∧ (s.zone i = some .low ∨ s.zone i = some .off)

/-! ### Invariants -/

/-- The notice interface is DORMANT exactly while no load has succeeded (R65, R86). -/
def State.linkMatchesMode (s : State) : Prop :=
  s.notices.link = .dormant ↔ s.loaded = false

/-- HOLD is claimed, and a claim is due, only in a claiming mode (R49, R50). -/
def State.claimsOnlyInClaimingModes (s : State) : Prop :=
  s.line.claimed = true ∨ s.line.reclaim.isSome = true → s.seq.mode.claims = true

/-- The phase number belongs to the mode: 0, 1 to N, or N (R54, R85). -/
def State.phaseMatchesMode (s : State) : Prop :=
  let k := s.seq.phase
  let n := s.settings.phaseCount
  match s.seq.mode with
  | .loading | .silent | .unconfigured => k = 0
  | .off | .lockout | .rollcall => k = 0 ∧ 1 ≤ n
  | .on => k = n ∧ 1 ≤ n
  | .rising | .descending | .solo => 1 ≤ k ∧ k ≤ n
  | .riding =>
    match s.seq.returnMode with
    | .rollcall => k = 0 ∧ 1 ≤ n
    | .rising => 1 ≤ k ∧ k ≤ n
    | .on => k = n ∧ 1 ≤ n
    | .none => False

/-- The link state and the phase number belong to the mode, and a loaded station has at most 15
phases (R164). -/
def State.phaseLegal (s : State) : Prop :=
  s.linkMatchesMode ∧ s.phaseMatchesMode ∧ (s.loaded = true → s.settings.phaseCount ≤ 15)

/-- The attempt count is at most the retry limit plus one, and above the retry limit in LOCKOUT
(R100); it is 0 while no load has succeeded (R85). -/
def State.attemptsBounded (s : State) : Prop :=
  s.seq.attempts ≤ s.settings.retryLimit + 1 ∧
    (s.seq.mode = .lockout → s.settings.retryLimit < s.seq.attempts) ∧
    (s.loaded = false → s.seq.attempts = 0)

/-- No free line is left with a notice to send: the station drives the first slot at once
(R66). -/
def State.sendsWhenFree (s : State) : Prop :=
  s.notices.link = .free → ∀ k, s.pendingOf k = none

/-- The zero ceiling report is true exactly while the ceiling in effect is 0 (R20, R153). -/
def State.reportMatchesCeiling (s : State) : Prop :=
  s.dim.zeroReport = decide (s.dim.ceiling = .limited 0)

/-- A rail that is not present, and every rail while no load has succeeded, is OFF (R2, R5). -/
def State.absentRailsOff (s : State) : Prop :=
  ∀ i : Fin 8, (s.entry i).present = false ∨ s.loaded = false → (s.rail i).state = .off

/-- A resend count is 0 to 2 (R73). -/
def Pending.bounded (p : Pending) : Prop :=
  p.resend ≤ 2

/-- Every pending notice and the notice in flight carry a resend count of 0 to 2 (R73). -/
def State.resendsBounded (s : State) : Prop :=
  (∀ k p, s.pendingOf k = some p → p.bounded) ∧
    ∀ f, s.notices.inFlight = some f → f.notice.bounded

/-- The roster is in order of station number with one entry for each number, and holds the
station's own entry from the end of loading on (R93). -/
def State.rosterOrdered (s : State) : Prop :=
  s.linkMatchesMode ∧ s.seq.roster.Pairwise (fun a b => a.number < b.number) ∧
    (s.loaded = true → ∃ e ∈ s.seq.roster, e.number = s.settings.number)

/-- The enable is applied in these states (section 1.3 of 01_rails_and_the_rail_table.md). -/
def RailState.enabled : RailState → Bool
  | .off => false
  | .armedOn => false
  | .armedOff => true
  | .ramping => true
  | .settling => true
  | .good => true
  | .shed => false
  | .dimWait => true
  | .falling => false
  | .discharging => false

/-- The rail timer times these states (section 1.3). -/
def RailState.timed : RailState → Bool
  | .ramping => true
  | .settling => true
  | .falling => true
  | .discharging => true
  | .off => false
  | .armedOn => false
  | .armedOff => false
  | .good => false
  | .shed => false
  | .dimWait => false

/-- The on-states (section 1.3). -/
def RailState.isOn : RailState → Bool
  | .armedOn => true
  | .ramping => true
  | .settling => true
  | .good => true
  | .off => false
  | .armedOff => false
  | .shed => false
  | .dimWait => false
  | .falling => false
  | .discharging => false

/-- A rail's record agrees with its state: applied and requested level, rail timer, restoring
mark and discharge request (section 1.3, R4, R5, R40). -/
def Rail.coherent (r : Rail) : Prop :=
  r.applied = r.state.enabled ∧ r.requested = r.state.isOn ∧
    (r.timer = .stopped ↔ r.state.timed = false) ∧
    (r.restoring = true → r.state = .ramping ∨ r.state = .settling) ∧
    (r.dischargeRequest = true → r.state = .falling ∨ r.state = .discharging)

/-- Every rail's record agrees with its state. -/
def State.railsCoherent (s : State) : Prop :=
  ∀ i : Fin 8, (s.rail i).coherent

/-- A filter holds no candidate and a run of 0, or a candidate other than its accepted value
with a run of 1 or 2 (section 2.3 of 02_sense_inputs.md). -/
def Filter.sound {α : Type} (f : Filter α) : Prop :=
  (f.candidate = none ∧ f.run = 0) ∨
    ∃ c, f.candidate = some c ∧ f.accepted ≠ some c ∧ (f.run = 1 ∨ f.run = 2)

/-- Every filter of the front end is sound. -/
def State.filtersSound (s : State) : Prop :=
  (∀ i : Fin 8, (s.front.sns[i]).sound) ∧ s.front.msns.sound ∧ s.front.pwrReq.sound ∧
    s.front.vblank.sound ∧ s.front.dimIn.sound

end Sys2Proof.Machine
end

