-- ==== Sys2Proof/WellFormed.lean ====
section
/-! DEFINITION. Which command terms name an event that the hardware has. -/

namespace Sys2Proof

/-- Every sense pin lies in its range of 0 to 2.55 V (R173's pin list, section 13.4). -/
def Sample.wellFormed (x : Sample) : Bool :=
  x.sns.toList.all (· ≤ Config.senseRange) && decide (x.msns ≤ Config.senseRange)

/-- The six command codes of R168. -/
def knownCodes : List Byte := [0xA1, 0xA2, 0xA3, 0xA4, 0xA5, 0xC0]

/-- A complete image has 465 bytes (R163), a frame has at most 32 slots before the objection
slot (R67), a sample lies in the pins' range, and an unknown command is none of the six
codes (R168). Every other term is well formed. -/
def Instr.wellFormed : Instr → Bool
  | .supplyStart _ _ => true
  | .rst _ => true
  | .rstRelease _ _ => true
  | .memoryNoAcknowledge => true
  | .readFailed _ => true
  | .imageReadComplete image _ => image.length == Config.imageLength
  | .senseSample sample => sample.wellFormed
  | .mainsHeldEvent => true
  | .riseLimitExpiry _ _ => true
  | .settleExpiry _ _ => true
  | .fallLimitExpiry _ _ => true
  | .dischargeExpiry _ _ => true
  | .blankWaitExpiry _ => true
  | .minimumHold _ => true
  | .reclaimDelayEnd => true
  | .rise => true
  | .holdLineFault => true
  | .rollTimeoutExpiry _ => true
  | .phaseLimitExpiry _ => true
  | .windowExpiry => true
  | .budgetExpiry => true
  | .quietTimerExpiry => true
  | .retryDelayExpiry => true
  | .restTimeExpiry => true
  | .muteReleaseExpiry => true
  | .busFree => true
  | .frameStart slots => decide (slots.length ≤ Config.frameSlots)
  | .frameAbandoned => true
  | .objectedFrame => true
  | .foreignFrame => true
  | .sagTaken _ => true
  | .commitTaken _ => true
  | .faultTaken _ => true
  | .mainsOkTaken _ => true
  | .fallTaken _ => true
  | .riseTaken _ => true
  | .rollTaken _ => true
  | .tallyTaken _ => true
  | .breakDriveEnd => true
  | .breakDetected => true
  | .linkStuck => true
  | .periodBoundary _ => true
  | .silenceTimeout => true
  | .measurementOverflow => true
  | .selectLowered => true
  | .selectRaised => true
  | .readState _ => true
  | .readRails => true
  | .readRecord => true
  | .readLastRecord => true
  | .readRoster => true
  | .acknowledge => true
  | .unknownCommand code => !knownCodes.contains code
  | .commandBit _ _ => true
  | .replyBit => true
  | .transitionBoostEnd _ => true
  | .activeTimeEnd => true
  | .lineGoesRecessive => true
  | .dimInSample _ => true

end Sys2Proof
end

