-- ==== Sys2Proof/Certificates/Slice0/Obligations.lean ====
section
/-! DEFINITION. The statements for the provers, each a Prop of its own. A statement of the form `exec c s = .next u.conclude` leaves what follows the step at the same instant to the statements on `State.conclude`. -/

open Sys2Proof Sys2Proof.Machine

/-! ### The machine -/

/-- The command at the front of the queue is executed on the queue's rest. -/
def Obligations.StepTakesTheFrontCommand : Prop :=
  ∀ (c : Instr) (rest : List Instr) (s : State),
    s.pending = c :: rest → step s = exec c { s with pending := rest }

/-- On an empty queue the station takes its own event that is due, and lets one base tick pass
where none is due: the model's choice, log 1. An own event is due when its counter, compare,
dwell, drive or measurement has run out (R13 to R17, R19, R32, R38, R44, R51, R55, R64, R81,
R82, R147 to R149), or its sample clock has come to an instant (R22), at which the levels last
seen are seen again. Choices of the model's own in it: a step on an empty queue (log 1), the
first sample instant and the levels held at the inputs (log 28). -/
def Obligations.StepOnAnEmptyQueue : Prop :=
  (∀ s : State, s.pending = [] →
    (∀ c, s.dueEvent = some c → step s = exec c s) ∧
      (s.dueEvent = none → step s = .next s.tick)) ∧
  (∀ s : State,
    let due : Instr → Prop := fun c => some c ∈ s.dueList
    let high := s.line.high
    let runsOut : Bool → Option Half → Prop := fun armed compare =>
      s.holdUp.running = true ∧ armed = true ∧ ∃ v, compare = some v ∧ v ≤ s.holdUp.count
    let drivesFor : Nat → Prop := fun us => ∃ n, s.notices.breakDrive = some n ∧ us + n ≤ 48
    (∀ c, s.dueEvent = some c → due c) ∧
      (s.dueEvent = none → ∀ c, ¬due c) ∧
      (∀ i : Fin 8,
        (due (.riseLimitExpiry i high) ↔
            (s.rail i).state = .ramping ∧ (s.rail i).timer = .running 0) ∧
          (due (.settleExpiry i high) ↔
            (s.rail i).state = .settling ∧ (s.rail i).timer = .running 0) ∧
          (due (.fallLimitExpiry i high) ↔
            (s.rail i).state = .falling ∧ (s.rail i).timer = .running 0) ∧
          (due (.dischargeExpiry i high) ↔
            (s.rail i).state = .discharging ∧ (s.rail i).timer = .running 0) ∧
          (due (.transitionBoostEnd i) ↔ (s.rail i).boost = some 0)) ∧
      (due (.blankWaitExpiry high) ↔ s.ctl.blankTimer = .running 0) ∧
      (due .windowExpiry ↔ runsOut s.holdUp.armedA s.holdUp.compareA) ∧
      (due .budgetExpiry ↔
        runsOut s.holdUp.armedP s.holdUp.compareP ∧
          ¬runsOut s.holdUp.armedA s.holdUp.compareA) ∧
      (due (.rollTimeoutExpiry high) ↔
        s.timers.phase = .running 0 ∧ s.timers.phaseSetting = .rollTimeout) ∧
      (due (.phaseLimitExpiry high) ↔
        s.timers.phase = .running 0 ∧ s.timers.phaseSetting = .phaseLimit) ∧
      (due .quietTimerExpiry ↔ s.timers.quiet = .running 0) ∧
      (due .retryDelayExpiry ↔
        s.timers.retry = .running 0 ∧ s.timers.retrySetting = .retryDelay) ∧
      (due .restTimeExpiry ↔
        s.timers.retry = .running 0 ∧ s.timers.retrySetting = .restTime) ∧
      (due .muteReleaseExpiry ↔ s.timers.mute = .running 0) ∧
      (due .mainsHeldEvent ↔
        s.front.msns.accepted = some .ok ∧
          ∃ n, s.front.dwell = some n ∧ s.settings.recoveryDwell * 100 ≤ n) ∧
      (due (.minimumHold high) ↔
        s.line.claimed = true ∧ s.line.minHold = false ∧ s.line.minHoldLeft = some 0) ∧
      (due .reclaimDelayEnd ↔ s.line.reclaim = some 0) ∧
      (due .frameAbandoned ↔ (∃ f, s.notices.link = .frame f) ∧ drivesFor 8) ∧
      (due .breakDetected ↔
        (s.notices.link = .waiting ∨ s.notices.link = .free ∨ ∃ f, s.notices.link = .frame f) ∧
          drivesFor 32) ∧
      (due .breakDriveEnd ↔ s.notices.breakDrive = some 0) ∧
      (due (.periodBoundary high) ↔
        s.loaded = true ∧ s.settings.roles.backlight = true ∧ s.dim.boundaryLeft = some 0) ∧
      (due .activeTimeEnd ↔ s.dim.activeLeft = some 0) ∧
      (due .silenceTimeout ↔
        s.captures = true ∧
          (s.dim.capture = .level ∧ s.dim.measurement ≠ none ∧ 65000 ≤ s.dim.silence ∨
            s.dim.capture = .tracking ∧
              ∃ p, s.dim.pair = some p ∧ 3 * p.period ≤ s.dim.silence)) ∧
      (due .measurementOverflow ↔
        s.captures = true ∧ ∃ m, s.dim.measurement = some m ∧ 65536 ≤ m.since) ∧
      (∀ x, due (.senseSample x) ↔
        s.loaded = true ∧ s.front.sampleLeft = some 0 ∧
          x = { s.front.levels with hold := high }) ∧
      (∀ level, due (.dimInSample level) ↔
        s.captures = true ∧ s.front.dimInDue = true ∧ level = s.front.dimInLevel))

/-- What follows a step outside SOLO (R52, R53, R66): with HOLD not high through the claim,
nothing but the release that R52 asks for and the first slot of a frame; a release into a line
high for 2 µs of the claim takes the rise at once. The release condition of each mode and
phase (R52), from the roster (R93) and from the summaries of the rails (R21), in which a rail
that is not present counts for nothing. -/
def Obligations.ReleaseFollowsAStep : Prop :=
  (∀ s : State, s.calm →
    s.conclude =
      ({ s with
        line :=
          if s.canRelease then { s.line with claimed := false, minHoldLeft := none }
          else s.line }).sendIfFree) ∧
  (∀ s : State, s.seq.mode ≠ .solo → s.canRelease = true → s.line.high = true →
      s.line.highTwo = true →
      s.conclude =
        (({ s with
          line :=
            { s.line with
              claimed := false, minHoldLeft := none, riseTaken := false,
              highTwo := false } }).takeRise).sendIfFree) ∧
  (∀ s : State,
      let present : Fin 8 → Prop := fun i => (s.entry i).present = true
      let up : Nat → Prop := fun k =>
        ∀ i, present i →
          ((s.entry i).upPhase ≤ k → (s.rail i).state = .good ∨ (s.rail i).state = .shed) ∧
            ((s.entry i).upPhase = k → (s.rail i).state = .good)
      let down : Nat → Prop := fun d =>
        ∀ i, present i → (s.entry i).downPhase = d → (s.rail i).state = .off
      let restored := ∀ i, present i → (s.rail i).state ≠ .shed ∧ (s.rail i).restoring = false
      let heardAll :=
        (s.seq.roster.filter fun e => e.heard).length = s.settings.peerCount ∧
          ∀ e ∈ s.seq.roster, e.mismatch = false
      let mode := s.seq.mode
      let releases := s.releaseCondition = true
      (∀ k, (s.upSummary k = true ↔ up k) ∧ (s.downSummary k = true ↔ down k)) ∧
        (s.shedSummary = true ↔ restored) ∧
        (s.allOff = true ↔ ∀ i, present i → (s.rail i).state = .off) ∧
        (s.canRelease = true ↔ s.line.claimed = true ∧ s.line.minHold = true ∧ releases) ∧
        (mode = .rollcall → (releases ↔ heardAll)) ∧
        (mode = .rising → (releases ↔ up s.seq.phase)) ∧
        (mode = .riding → s.seq.recovered = false → ¬releases) ∧
        (mode = .riding → s.seq.recovered = true →
          (s.seq.returnMode = .rollcall → (releases ↔ heardAll)) ∧
            (s.seq.returnMode = .rising → (releases ↔ up s.seq.phase ∧ restored)) ∧
            (s.seq.returnMode = .on → (releases ↔ restored))) ∧
        (mode = .descending → (releases ↔ down s.seq.phase)) ∧
        (mode ≠ .rollcall → mode ≠ .rising → mode ≠ .riding → mode ≠ .descending → ¬releases))

/-- What follows a step in SOLO (R126, R129): above down phase 1, with the down summary of the
phase true, the station steps to the phase below and switches its rails off, and so on; with
it false and a rail not OFF nothing follows but the first slot of a frame. With every rail OFF
SOLO ends: hold-up timer stopped, solo condition cleared, attempts and last cause by R100,
then OFF, with the requester's answer, or LOCKOUT; a held RISE brings roll call, and in
LOCKOUT one with another attempt than 0 is discarded (R88). -/
def Obligations.SoloGoesOnAndEnds : Prop :=
  (∀ s : State, s.seq.mode = .solo → s.seq.phase ≤ 15 → s.conclude.seq.mode = .solo →
      s.conclude.allOff = false ∧
        (s.conclude.seq.phase ≤ 1 ∨ s.conclude.downSummary s.conclude.seq.phase = false)) ∧
  (∀ s : State, s.seq.mode = .solo → s.seq.phase ≤ 15 →
      let d := s.seq.phase - 1
      (1 < s.seq.phase → s.downSummary s.seq.phase = true →
          s.conclude =
            (({ s with seq := { s.seq with phase := d } }).switchOffPhase d).conclude) ∧
        (s.seq.phase ≤ 1 ∨ s.downSummary s.seq.phase = false → s.allOff = false →
          s.conclude = s.sendIfFree)) ∧
  (∀ s : State, s.seq.mode = .solo → s.allOff = true → 1 ≤ s.seq.phase → s.seq.phase ≤ 15 →
      let n :=
        match s.seq.cause with
        | .request => 0
        | .fault | .brk => min (s.seq.attempts + 1) (s.settings.retryLimit + 1)
        | .brownout | .none => s.seq.attempts
      let locked := decide (s.settings.retryLimit < n)
      let u : State :=
        { s with
          ctl := { s.ctl with solo := false }
          holdUp := { s.holdUp with running := false }
          line := { s.line with claimed := false, minHoldLeft := none, reclaim := none }
          seq :=
            { s.seq with
              mode := if locked then .lockout else .off
              phase := 0, cause := .none, lastCause := s.seq.cause, attempts := n, budgetPassed := false }
          cur :=
            { s.cur with
              outcome := if locked then .lockout else s.cur.outcome
              alertPending := s.cur.alertPending || locked } }
      (s.seq.heldRise = none →
          s.conclude = (if locked then u else u.requesterEntersOff).sendIfFree) ∧
        (∀ a, s.seq.heldRise = some a → locked = false ∨ a = 0 →
          s.conclude.seq.mode = .rollcall ∧ s.conclude.seq.phase = 0 ∧
            s.conclude.seq.heldRise = none ∧ s.conclude.line.claimed = true ∧
            s.conclude.cur.runNumber = s.cur.runNumber + 1) ∧
        ∀ a, s.seq.heldRise = some a → locked = true → a ≠ 0 →
          s.conclude = ({ u with seq := { u.seq with heldRise := none } }).sendIfFree)

/-! ### Start-up -/

/-- Supply start, RST and its release (R161, R167). A supply start gives every item its reset
value with the PROF pins sampled, or holds the station where RST is still asserted; the queue
and the index of free values are the model's own and go on (log 6). An RST of 10 µs or more
keeps the last run record and resets the rest; a shorter one is taken in the same way or has
no effect, whichever the free value is (log 5). The release samples the PROF pins and begins
LOADING. Choices of the model's own in it: no effect of an event that cannot occur (log 3),
the free value of a short RST (log 5), the state at reset (log 6). -/
def Obligations.SupplyStartAndRst : Prop :=
  (∀ (prof1 prof0 : Bool) (s : State),
      exec (.supplyStart prof1 prof0) s =
        .next
          { State.reset with
            loader :=
              if s.loader.rstAsserted then
                { State.reset.loader with rstAsserted := true, reading := false }
              else
                { State.reset.loader with
                  profile := BitVec.ofNat 2 (2 * prof1.toNat + prof0.toNat) }
            freeIndex := s.freeIndex
            pending := s.pending }) ∧
  (∀ (micros : Nat) (s : State),
      let held : Nat → State := fun free =>
        { State.reset with
          loader := { s.loader with rstAsserted := true, reading := false }
          last := s.last
          freeIndex := free
          pending := s.pending }
      (10 ≤ micros → exec (.rst micros) s = .next (held s.freeIndex)) ∧
        (micros < 10 →
          exec (.rst micros) s = .next (held (s.freeIndex + 1)) ∨
            exec (.rst micros) s = .next { s with freeIndex := s.freeIndex + 1 })) ∧
  (∀ (prof1 prof0 : Bool) (s : State),
      (s.loader.rstAsserted = true →
        exec (.rstRelease prof1 prof0) s =
          .next
            { s with
              loader :=
                { rstAsserted := false, reading := true, busTicks := 0, resetCause := .rst,
                  profile := BitVec.ofNat 2 (2 * prof1.toNat + prof0.toNat), reason := .none,
                  detail := 15 } }) ∧
        (s.loader.rstAsserted = false → exec (.rstRelease prof1 prof0) s = .next s))

/-- A load that does not succeed (R162, R164, R166): no acknowledge at step 1 ends LOADING in
SILENT; every other failure of the read ends it in UNCONFIGURED with READ_FAILED, and a
refused image with the reason and detail of its check. -/
def Obligations.LoadWithoutAnAcceptedImage : Prop :=
  (∀ (cause : ReadFailure) (s : State), s.readsImage = true →
      exec .memoryNoAcknowledge s =
          .next
            { s with
              loader := { s.loader with reading := false }
              seq := { s.seq with mode := .silent } } ∧
        exec (.readFailed cause) s =
          .next
            { s with
              loader := { s.loader with reading := false, reason := .readFailed, detail := 15 }
              seq := { s.seq with mode := .unconfigured } }) ∧
  (∀ (image : List Byte) (hold : Bool) (r : LoadReason) (d : Nat) (s : State),
      s.readsImage = true → image.length = 465 → checkImage image s.loader.profile = some (r, d) →
      exec (.imageReadComplete image hold) s =
        .next
          { s with
            loader := { s.loader with reading := false, reason := r, detail := d }
            seq := { s.seq with mode := .unconfigured } })

/-- The first failing check of R164 is the load reason; the rail checks carry the first failing
rail as detail, every other reason carries 15. Each check is spelled from the bytes of the
image, which lie as R163 lays them out. Choices of the model's own in it: the checks that
refuse the bits marked 0 in bytes 14 and 15 of the header and byte 14 of a profile (log 23). -/
def Obligations.ImageChecksRunInOrder : Prop :=
  ∀ (image : List Byte) (p : BitVec 2),
    let b : Nat → Nat := fun k => (image.getD k 0).toNat
    let half : Nat → Nat := fun k => 256 * b k + b (k + 1)
    let bit : Nat → Nat → Prop := fun k j => (image.getD k 0).getLsbD j = true
    let o := 16 + 112 * p.toNat
    let r : Fin 8 → Nat := fun i => o + 16 + 12 * i.val
    let stationRecord :=
      b 3 ≤ 15 ∧ b 4 % 16 = 0 ∧ 1 ≤ b 5 ∧ b 5 ≤ 15 ∧ 1 ≤ b 6 ∧ b 6 ≤ 16 ∧ b 7 ≤ 3 ∧
        b 8 ≠ 0 ∧ b 9 ≠ 0 ∧ 1 ≤ b 10 ∧ b 10 ≤ 15 ∧ b 11 ≠ 0 ∧ b 12 ≠ 0 ∧ b 13 ≠ 0 ∧
        b 14 ≤ 1 ∧ b 15 ≤ 15
    let profileSettings :=
      b o ≠ 0 ∧ half (o + 5) ≠ 0 ∧ half (o + 7) ≠ 0 ∧ half (o + 5) ≤ half (o + 7) ∧
        50 ≤ half (o + 9) ∧ b (o + 11) ≤ 100 ∧ b (o + 13) ≤ 100 ∧ b (o + 14) < 32 ∧
        b (o + 15) = p.toNat ∧ (bit 4 6 → b (o + 3) < b (o + 4))
    let consistent : Fin 8 → Prop := fun i =>
      bit (r i) 7 →
        1 ≤ b (r i + 1) / 16 ∧ b (r i + 1) / 16 ≤ b 5 ∧ 1 ≤ b (r i + 1) % 16 ∧
          b (r i + 1) % 16 ≤ b 5 ∧ b (r i) / 8 % 4 ≤ 2 ∧ b (r i + 11) ≤ 4 ∧
          half (r i + 5) ≠ 0 ∧ half (r i + 8) ≠ 0 ∧ b (r i + 10) ≠ 0 ∧
          (bit (r i) 6 → b (r i + 2) < b (r i + 3) ∧ b (r i + 3) < b (r i + 4)) ∧
          (bit (r i) 1 → bit 4 5) ∧ (bit (r i) 0 → bit 4 4) ∧
          ¬(bit (r i) 1 ∧ bit (r i) 2) ∧ ¬(bit (r i) 1 ∧ bit (r i) 0)
    let rises : Fin 8 → Prop := fun i =>
      bit (r i) 7 →
        (bit (r i) 6 → bit (r i) 1 →
            half (r i + 5) + b (r i + 7) + 10 * b o < 100 * b 8) ∧
          (bit (r i) 6 → ¬bit (r i) 1 → half (r i + 5) + b (r i + 7) < 100 * b 8) ∧
          (¬bit (r i) 6 → bit (r i) 1 → b (r i + 7) + 10 * b o < 100 * b 8) ∧
          (¬bit (r i) 6 → ¬bit (r i) 1 → b (r i + 7) < 100 * b 8)
    let falls : Fin 8 → Prop := fun i =>
      bit (r i) 7 → 2 * half (r i + 8) + 10 * b o + 655 < 100 * b 8
    let fails : (Fin 8 → Prop) → Fin 8 → Prop := fun check i =>
      ¬check i ∧ ∀ j, j < i → check j
    (b 0 ≠ 0x5C ∨ b 1 ≠ 0x40 → checkImage image p = some (.badMarker, 15)) ∧
      (b 0 = 0x5C → b 1 = 0x40 →
        (b 2 ≠ 1 → checkImage image p = some (.badVersion, 15)) ∧
        (b 2 = 1 →
          (crc8 (image.take 464) ≠ image.getD 464 0 →
            checkImage image p = some (.badCheck, 15)) ∧
          (crc8 (image.take 464) = image.getD 464 0 →
            (¬bit 15 p.toNat → checkImage image p = some (.profileDisabled, 15)) ∧
            (bit 15 p.toNat →
              (¬stationRecord → checkImage image p = some (.badStation, 15)) ∧
              (stationRecord →
                (¬profileSettings → checkImage image p = some (.badProfile, 15)) ∧
                (profileSettings →
                  ∀ reason d, checkImage image p = some (reason, d) ↔
                    ∃ i : Fin 8, d = i.val ∧
                      (reason = .badRail ∧ fails consistent i ∨
                        reason = .ascentBound ∧ (∀ j, consistent j) ∧ fails rises i ∨
                        reason = .descentBound ∧ (∀ j, consistent j) ∧ (∀ j, rises j) ∧
                          fails falls i)))))))

/-- An accepted image brings the station to OFF (R165): settings and rail table from the bytes
that R163 gives them, the compares loaded, the lines watched, sampling begun (R22), the own
roster entry made, ROLL queued with the roles, profile, phase count and retry limit of the
image (R67), and RISE where the requester's PWR_REQ is asserted. The premises on the roster
and the dimming channel are what every LOADING has. Choices of the model's own in it: the
first sample instant and the levels held at the inputs (log 28). -/
def Obligations.AcceptedImageBringsTheStationToOff : Prop :=
  ∀ (image : List Byte) (hold : Bool) (s : State),
    s.readsImage = true → image.length = 465 → checkImage image s.loader.profile = none →
    s.seq.roster = [] → s.dim.setting = .zero → s.dim.ceiling = .limited 0 →
    s.dim.capture = .level →
    let b : Nat → Nat := fun k => (image.getD k 0).toNat
    let half : Nat → Nat := fun k => 256 * b k + b (k + 1)
    let bit : Nat → Nat → Bool := fun k j => (image.getD k 0).getLsbD j
    let p := s.loader.profile
    let o := 16 + 112 * p.toNat
    let c : Settings :=
      { number := BitVec.ofNat 4 (b 3)
        roles := ⟨bit 4 7, bit 4 6, bit 4 5, bit 4 4⟩
        phaseCount := b 5, peerCount := b 6, retryLimit := b 7, phaseLimit := b 8
        rollTimeout := b 9, sagLimit := b 10, quietTime := b 11, retryDelay := b 12
        restTime := b 13, autoResume := bit 14 0
        blankWait := b o, unmuteDelay := b (o + 1), recoveryDwell := b (o + 2)
        mainsSag := b (o + 3), mainsRecover := b (o + 4)
        rideWindow := half (o + 5), holdUpBudget := half (o + 7)
        fallbackPeriod := half (o + 9), fixedDuty := b (o + 11), rampPeriods := b (o + 12)
        shedCap := b (o + 13)
        samplePeriod :=
          match b (o + 14) % 4 with
          | 0 => .us2
          | 1 => .us8
          | 2 => .us32
          | _ => .us128
        filterBypass := bit (o + 14) 2, fixedDimSource := bit (o + 14) 3
        dimActiveLow := bit (o + 14) 4 }
    let entry : Fin 8 → RailEntry := fun i =>
      let r := o + 16 + 12 * i.val
      if bit r 7 then
        { present := true
          upPhase := b (r + 1) / 16, downPhase := b (r + 1) % 16
          activeLow := bit r 5
          drive :=
            match b r / 8 % 4 with
            | 0 => .pushPull
            | 1 => .openDrain
            | _ => .openDrainBoost
          sense := bit r 6
          offThreshold := b (r + 2), goodLow := b (r + 3), goodHigh := b (r + 4)
          riseLimit := half (r + 5), settleTime := b (r + 7), fallLimit := half (r + 8)
          urgentFallLimit := b (r + 10)
          discharge :=
            match b (r + 11) with
            | 1 => some 0
            | 2 => some 1
            | 3 => some 2
            | 4 => some 3
            | _ => none
          sheddable := bit r 2, blankAligned := bit r 1, dimGated := bit r 0 }
      else RailEntry.absent
    let wants := bit 4 7 && s.front.pwrReq.level
    exec (.imageReadComplete image hold) s =
      .next
        { s with
          settings := c
          table := Vector.ofFn entry
          holdUp :=
            { s.holdUp with
              compareA := some (BitVec.ofNat 16 (half (o + 5)))
              compareP := some (BitVec.ofNat 16 (half (o + 7))) }
          line := { s.line with high := hold, riseTaken := false, highTwo := false }
          notices :=
            { s.notices with
              link := .waiting
              outbound :=
                { s.notices.outbound with
                  rise := if wants then some ⟨0, 0, 0⟩ else s.notices.outbound.rise
                  roll :=
                    some ⟨BitVec.ofNat 8 (b 4 + p.toNat), BitVec.ofNat 8 (16 * b 5 + b 7), 0⟩ } }
          seq :=
            { s.seq with
              mode := .off, lastCause := .none
              roster :=
                [{ number := c.number, roles := c.roles, profile := p, phaseCount := b 5,
                   retryLimit := b 7, heard := false, mismatch := false, outOfStep := false,
                   clash := false, taken := 0 }]
              wait := if bit 4 7 then .none else s.seq.wait }
          front := { s.front with sampleLeft := some 0, dimInDue := true }
          dim :=
            if bit 4 4 then
              { s.dim with
                outPeriod := half (o + 9), boundaryLeft := some (half (o + 9))
                active := false, activeLeft := none }
            else s.dim
          loader := { s.loader with reading := false, reason := .none, detail := 15 } }

/-! ### Sense front end -/

/-- A sample instant (R22, R25, R26, R30, R33) updates the filter of every selected input and no
other, and the next one comes a sample period later; before a load, and between two instants,
nothing is sampled. SNS i is selected where rail i is present with its sense present (R22),
and a sample of it has one of four raw classes (R23). It takes the rail inputs 0 to 7, then
MSNS, PWR_REQ and VBLANK. A rail sample without acceptance and glitch only updates its filter,
one that accepts a zone delivers it (R28), and a GOOD rail counts a glitch at the first sample
of an excursion (R30), which with the bypass is accepted at that same sample (R27). Choices of
the model's own in it: no effect of an event that cannot occur (log 3), the order of inputs
and rails (log 10), the sampled voltages (log 11), the first sample instant and the levels
held at the inputs (log 28). -/
def Obligations.SampleUpdatesTheFilters : Prop :=
  (∀ (x : Sample) (s : State),
      let period :=
        match s.settings.samplePeriod with
        | .us2 => 2
        | .us8 => 8
        | .us32 => 32
        | .us128 => 128
      let bypass := s.settings.filterBypass
      let sensed : Fin 8 → Bool := fun i => (s.entry i).present && (s.entry i).sense
      (s.loaded = false ∨ s.front.sampleLeft ≠ some 0 →
          exec (.senseSample x) s = .next s) ∧
        (s.loaded = true → s.front.sampleLeft = some 0 →
          ∃ t, exec (.senseSample x) s = .next t ∧
            t.settings = s.settings ∧ t.table = s.table ∧
            t.front.sampleLeft = some period ∧ t.front.levels = x ∧
            t.front.dimInDue = s.front.dimInDue ∧ t.front.dimInLevel = s.front.dimInLevel ∧
            (∀ i : Fin 8,
              t.front.sns[i] =
                if sensed i then
                  ((s.front.sns[i]).sample bypass (classifyRail (s.entry i) x.sns[i])).1
                else s.front.sns[i]) ∧
            t.front.msns =
              (if s.settings.roles.mains then
                (s.front.msns.sampleMains bypass (classifyMains s.settings x.msns)).1
              else s.front.msns) ∧
            t.front.pwrReq =
              (if s.settings.roles.requester then (s.front.pwrReq.sample bypass x.pwrReq).1
              else s.front.pwrReq) ∧
            t.front.vblank =
              (if s.settings.roles.panel then (s.front.vblank.sample bypass x.vblank).1
              else s.front.vblank) ∧
            t.front.dimIn = s.front.dimIn)) ∧
  (∀ (e : RailEntry) (v : Nat), e.offThreshold < e.goodLow → e.goodLow < e.goodHigh →
      (classifyRail e v = .off ↔ v < e.offThreshold * 10000) ∧
        (classifyRail e v = .low ↔ e.offThreshold * 10000 ≤ v ∧ v < e.goodLow * 10000) ∧
        (classifyRail e v = .good ↔ e.goodLow * 10000 ≤ v ∧ v ≤ e.goodHigh * 10000) ∧
        (classifyRail e v = .high ↔ e.goodHigh * 10000 < v)) ∧
  (∀ (x : Sample) (s : State), s.loaded = true → s.front.sampleLeft = some 0 →
      exec (.senseSample x) s =
        .next
          ((((railIndices.foldl (fun u i => u.sampleRail x.sns[i] i)
            ((s.startSample x).seeHold x.hold)).sampleMainsInput
            x.msns).samplePwrReq x.pwrReq).sampleVblank x.vblank).conclude) ∧
  (∀ (v : Nat) (i : Fin 8) (s : State),
      let bypass := s.settings.filterBypass
      let raw := classifyRail (s.entry i) v
      let filter := s.front.sns[i]
      let sensed := (s.entry i).present = true ∧ (s.entry i).sense = true
      let glitch :=
        (s.rail i).state = .good ∧ filter.accepted = some .good ∧ filter.candidate = none ∧
          raw ≠ .good
      let u := s.setRail i { s.rail i with glitches := satInc (s.rail i).glitches }
      (¬sensed → s.sampleRail v i = s) ∧
        (sensed → ¬glitch →
          (∀ f, filter.sample bypass raw = (f, none) → s.sampleRail v i = s.setFilter i f) ∧
          (∀ f z, filter.sample bypass raw = (f, some z) →
            s.sampleRail v i = (s.setFilter i f).zoneEvent i z)) ∧
        (sensed → glitch →
          (bypass = false → s.sampleRail v i = u.setFilter i ⟨some .good, some raw, 1⟩) ∧
          (bypass = true →
            s.sampleRail v i = (u.setFilter i ⟨some raw, none, 0⟩).zoneEvent i raw)))

/-- The filter of an SNS input, row by row (R25), without the bypass. -/
def Obligations.RailFilterFollowsItsTable : Prop :=
  ∀ (raw : Zone) (f : Machine.Filter Zone),
    (f.accepted = some raw → f.sample false raw = (⟨f.accepted, none, 0⟩, none)) ∧
      (f.accepted ≠ some raw →
        (f.candidate = some raw → f.run = 1 →
          f.sample false raw = (⟨f.accepted, some raw, 2⟩, none)) ∧
        (f.candidate = some raw → f.run = 2 →
          f.sample false raw = (⟨some raw, none, 0⟩, some raw)) ∧
        (f.candidate ≠ some raw → f.sample false raw = (⟨f.accepted, some raw, 1⟩, none)) ∧
        (f.candidate ≠ some raw →
          ((f.sample false raw).1.sample false raw).1.sample false raw =
            (⟨some raw, none, 0⟩, some raw))) ∧
      ((f.sample false raw).2 = none → (f.sample false raw).1.accepted = f.accepted)

/-- The raw class of MSNS: SAG, BAND or OK; a BAND sample keeps the accepted zone; the loader
refuses thresholds that are not in order. -/
def Obligations.MainsClassesFollowTheirTable : Prop :=
  (∀ (c : Settings) (v : Nat),
    (v < c.mainsSag * 10000 → classifyMains c v = some .sag) ∧
      (c.mainsSag * 10000 ≤ v → v ≤ c.mainsRecover * 10000 → classifyMains c v = none) ∧
      (c.mainsSag < c.mainsRecover → c.mainsRecover * 10000 < v →
        classifyMains c v = some .ok)) ∧
    (∀ (bypass : Bool) (f : Machine.Filter MainsZone),
      (f.sampleMains bypass none).1.accepted = f.accepted ∧
        (f.sampleMains bypass none).2 = none) ∧
    ∀ (image : List Byte) (p : BitVec 2),
      (imageSettings image p).mainsSag ≤ 255 ∧ (imageSettings image p).mainsRecover ≤ 255 ∧
      ((imageSettings image p).roles.mains = true →
        (imageSettings image p).mainsRecover ≤ (imageSettings image p).mainsSag →
        checkImage image p ≠ none)

/-- What an accepted mains zone does at a MAINS station (R32, R131), and the end of the recovery
dwell, which sets mains held and queues an owed MAINS_OK (R137). Choices of the model's own in
it: no effect of an event that cannot occur (log 3), an own event before its instant has no
effect (log 4). -/
def Obligations.MainsEventsAndDwellAct : Prop :=
  (∀ (v : Nat) (s : State), s.settings.roles.mains = true → s.loaded = true →
      (∀ f, s.front.msns.sampleMains s.settings.filterBypass (classifyMains s.settings v) =
          (f, some .ok) →
        s.sampleMainsInput v =
          { s with front := { s.front with msns := f, dwell := some 0, mainsHeld := false } }) ∧
        (∀ f, s.front.msns.sampleMains s.settings.filterBypass (classifyMains s.settings v) =
            (f, some .sag) →
          let u :=
            { s with front := { s.front with msns := f, dwell := none, mainsHeld := false } }
          (s.seq.mode = .rollcall ∨ s.seq.mode = .rising ∨ s.seq.mode = .on ∨
              s.seq.mode = .descending →
            s.sampleMainsInput v =
              { u with
                notices :=
                  { s.notices with
                    outbound :=
                      { s.notices.outbound with
                        sag :=
                          some
                            ⟨BitVec.ofNat 8 s.seq.phase, BitVec.ofNat 8 s.seq.mode.code, 0⟩ } } }) ∧
          (s.seq.mode = .off ∨ s.seq.mode = .lockout ∨ s.seq.mode = .riding ∨
              s.seq.mode = .solo →
            s.sampleMainsInput v = { u with cur := { s.cur with sags := satInc s.cur.sags } }))) ∧
  (∀ s : State,
      let ends :=
        s.front.msns.accepted = some .ok ∧
          ∃ n, s.front.dwell = some n ∧ s.settings.recoveryDwell * 100 ≤ n
      (ends →
        exec .mainsHeldEvent s =
          .next
            ({ s with
              front := { s.front with dwell := none, mainsHeld := true }
              notices :=
                { s.notices with
                  outbound :=
                    { s.notices.outbound with
                      mainsOk :=
                        if s.seq.owed then some ⟨BitVec.ofNat 8 s.seq.phase, 0, 0⟩
                        else s.notices.outbound.mainsOk } } }).sendIfFree) ∧
        (¬ends → exec .mainsHeldEvent s = .next s))

/-- What a filtered PWR_REQ edge does at the requester (R80, R96, R98), the requester's answer at
an entry to OFF (R96), and what a withdrawal does: the place of the kind is empty, and a
notice of that kind in flight is marked (R80). Choices of the model's own in it: FALL
withdrawn in every mode (log 16), a FRESH wait in LOCKOUT (log 33). -/
def Obligations.PowerRequestEdgesAct : Prop :=
  (∀ (level : Bool) (f : Machine.Filter Bool) (s : State), s.settings.roles.requester = true →
    s.loaded = true →
    s.front.pwrReq.sample s.settings.filterBypass level = (f, some level) →
    let u := { s with front := { s.front with pwrReq := f } }
    let t := s.samplePwrReq level
    (level = true → s.seq.mode = .off →
        t.pendingOf .fall = none ∧ t.notices.inFlight = (s.withdraw .fall).notices.inFlight ∧
        (s.seq.lastCause = .fault ∨ s.seq.lastCause = .brk →
          t.seq.wait = .retry ∧
            t.timers =
              { s.timers with
                retry := .running (s.settings.retryDelay * 100000)
                retrySetting := .retryDelay }) ∧
        (s.seq.lastCause ≠ .fault ∧ s.seq.lastCause ≠ .brk →
          t.pendingOf .rise = some ⟨0, 0, 0⟩ ∧ t.seq.wait = .none ∧ t.timers = s.timers)) ∧
      (level = true → s.seq.mode = .lockout →
        t = (u.withdraw .fall).setPending .rise (some ⟨0, 0, 0⟩)) ∧
      (level = true → s.seq.mode ≠ .off → s.seq.mode ≠ .lockout → t = u.withdraw .fall) ∧
      (level = false → s.seq.mode = .off →
        t.pendingOf .rise = none ∧ t.notices.inFlight = (s.withdraw .rise).notices.inFlight ∧
          t.timers = { s.timers with retry := .stopped } ∧
          t.seq = { s.seq with wait := .none }) ∧
      (level = false → s.seq.mode.active = true →
        t =
          (u.withdraw .rise).setPending .fall
            (some ⟨BitVec.ofNat 8 s.seq.phase, 0, 0⟩)) ∧
      (level = false → s.seq.mode ≠ .off → s.seq.mode.active = false → t = u.withdraw .rise)) ∧
  (∀ (k : Kind) (s : State),
    s.withdraw k =
      { s with
        notices :=
          { s.notices with
            outbound := s.notices.outbound.set k none
            inFlight :=
              s.notices.inFlight.map fun f =>
                if f.kind = k then { f with withdrawn := true } else f } }) ∧
    ∀ s : State,
      let t := s.requesterEntersOff
      let waits : Wait → State := fun w => { s with seq := { s.seq with wait := w } }
      let cause := s.seq.lastCause
      (s.settings.roles.requester = false → t = s) ∧
        (s.settings.roles.requester = true →
          (s.front.pwrReq.level = false → t = waits .none) ∧
          (s.front.pwrReq.level = true →
            (cause = .none ∨ cause = .request →
              t = (waits .none).setPending .rise (some ⟨0, 0, 0⟩)) ∧
            (cause = .fault ∨ cause = .brk →
              t =
                { waits .retry with
                  timers :=
                    { s.timers with
                      retry := .running (s.settings.retryDelay * 100000)
                      retrySetting := .retryDelay } }) ∧
            (cause = .brownout → s.settings.autoResume = true →
              t =
                { waits .rest with
                  timers :=
                    { s.timers with
                      retry := .running (s.settings.restTime * 100000)
                      retrySetting := .restTime } }) ∧
            (cause = .brownout → s.settings.autoResume = false → t = waits .fresh)))

/-- A DIM_IN sample, one at each base tick (R22), updates its filter, and an edge it accepts times
the input (R33, R147): the channel measures a period from rising edge to rising edge and takes
it as the pair where it is 50 to 65535 µs. Choices of the model's own in it: no effect of an
event that cannot occur (log 3), the first sample instant and the levels held at the inputs
(log 28). -/
def Obligations.DimInSampleTimesTheInput : Prop :=
  ∀ (level : Bool) (s : State),
    (s.captures = false ∨ s.front.dimInDue = false →
        exec (.dimInSample level) s = .next s) ∧
      (s.captures = true → s.front.dimInDue = true →
        ∀ f a, s.front.dimIn.sample s.settings.filterBypass level = (f, a) →
          ∃ d,
            exec (.dimInSample level) s =
                .next
                  { s with
                    front :=
                      { s.front with dimIn := f, dimInDue := false, dimInLevel := level }
                    dim := d } ∧
              (a = none → d = s.dim) ∧
              (a ≠ none → s.dim.measurement = none →
                d =
                  { s.dim with
                    silence := 0, measurement := if level then some ⟨0, none⟩ else none }) ∧
              (a ≠ none → level = false → ∀ since, s.dim.measurement = some ⟨since, none⟩ →
                d = { s.dim with silence := 0, measurement := some ⟨since, some since⟩ }) ∧
              (a ≠ none → level = true → ∀ since high,
                s.dim.measurement = some ⟨since, some high⟩ →
                (50 ≤ since ∧ since ≤ 65535 →
                  d =
                    { s.dim with
                      silence := 0, measurement := some ⟨0, none⟩, capture := .tracking
                      pair := some ⟨since, high⟩ }) ∧
                (since < 50 ∨ 65535 < since →
                  d =
                    { s.dim with
                      silence := 0, measurement := some ⟨0, none⟩, capture := .level
                      pair := none })))

/-! ### Rail controller -/

/-- Switch on (R7), the record cleared in OFF first, with the zone that stands judged at once
(R29): GOOD settles the rail, HIGH is an OVER fault. The rail timer of RAMPING or SETTLING is
loaded with the full time, and stands still while held (R12). Switch off (R8), by the rail's
state: a rail that serves waits for blanking or the zero ceiling, or falls, under urgent
timing while the station is urgent and under normal timing else, with discharge requested as
R4 and R16 say. Choices of the model's own in it: the rounding of the rise time (log 12). -/
def Obligations.SwitchOnAndSwitchOffOfARail : Prop :=
  (∀ (s : State) (i : Fin 8),
      let e := s.entry i
      let r :=
        { s.rail i with
          faultReason := none, slowFall := false, riseTime := none, glitches := 0,
          restoring := false, requested := true }
      let timed : Nat → OneShot := fun units =>
        if s.ctl.held then .paused (units * 100) else .running (units * 100)
      let wait := e.blankAligned = true ∧ s.urgent = false ∧ s.ctl.solo = false
      (e.present = false ∨ (s.rail i).state ≠ .off → s.switchOn i = s) ∧
        (e.present = true → (s.rail i).state = .off →
          (wait → s.switchOn i = (s.setRail i { r with state := .armedOn }).joinBlankWait) ∧
          (¬wait → e.sense = false →
            s.switchOn i =
              s.setRail i
                { r.applyEnable e true with
                  state := .settling, timer := timed e.settleTime }) ∧
          (¬wait → e.sense = true → s.zone i ≠ some .good → s.zone i ≠ some .high →
            s.switchOn i =
              s.setRail i
                { r.applyEnable e true with
                  state := .ramping, timer := timed e.riseLimit }) ∧
          (¬wait → e.sense = true → s.zone i = some .good →
            s.switchOn i =
              s.setRail i
                { r.applyEnable e true with
                  state := .settling, timer := timed e.settleTime
                  riseTime :=
                    some
                      (BitVec.ofNat 16 (min 65535 ((r.applyEnable e true).enableClock / 100))) }) ∧
          (¬wait → e.sense = true → s.zone i = some .high →
            s.switchOn i =
              (s.setRail i
                { r.applyEnable e true with
                  state := .ramping, timer := timed e.riseLimit }).railFault i .over))) ∧
  (∀ (s : State) (i : Fin 8),
      let e := s.entry i
      let st := (s.rail i).state
      let r := { s.rail i with timer := .stopped, restoring := false, requested := false }
      let wait := e.blankAligned = true ∧ s.urgent = false ∧ s.ctl.solo = false
      let dims := e.dimGated = true ∧ s.urgent = false ∧ s.zeroReport = false
      (e.present = false ∨ st = .off ∨ st = .armedOff ∨ st = .dimWait ∨ st = .falling ∨
          st = .discharging → s.switchOff i = s) ∧
        (e.present = true →
          (st = .armedOn →
            ((s.switchOff i).rail i).state = .off ∧
              ((s.switchOff i).rail i).applied = (s.rail i).applied ∧
              (s.switchOff i).rails = (s.setRail i (s.rail i).rests).rails) ∧
          (st = .shed →
            s.switchOff i = s.setRail i { r with state := .off, dischargeRequest := false }) ∧
          (st = .ramping ∨ st = .settling ∨ st = .good →
            (wait → s.switchOff i = (s.setRail i { r with state := .armedOff }).joinBlankWait) ∧
            (¬wait → dims → s.switchOff i = s.setRail i { r with state := .dimWait }) ∧
            (¬wait → ¬dims →
              let off := { r.applyEnable e false with urgentFall := s.urgent }
              (e.sense = true ∧ s.zone i = some .off →
                s.switchOff i = s.setRail i { off with state := .off, dischargeRequest := false }) ∧
              (¬(e.sense = true ∧ s.zone i = some .off) →
                (s.urgent = true →
                  s.switchOff i =
                    s.setRail i
                      { off with
                        state := .falling, timer := .running (e.urgentFallLimit * 100)
                        dischargeRequest := true }) ∧
                (s.urgent = false →
                  s.switchOff i =
                    s.setRail i
                      { off with
                        state := .falling, timer := .running (e.fallLimit * 100)
                        dischargeRequest := !e.sense && e.discharge.isSome }))))))

/-- Shed (R9). -/
def Obligations.ShedOfARail : Prop :=
  ∀ (s : State) (i : Fin 8),
    let e := s.entry i
    let st := (s.rail i).state
    let sheds :=
      e.present = true ∧ e.sheddable = true ∧ (st = .ramping ∨ st = .settling ∨ st = .good)
    (¬sheds → s.shed i = s) ∧
      (sheds →
        s.shed i =
            s.setRail i
              { (s.rail i).applyEnable e false with
                state := .shed, timer := .stopped, restoring := false, requested := false } ∧
          ((s.shed i).rail i).applied = false ∧
          ((s.rail i).coherent → ((s.shed i).rail i).dischargeRequest = false)) ∧
      ∀ z, st = .shed → s.zoneEvent i z = s

/-- The rail fault (R18) with its answer (R91): the rail falls under urgent timing, and a FAULT is
queued in an active mode and a later fault counted in every other. -/
def Obligations.RailFaultEndsTheService : Prop :=
  ∀ (s : State) (i : Fin 8) (reason : RailReason),
    let t := s.railFault i reason
    let r := t.rail i
    let b : Byte := BitVec.ofNat 8 i.val
    r.faultReason = some reason ∧ r.requested = false ∧ r.applied = false ∧
      r.restoring = false ∧
      ((s.entry i).sense = true ∧ s.zone i = some .off →
        r.state = .off ∧ r.timer = .stopped ∧ r.dischargeRequest = false) ∧
      (¬((s.entry i).sense = true ∧ s.zone i = some .off) →
        r.state = .falling ∧ r.timer = .running ((s.entry i).urgentFallLimit * 100) ∧
          r.dischargeRequest = true) ∧
      (∀ j, j ≠ i → t.rail j = s.rail j) ∧
      (s.seq.mode.active = true →
        (s.refusesFault b = false →
          t.notices =
              { s.notices with
                outbound :=
                  { s.notices.outbound with fault := some ⟨b, BitVec.ofNat 8 reason.code, 0⟩ } } ∧
            t.cur = s.cur) ∧
        (s.refusesFault b = true →
          t.notices = s.notices ∧
            t.cur = { s.cur with laterFaults := satInc s.cur.laterFaults })) ∧
      (s.seq.mode.active = false →
        t.notices = s.notices ∧
          t.cur = { s.cur with laterFaults := satInc s.cur.laterFaults }) ∧
      t.settings = s.settings ∧ t.table = s.table ∧ t.front = s.front ∧ t.timers = s.timers ∧
      t.holdUp = s.holdUp ∧ t.line = s.line ∧ t.seq = s.seq ∧ t.last = s.last ∧
      t.mute = s.mute ∧ t.dim = s.dim ∧ t.port = s.port ∧ t.loader = s.loader

/-- What an accepted zone does to a rail, state by state (R13 to R17); a rail sag queues COMMIT
RAIL_SAG in RIDING and nothing in another mode (R140). A rail timer loaded while held stands
still with the full time (R12). Choices of the model's own in it: the rounding of the rise
time (log 12). -/
def Obligations.ZoneEventsActByRailState : Prop :=
  ∀ (s : State) (i : Fin 8) (z : Zone),
    let st := (s.rail i).state
    let t := s.zoneEvent i z
    let timed : Nat → OneShot := fun units =>
      if s.ctl.held then .paused (units * 100) else .running (units * 100)
    let sags : State → State := fun u =>
      if s.seq.mode = .riding then
        { u with
          notices :=
            { u.notices with
              outbound :=
                { u.notices.outbound with
                  commit := some ⟨3, BitVec.ofNat 8 s.seq.phase, 0⟩ } } }
      else u
    (st = .off ∨ st = .armedOn ∨ st = .shed → t = s) ∧
      (st = .ramping →
        (z = .off ∨ z = .low → t = s) ∧
        (z = .good →
          (t.rail i).state = .settling ∧ (t.rail i).applied = true ∧
            (t.rail i).timer = timed (s.entry i).settleTime ∧
            (t.rail i).riseTime =
              some (BitVec.ofNat 16 (min 65535 ((s.rail i).enableClock / 100))) ∧
            t = s.setRail i (t.rail i)) ∧
        (z = .high → t = s.railFault i .over)) ∧
      (st = .settling →
        (z = .good → t = s) ∧ (z = .high → t = s.railFault i .over) ∧
        (z = .low ∨ z = .off →
          (s.ctl.ride = false → t = s.railFault i .dip) ∧
          (s.ctl.ride = true →
            t =
              sags
                (s.setRail i
                  { s.rail i with
                    glitches := satInc (s.rail i).glitches, state := .ramping
                    timer := timed (s.entry i).riseLimit })))) ∧
      (st = .good →
        (z = .good → t = s) ∧ (z = .high → t = s.railFault i .over) ∧
        (z = .low ∨ z = .off →
          (s.ctl.ride = false → t = s.railFault i .dip) ∧
          (s.ctl.ride = true →
            t =
              sags
                (s.setRail i
                  { s.rail i with glitches := satInc (s.rail i).glitches })))) ∧
      (st = .armedOff ∨ st = .dimWait →
        (z ≠ .high → t = s) ∧ (z = .high → t = s.railFault i .over)) ∧
      (st = .falling ∨ st = .discharging →
        (z ≠ .off → t = s) ∧
        (z = .off →
          t =
            s.setRail i
              { s.rail i with
                state := .off, timer := .stopped, dischargeRequest := false,
                restoring := false, requested := false }))

/-- The expiries of a rail timer (R13, R14, R16): a RAMPING rail faults, a SETTLING rail is GOOD,
and a FALLING rail goes to DISCHARGING where it is sensed, names a discharge output and falls
without urgency, and is OFF otherwise, with the slow-fall mark where it is sensed. An expiry
that finds no such timer running does nothing. Choices of the model's own in it: no effect of
an event that cannot occur (log 3), an own event before its instant has no effect (log 4). -/
def Obligations.RailTimerExpiriesAct : Prop :=
  (∀ (s : State) (i : Fin 8) (hold : Bool),
      (s.timedIn i .ramping = false → exec (.riseLimitExpiry i hold) s = .next s) ∧
        (s.timedIn i .ramping = true →
          exec (.riseLimitExpiry i hold) s =
            .next
              (((s.seeHold hold).setRail i { s.rail i with timer := .stopped }).railFault i
                (if (s.rail i).restoring then .restoreTimeout else .riseTimeout)).conclude)) ∧
  (∀ (s : State) (i : Fin 8) (hold : Bool),
      (s.timedIn i .settling = false → exec (.settleExpiry i hold) s = .next s) ∧
        (s.timedIn i .settling = true →
          exec (.settleExpiry i hold) s =
            .next
              ((s.seeHold hold).setRail i
                { s.rail i with state := .good, timer := .stopped, restoring := false }).conclude)) ∧
  (∀ (s : State) (i : Fin 8) (hold : Bool),
      let e := s.entry i
      let off :=
        { s.rail i with
          state := .off, timer := .stopped, dischargeRequest := false, restoring := false,
          requested := false }
      let discharges :=
        e.sense = true ∧ (s.rail i).urgentFall = false ∧ s.urgent = false ∧ e.discharge ≠ none
      (s.timedIn i .falling = false → exec (.fallLimitExpiry i hold) s = .next s) ∧
        (s.timedIn i .falling = true →
          (discharges →
            exec (.fallLimitExpiry i hold) s =
              .next
                ((s.seeHold hold).setRail i
                  { s.rail i with
                    state := .discharging, dischargeRequest := true
                    timer := .running (e.fallLimit * 100) }).conclude) ∧
          (¬discharges → e.sense = true →
            exec (.fallLimitExpiry i hold) s =
              .next ((s.seeHold hold).setRail i { off with slowFall := true }).conclude) ∧
          (e.sense = false →
            exec (.fallLimitExpiry i hold) s = .next ((s.seeHold hold).setRail i off).conclude)))

/-- The events of a DISCHARGING rail (R17); the slow-fall mark is kept until the next switch on
taken in OFF. -/
def Obligations.DischargingRailTakesItsEvents : Prop :=
  (∀ (s : State) (i : Fin 8) (hold : Bool), (s.rail i).state = .discharging →
    let off :=
      { s.rail i with
        state := .off, timer := .stopped, dischargeRequest := false, restoring := false,
        requested := false }
    s.zoneEvent i .off = s.setRail i off ∧
      ((s.rail i).timer = .running 0 →
        exec (.dischargeExpiry i hold) s =
          .next ((s.seeHold hold).setRail i { off with slowFall := true }).conclude) ∧
      s.zoneEvent i .low = s ∧ s.zoneEvent i .good = s ∧ s.zoneEvent i .high = s ∧
      s.urgentRail i = s) ∧
    ∀ (s : State) (i : Fin 8), (s.rail i).state = .off →
      ((s.entry i).present = true → ((s.switchOn i).rail i).slowFall = false) ∧
        ((s.switchOff i).rail i).slowFall = (s.rail i).slowFall ∧
        ((s.shed i).rail i).slowFall = (s.rail i).slowFall ∧
        ((s.restore i).rail i).slowFall = (s.rail i).slowFall ∧
        ((s.forceRailOff i).rail i).slowFall = (s.rail i).slowFall ∧
        ∀ z, ((s.zoneEvent i z).rail i).slowFall = (s.rail i).slowFall

/-- The blank wait ends, at its expiry with one blank miss or at a filtered rising edge of VBLANK
with none (R19, R21): no rail stays ARMED, an ARMED(off) rail falls, an ARMED(on) rail has its
enable applied or has faulted, and every other rail is as it was. An edge with no rail ARMED,
and a falling edge, only update the filter. A rail that joins starts the timer where it is
stopped and never restarts it, and the last ARMED rail that leaves by a switch off, a fault, a
force off, an urgency or SOLO stops it (R41). Choices of the model's own in it: no effect of
an event that cannot occur (log 3), an own event before its instant has no effect (log 4). -/
def Obligations.BlankWaitExpiryAppliesTheArmedChanges : Prop :=
  let ends : State → State → Prop := fun s u =>
    u.ctl = { s.ctl with blankTimer := .stopped } ∧
      u.seq = s.seq ∧ u.timers = s.timers ∧ u.dim = s.dim ∧
      ∀ i,
        ((s.rail i).state ≠ .armedOn ∧ (s.rail i).state ≠ .armedOff →
          u.rail i = s.rail i) ∧
        ((s.rail i).state = .armedOff → u.rail i = s.fallenRail i s.urgent) ∧
        ((s.rail i).state = .armedOn →
          (¬((s.entry i).sense = true ∧ s.zone i = some .high) →
            u.rail i = s.raisedRail i (s.rail i)) ∧
          ((s.entry i).sense = true → s.zone i = some .high →
            (u.rail i).state = .falling ∧ (u.rail i).faultReason = some .over))
  (∀ (s : State) (hold : Bool),
    (s.ctl.blankTimer ≠ .running 0 → exec (.blankWaitExpiry hold) s = .next s) ∧
      (s.ctl.blankTimer = .running 0 →
        ∃ u : State,
          exec (.blankWaitExpiry hold) s = .next u.conclude ∧ ends s u ∧
            u.cur.blankMisses = satInc s.cur.blankMisses ∧ u.line = (s.seeHold hold).line ∧
            u.front = s.front)) ∧
  (∀ (level : Bool) (s : State), s.settings.roles.panel = true →
    ∀ f a, s.front.vblank.sample s.settings.filterBypass level = (f, a) →
      let seen := { s with front := { s.front with vblank := f } }
      let t := s.sampleVblank level
      (a ≠ some true ∨ (∀ i, (s.rail i).state ≠ .armedOn ∧ (s.rail i).state ≠ .armedOff) →
          t = seen) ∧
        (a = some true → (∃ i, (s.rail i).state = .armedOn ∨ (s.rail i).state = .armedOff) →
          ends s t ∧ t.front = seen.front ∧ t.line = s.line ∧
            t.cur.blankMisses = s.cur.blankMisses)) ∧
  ∀ s : State,
    let leaves : State → Prop := fun t =>
      ((∃ i, (t.rail i).state = .armedOn ∨ (t.rail i).state = .armedOff) →
        t.ctl.blankTimer = s.ctl.blankTimer) ∧
      ((∀ i, (t.rail i).state ≠ .armedOn ∧ (t.rail i).state ≠ .armedOff) →
        t.ctl.blankTimer = .stopped)
    (s.ctl.blankTimer = .stopped →
        s.joinBlankWait =
          { s with
            ctl := { s.ctl with blankTimer := .running (s.settings.blankWait * 1000) } }) ∧
      (s.ctl.blankTimer ≠ .stopped → s.joinBlankWait = s) ∧
      (∀ i, (s.entry i).present = true → (s.rail i).state = .armedOn → leaves (s.switchOff i)) ∧
      (∀ i reason, leaves (s.railFault i reason)) ∧
      leaves s.forceOff ∧ leaves s.urgentRails ∧ leaves s.setSolo

/-- The drives that end by themselves (a transition boost, R3; a BREAK, R81; the active time of
DIM_OUT, R149) and the ends of a measurement of DIM_IN (R147, R148): a silence discards it,
and in TRACKING falls back to LEVEL; an overflow of a measurement in progress does both. Each
acts when its time has run out and does nothing before. Choices of the model's own in it: no
effect of an event that cannot occur (log 3), an own event before its instant has no effect
(log 4). -/
def Obligations.TimedDrivesEnd : Prop :=
  ∀ (s : State) (i : Fin 8),
    let silent :=
      s.captures = true ∧
        (s.dim.capture = .level ∧ s.dim.measurement ≠ none ∧ 65000 ≤ s.dim.silence ∨
          s.dim.capture = .tracking ∧ ∃ p, s.dim.pair = some p ∧ 3 * p.period ≤ s.dim.silence)
    let overflows :=
      s.captures = true ∧ ∃ m, s.dim.measurement = some m ∧ 65536 ≤ m.since
    let levelled :=
      { s with dim := { s.dim with capture := .level, pair := none, measurement := none } }
    ((s.rail i).boost = some 0 →
        exec (.transitionBoostEnd i) s = .next (s.setRail i { s.rail i with boost := none })) ∧
      ((s.rail i).boost ≠ some 0 → exec (.transitionBoostEnd i) s = .next s) ∧
      (s.notices.breakDrive = some 0 →
        exec .breakDriveEnd s =
          .next { s with notices := { s.notices with breakDrive := none } }) ∧
      (s.notices.breakDrive ≠ some 0 → exec .breakDriveEnd s = .next s) ∧
      (s.dim.activeLeft = some 0 →
        exec .activeTimeEnd s =
          .next { s with dim := { s.dim with active := false, activeLeft := none } }) ∧
      (s.dim.activeLeft ≠ some 0 → exec .activeTimeEnd s = .next s) ∧
      (silent → s.dim.capture = .level →
        exec .silenceTimeout s = .next { s with dim := { s.dim with measurement := none } }) ∧
      (silent → s.dim.capture = .tracking → exec .silenceTimeout s = .next levelled) ∧
      (¬silent → exec .silenceTimeout s = .next s) ∧
      (overflows → exec .measurementOverflow s = .next levelled) ∧
      (¬overflows → exec .measurementOverflow s = .next s)

/-! ### Phase line -/

/-- The minimum hold sets its flag, and a release that the release condition allows follows at
once (R51, R52). At the end of the re-claim delay a station still in a claiming mode claims,
with a minimum hold of its own; a station in any other mode does not (R55). The new claim is
taken to pull HOLD low at once (log 9). Choices of the model's own in it: no effect of an
event that cannot occur (log 3), an own event before its instant has no effect (log 4), HOLD
seen low at a new claim (log 9). -/
def Obligations.MinimumHoldAndReclaimDelayEnd : Prop :=
  (∀ (s : State) (hold : Bool),
      (s.line.claimed = false ∨ s.line.minHold = true ∨ s.line.minHoldLeft ≠ some 0 →
          exec (.minimumHold hold) s = .next s) ∧
        (s.line.claimed = true → s.line.minHold = false → s.line.minHoldLeft = some 0 →
          s.loaded = true →
          let u :=
            { s with
              line :=
                { s.line with
                  minHold := true, minHoldLeft := none, high := hold
                  riseTaken := s.line.riseTaken && s.line.high && hold } }
          exec (.minimumHold hold) s = .next u.conclude ∧
            (s.seq.mode ≠ .solo → ¬(hold = true ∧ s.line.highTwo = true) →
              exec (.minimumHold hold) s =
                .next
                  ({ u with
                    line := { u.line with claimed := !s.releaseCondition } }).sendIfFree))) ∧
  (∀ s : State,
      (s.line.reclaim ≠ some 0 → exec .reclaimDelayEnd s = .next s) ∧
        (s.line.reclaim = some 0 →
          (s.seq.mode.claims = true → s.line.claimed = false →
            exec .reclaimDelayEnd s =
              .next
                { s with
                  line :=
                    { claimed := true, minHold := false, minHoldLeft := some 64, reclaim := none,
                      high := false, riseTaken := false, highTwo := false,
                      faultDelivered := false } }) ∧
          (s.seq.mode.claims = false ∨ s.line.claimed = true →
            exec .reclaimDelayEnd s = .next { s with line := { s.line with reclaim := none } })))

/-- A rise taken in ROLLCALL, or in RISING below N, brings the next phase (R54, R103, R154): claim
at the re-claim delay, phase timer, signature, and switch on for exactly the rails of the new
phase. -/
def Obligations.RiseBringsTheNextPhase : Prop :=
  ∀ (s : State) (k : Nat), s.line.claimed = false → (s.line.riseTaken && s.line.high) = false →
    (s.seq.mode = .rollcall ∧ k = 0 ∨ s.seq.mode = .rising ∧ k = s.seq.phase) →
    k < s.settings.phaseCount →
    ∃ t,
      exec .rise s = .next t ∧
        t.seq =
          { s.seq with
            mode := .rising, phase := k + 1, returnMode := .none, recovered := false
            signature := crc16Byte s.seq.signature (BitVec.ofNat 8 (k + 1)) } ∧
        t.line = { s.line with high := true, riseTaken := true, reclaim := some 4 } ∧
        t.timers =
          { s.timers with
            phase := .running (s.settings.phaseLimit * 10000), phaseSetting := .phaseLimit } ∧
        (∀ i,
          (s.entry i).present = false ∨ (s.entry i).upPhase ≠ k + 1 ∨ (s.rail i).state ≠ .off →
          t.rail i = s.rail i) ∧
        (∀ i,
          (s.entry i).present = true → (s.entry i).upPhase = k + 1 → (s.rail i).state = .off →
          ((t.rail i).state = .armedOn ∨ (t.rail i).state = .ramping ∨
              (t.rail i).state = .settling) ∧ (t.rail i).requested = true ∨
            (t.rail i).faultReason = some .over) ∧
        t.settings = s.settings ∧ t.table = s.table ∧ t.front = s.front ∧
        t.holdUp = s.holdUp ∧ t.last = s.last ∧ t.mute = s.mute ∧ t.dim = s.dim ∧
        t.port = s.port ∧ t.loader = s.loader

/-- The rise into ON from RISING at N (R54, R110, R111, R114): everything that changes. With an
unmute delay of 0 MUTE is deasserted at the entry. -/
def Obligations.RiseAtTheLastPhaseEntersOn : Prop :=
  ∀ s : State, s.line.claimed = false → (s.line.riseTaken && s.line.high) = false →
    s.seq.mode = .rising → s.settings.phaseCount ≤ s.seq.phase →
    let n := s.settings.phaseCount
    let delay := s.settings.unmuteDelay
    let g := crc16Byte s.seq.signature (BitVec.ofNat 8 n)
    exec .rise s =
      .next
        ({ s with
          line :=
            { s.line with
              high := true, riseTaken := true, claimed := false, minHoldLeft := none
              reclaim := none }
          timers :=
            { s.timers with
              phase := .stopped
              quiet := .running (s.settings.quietTime * 100000)
              mute :=
                if s.settings.roles.panel then
                  (if delay = 0 then .stopped else .running (delay * 1000))
                else s.timers.mute }
          mute := s.mute && !(s.settings.roles.panel && delay == 0)
          notices :=
            { s.notices with
              outbound :=
                { s.notices.outbound with
                  tally := some ⟨g.extractLsb' 8 8, g.extractLsb' 0 8, 0⟩ } }
          seq :=
            { s.seq with
              mode := .on, phase := n, returnMode := .none, recovered := false, signature := g
              tally := g }
          cur := { s.cur with outcome := .reachedOn }
          dim :=
            if s.settings.roles.backlight then { s.dim with setting := .ramp, rampIndex := 0 }
            else s.dim }).sendIfFree

/-- A rise taken in RIDING (R139, R132, R15): the return mode gives the new mode, with the switch
on of the next phase's rails (R103), or ON again with MUTE's timer (R116), or ON for the first
time (R110); ride is cleared, each GOOD rail with zone LOW or OFF takes DIP whatever the
return mode, and a standing sag is reported. -/
def Obligations.RiseEndsARideThrough : Prop :=
  ∀ s : State, s.line.claimed = false → (s.line.riseTaken && s.line.high) = false →
    s.seq.mode = .riding → s.ctl.ride = true →
    let n := s.settings.phaseCount
    let k := if s.seq.returnMode = .rollcall then 0 else s.seq.phase
    let ascends := s.seq.returnMode = .rollcall ∨ s.seq.returnMode = .rising
    let delay := s.settings.unmuteDelay
    let muted : Bool → OneShot := fun starts =>
      if starts = true ∧ s.settings.roles.panel = true then
        (if delay = 0 then .stopped else .running (delay * 1000))
      else s.timers.mute
    let on :=
      { s.line with
        high := true, riseTaken := true, claimed := false, minHoldLeft := none
        reclaim := none }
    let g := crc16Byte s.seq.signature (BitVec.ofNat 8 n)
    let switched : Fin 8 → Prop := fun i =>
      ascends ∧ k < n ∧ (s.entry i).present = true ∧ (s.entry i).upPhase = k + 1 ∧
        (s.rail i).state = .off
    ∃ t : State,
      exec .rise s = .next t.sendIfFree ∧ t.ctl.ride = false ∧
        (s.seq.returnMode = .on →
          t.seq =
              { s.seq with
                mode := .on, phase := n, returnMode := .none, recovered := false
                signature := g } ∧
            t.line = on ∧
            t.timers =
              { s.timers with
                phase := .stopped, quiet := .running (s.settings.quietTime * 100000)
                mute := muted s.mute } ∧
            t.mute = (s.mute && !(s.settings.roles.panel && delay == 0)) ∧
            t.cur.outcome = s.cur.outcome ∧ t.dim = s.dim) ∧
        (ascends → k < n →
          t.seq =
              { s.seq with
                mode := .rising, phase := k + 1, returnMode := .none, recovered := false
                signature := crc16Byte s.seq.signature (BitVec.ofNat 8 (k + 1)) } ∧
            t.line = { s.line with high := true, riseTaken := true, reclaim := some 4 } ∧
            t.timers =
              { s.timers with
                phase := .running (s.settings.phaseLimit * 10000)
                phaseSetting := .phaseLimit } ∧
            t.mute = s.mute ∧ t.cur.outcome = s.cur.outcome ∧ t.dim = s.dim) ∧
        (ascends → n ≤ k →
          t.seq =
              { s.seq with
                mode := .on, phase := n, returnMode := .none, recovered := false
                signature := g, tally := g } ∧
            t.line = on ∧
            t.timers =
              { s.timers with
                phase := .stopped, quiet := .running (s.settings.quietTime * 100000)
                mute := muted true } ∧
            t.mute = (s.mute && !(s.settings.roles.panel && delay == 0)) ∧
            t.pendingOf .tally = some ⟨g.extractLsb' 8 8, g.extractLsb' 0 8, 0⟩ ∧
            t.cur.outcome = .reachedOn ∧
            t.dim =
              if s.settings.roles.backlight then { s.dim with setting := .ramp, rampIndex := 0 }
              else s.dim) ∧
        (∀ i, s.dips i → (t.rail i).faultReason = some .dip ∧ (t.rail i).applied = false) ∧
        (∀ i, switched i →
          ((t.rail i).state = .armedOn ∨ (t.rail i).state = .ramping ∨
              (t.rail i).state = .settling) ∧ (t.rail i).requested = true ∨
            (t.rail i).faultReason = some .over) ∧
        (∀ i, ¬s.dips i → ¬switched i → t.rail i = s.rail i) ∧
        (s.settings.roles.mains = true → s.front.msns.accepted = some .sag →
          t.pendingOf .sag =
            some ⟨BitVec.ofNat 8 t.seq.phase, BitVec.ofNat 8 t.seq.mode.code, 0⟩) ∧
        t.settings = s.settings ∧ t.table = s.table ∧ t.front = s.front ∧
        t.holdUp = s.holdUp ∧ t.last = s.last ∧ t.port = s.port ∧ t.loader = s.loader

/-- A rise taken in DESCENDING above down phase 1 (R54, R119, R154). -/
def Obligations.RiseBringsTheNextDownPhase : Prop :=
  ∀ s : State, s.line.claimed = false → (s.line.riseTaken && s.line.high) = false →
    s.seq.mode = .descending → 1 < s.seq.phase →
    let d := s.seq.phase - 1
    ∃ t : State,
      exec .rise s = .next t.sendIfFree ∧
        t.seq =
          { s.seq with
            phase := d
            signature := crc16Byte s.seq.signature (BitVec.ofNat 8 (0x80 + d)) } ∧
        t.line = { s.line with high := true, riseTaken := true, reclaim := some 4 } ∧
        t.timers =
          { s.timers with
            phase := .running (s.settings.phaseLimit * 10000), phaseSetting := .phaseLimit } ∧
        (∀ i, (s.entry i).downPhase ≠ d → t.rail i = s.rail i) ∧
        (∀ i, (s.entry i).present = true → (s.entry i).downPhase = d →
          (t.rail i).state = .off ∨ (t.rail i).state = .armedOff ∨
            (t.rail i).state = .dimWait ∨ (t.rail i).state = .falling ∨
            (t.rail i).state = .discharging) ∧
        t.settings = s.settings ∧ t.table = s.table ∧ t.front = s.front ∧
        t.holdUp = s.holdUp ∧ t.notices = s.notices ∧ t.cur = s.cur ∧ t.last = s.last ∧
        t.mute = s.mute ∧ t.dim = s.dim ∧ t.port = s.port ∧ t.loader = s.loader

/-- The final rise of a descent (R124, R100, R101): attempts by the cause, then OFF, with the
requester's answer, or LOCKOUT above the retry limit. A held RISE brings roll call with the
claim at the re-claim delay, and in LOCKOUT one with another attempt than 0 is discarded
(R88). -/
def Obligations.FinalRiseEndsTheDescent : Prop :=
  ∀ s : State, s.line.claimed = false → (s.line.riseTaken && s.line.high) = false →
    s.seq.mode = .descending → s.seq.phase ≤ 1 →
    let n :=
      match s.seq.cause with
      | .request => 0
      | .fault | .brk => min (s.seq.attempts + 1) (s.settings.retryLimit + 1)
      | .brownout | .none => s.seq.attempts
    let locked := decide (s.settings.retryLimit < n)
    let u : State :=
          { s with
            holdUp := { s.holdUp with running := false }
            timers := { s.timers with phase := .stopped }
            line :=
              { s.line with
                high := true, riseTaken := true, claimed := false, minHoldLeft := none
                reclaim := none }
            seq :=
              { s.seq with
                mode := if locked then .lockout else .off
                phase := 0, cause := .none, lastCause := s.seq.cause, attempts := n
                budgetPassed := false, signature := crc16Byte s.seq.signature 0x80 }
            cur :=
              { s.cur with
                outcome := if locked then .lockout else s.cur.outcome
                alertPending := s.cur.alertPending || locked } }
    (s.seq.heldRise = none →
        exec .rise s = .next (if locked then u else u.requesterEntersOff).sendIfFree) ∧
      (∀ a, s.seq.heldRise = some a → locked = false ∨ a = 0 →
        ∃ t,
          exec .rise s = .next t ∧ t.seq.mode = .rollcall ∧ t.seq.phase = 0 ∧
            t.seq.heldRise = none ∧
            t.line.reclaim = some 4 ∧ t.line.claimed = false ∧
            t.cur.runNumber = s.cur.runNumber + 1 ∧ t.last.runNumber = s.cur.runNumber) ∧
      ∀ a, s.seq.heldRise = some a → locked = true → a ≠ 0 →
        exec .rise s = .next ({ u with seq := { u.seq with heldRise := none } }).sendIfFree

/-- A RISE event does nothing to a station that claims HOLD or has not loaded, and only shows HOLD
high to one that is in no claiming mode or has taken this interval's rise already (R53). HOLD
high for 2 µs within a claim (R57) brings, once for each claim, FAULT HOLD_LINE in ROLLCALL,
RISING and RIDING and a later fault in DESCENDING; the claim goes on. Choices of the model's
own in it: no effect of an event that cannot occur (log 3). -/
def Obligations.RiseAndHoldLineFaultEventsAct : Prop :=
  (∀ s : State,
      let seen :=
        { s with
          line := { s.line with high := true, riseTaken := s.line.riseTaken && s.line.high } }
      (s.line.claimed = true ∨ s.loaded = false → exec .rise s = .next s) ∧
        (s.line.claimed = false → s.loaded = true → s.seq.mode ≠ .solo →
          s.seq.mode.claims = false ∨ (s.line.riseTaken && s.line.high) = true →
          exec .rise s = .next seen.sendIfFree) ∧
        (s.line.claimed = false → s.seq.mode = .solo → exec .rise s = .next seen.conclude)) ∧
  (∀ s : State,
      let u :=
        { s with
          line :=
            { s.line with
              high := true, riseTaken := s.line.riseTaken && s.line.high, highTwo := true
              faultDelivered := true } }
      (s.line.claimed = false → exec .holdLineFault s = .next s) ∧
        (s.line.claimed = true →
          (s.line.faultDelivered = true → s.loaded = true → exec .holdLineFault s = .next u) ∧
          (s.line.faultDelivered = false →
            (s.seq.mode = .rollcall ∨ s.seq.mode = .rising ∨ s.seq.mode = .riding →
              exec .holdLineFault s = .next (u.queueNotice .fault 15 20).sendIfFree) ∧
            (s.seq.mode = .descending →
              exec .holdLineFault s =
                .next
                  ({ u with
                    cur := { s.cur with laterFaults := satInc s.cur.laterFaults } }).sendIfFree))))

/-- The two expiries of the phase timer (R59 to R62): ROSTER_SHORT in roll call while HOLD is low
or claimed here; BARRIER_TIMEOUT in RISING, and BREAK in DESCENDING, while HOLD is low and
released here; nothing else. In RIDING each is judged as in the mode to return to (R59, R60).
Choices of the model's own in it: no effect of an event that cannot occur (log 3), an own
event before its instant has no effect (log 4). -/
def Obligations.PhaseTimerExpiriesAreJudged : Prop :=
  ∀ (s : State) (hold : Bool), s.loaded = true →
    let u := { s.seeHold hold with timers := { s.timers with phase := .stopped } }
    let ran : PhaseSetting → Prop := fun c =>
      s.timers.phase = .running 0 ∧ s.timers.phaseSetting = c
    let low := !s.line.claimed && !hold
    let rising := s.seq.mode = .rising ∨ s.seq.mode = .riding ∧ s.seq.returnMode = .rising
    (¬ran .rollTimeout → exec (.rollTimeoutExpiry hold) s = .next s) ∧
      (ran .rollTimeout →
        (s.inRollcall = true ∧ (s.line.claimed = true ∨ hold = false) →
          exec (.rollTimeoutExpiry hold) s = .next (u.queueNotice .fault 15 17).sendIfFree) ∧
        (¬(s.inRollcall = true ∧ (s.line.claimed = true ∨ hold = false)) →
          exec (.rollTimeoutExpiry hold) s = .next u.sendIfFree)) ∧
      (¬ran .phaseLimit → exec (.phaseLimitExpiry hold) s = .next s) ∧
      (ran .phaseLimit →
        (low = true ∧ rising →
          exec (.phaseLimitExpiry hold) s = .next (u.queueNotice .fault 15 16).sendIfFree) ∧
        (low = true ∧ s.seq.mode = .descending →
          exec (.phaseLimitExpiry hold) s = .next u.issueBreak.sendIfFree) ∧
        (low = false ∨ ¬rising ∧ s.seq.mode ≠ .descending →
          exec (.phaseLimitExpiry hold) s = .next u.sendIfFree))

/-! ### Timers -/

/-- The commands of a one-shot counter, state by state, in ticks (R37), and what one base tick
does to every counter and clock of the station (R36), and to nothing else. Choices of the
model's own in it: a step on an empty queue (log 1), the shape of the I2C clock (log 26), the
first sample instant and the levels held at the inputs (log 28), the slots of a frame by base
ticks and the end of a drive that fails (log 31). -/
def Obligations.OneShotCounterTakesItsCommands : Prop :=
  (∀ v n : Nat,
    OneShot.start v = .running v ∧ OneShot.startHeld v = .paused v ∧
      OneShot.pause .stopped = .stopped ∧ OneShot.pause (.running n) = .paused n ∧
      OneShot.pause (.paused n) = .paused n ∧
      OneShot.resume .stopped = .stopped ∧ OneShot.resume (.running n) = .running n ∧
      OneShot.resume (.paused n) = .running n ∧
      OneShot.shorten v .stopped = .stopped ∧
      OneShot.shorten v (.running n) = .running (if v < n then v else n) ∧
      OneShot.shorten v (.paused n) = .paused (if v < n then v else n) ∧
      (OneShot.start 0).due = true ∧ (OneShot.startHeld 0).due = false ∧
      (OneShot.startHeld 0).resume.due = true ∧
      OneShot.tick (.running (n + 1)) = .running n ∧ OneShot.tick (.paused n) = .paused n ∧
      OneShot.tick .stopped = .stopped) ∧
  (∀ s : State,
    let t := s.tick
    let down : Option Nat → Option Nat := fun o => o.map (· - 1)
    let up : Option Nat → Option Nat := fun o => o.map (· + 1)
    let d := s.dim
    (∀ i,
      t.rail i =
        { s.rail i with
          timer := (s.rail i).timer.tick
          enableClock := (s.rail i).enableClock + (s.rail i).applied.toNat
          boost := down (s.rail i).boost }) ∧
      t =
        { s with
          rails := t.rails
          ctl := { s.ctl with blankTimer := s.ctl.blankTimer.tick }
          front :=
            { s.front with
              dwell := up s.front.dwell, sampleLeft := down s.front.sampleLeft, dimInDue := true }
          timers :=
            { s.timers with
              phase := s.timers.phase.tick, quiet := s.timers.quiet.tick
              retry := s.timers.retry.tick, mute := s.timers.mute.tick }
          holdUp := s.holdUp.tick
          line :=
            { s.line with
              minHoldLeft := down s.line.minHoldLeft, reclaim := down s.line.reclaim }
          notices :=
            { s.notices with
              breakDrive := down s.notices.breakDrive
              drive :=
                match s.notices.link with
                | .frame _ => { s.notices.drive with ticks := s.notices.drive.ticks + 1 }
                | .dormant | .waiting | .free | .broken => s.notices.drive }
          dim :=
            { d with
              measurement :=
                d.measurement.map fun m => { m with since := m.since + s.captures.toNat }
              silence := d.silence + s.captures.toNat
              boundaryLeft := down d.boundaryLeft, activeLeft := down d.activeLeft }
          loader :=
            { s.loader with busTicks := s.loader.busTicks + s.loader.reading.toNat } })

/-- The hold-up timer (R43, R44, R140, R143) counts one 0.1 ms unit in 100 ticks, up to 65535, and
stands still while stopped. A compare that the count has reached is disarmed: the window
queues COMMIT WINDOW in RIDING, the budget issues BREAK in DESCENDING and sets budget passed
in RIDING. Where both are reached the window expiry comes first, and a budget expiry before it
does nothing. Choices of the model's own in it: no effect of an event that cannot occur (log
3), an own event before its instant has no effect (log 4). -/
def Obligations.HoldUpTimerCountsAndCompares : Prop :=
  (∀ h : HoldUp, h.sub < 100 →
      (h.running = true → HoldUp.tick^[100] h = { h with count := satInc h.count }) ∧
        (h.running = false → HoldUp.tick h = h)) ∧
  (∀ s : State,
      let reached : Bool → Option Half → Prop := fun armed compare =>
        s.holdUp.running = true ∧ armed = true ∧ ∃ v, compare = some v ∧ v ≤ s.holdUp.count
      let a := { s with holdUp := { s.holdUp with armedA := false } }
      let p := { s with holdUp := { s.holdUp with armedP := false } }
      (¬reached s.holdUp.armedA s.holdUp.compareA → exec .windowExpiry s = .next s) ∧
        (reached s.holdUp.armedA s.holdUp.compareA →
          exec .windowExpiry s =
            .next
              ({ a with
                notices :=
                  { s.notices with
                    outbound :=
                      { s.notices.outbound with
                        commit :=
                          if s.seq.mode = Mode.riding then
                            some ⟨1, BitVec.ofNat 8 s.seq.phase, 0⟩
                          else s.notices.outbound.commit } } }).sendIfFree) ∧
        (¬reached s.holdUp.armedP s.holdUp.compareP ∨ reached s.holdUp.armedA s.holdUp.compareA →
          exec .budgetExpiry s = .next s) ∧
        (reached s.holdUp.armedP s.holdUp.compareP → ¬reached s.holdUp.armedA s.holdUp.compareA →
          (s.seq.mode = .descending → exec .budgetExpiry s = .next p.issueBreak) ∧
            (s.seq.mode = .riding →
              exec .budgetExpiry s =
                .next { p with seq := { s.seq with budgetPassed := true } }) ∧
            (s.seq.mode ≠ .descending → s.seq.mode ≠ .riding →
              exec .budgetExpiry s = .next p)))

/-- The quiet and mute-release timers (R144, R114) act in ON only: the sag count returns to 0,
MUTE is deasserted. The retry delay queues RISE with the attempt count, and the rest time RISE
0 if the mains has returned, else the wait for it (R97). Choices of the model's own in it: no
effect of an event that cannot occur (log 3), an own event before its instant has no effect
(log 4). -/
def Obligations.SequenceTimersAct : Prop :=
  (∀ s : State,
      (s.timers.quiet ≠ .running 0 → exec .quietTimerExpiry s = .next s) ∧
        (s.timers.quiet = .running 0 →
          exec .quietTimerExpiry s =
            .next
              { s with
                timers := { s.timers with quiet := .stopped }
                seq :=
                  { s.seq with
                    sagCount := if s.seq.mode = .on then 0 else s.seq.sagCount } }) ∧
        (s.timers.mute ≠ .running 0 → exec .muteReleaseExpiry s = .next s) ∧
        (s.timers.mute = .running 0 →
          exec .muteReleaseExpiry s =
            .next
              { s with
                timers := { s.timers with mute := .stopped }
                mute := if s.seq.mode = .on then false else s.mute })) ∧
  (∀ s : State,
      let u := { s with timers := { s.timers with retry := .stopped } }
      let ran : RetrySetting → Prop := fun c =>
        s.timers.retry = .running 0 ∧ s.timers.retrySetting = c
      let rises : Byte → State := fun a =>
        { u with
          notices :=
            { s.notices with outbound := { s.notices.outbound with rise := some ⟨a, 0, 0⟩ } }
          seq := { s.seq with wait := .none } }
      (¬ran .retryDelay → exec .retryDelayExpiry s = .next s) ∧
        (ran .retryDelay →
          (s.seq.mode = .off ∧ s.seq.wait = .retry →
            exec .retryDelayExpiry s =
              .next (rises (BitVec.ofNat 8 s.seq.attempts)).sendIfFree) ∧
          (¬(s.seq.mode = .off ∧ s.seq.wait = .retry) → exec .retryDelayExpiry s = .next u)) ∧
        (¬ran .restTime → exec .restTimeExpiry s = .next s) ∧
        (ran .restTime →
          (s.seq.mode = .off ∧ s.seq.wait = .rest →
            (s.seq.mainsReturned = true →
              exec .restTimeExpiry s = .next (rises 0).sendIfFree) ∧
            (s.seq.mainsReturned = false →
              exec .restTimeExpiry s =
                .next { u with seq := { s.seq with wait := .mains } })) ∧
          (¬(s.seq.mode = .off ∧ s.seq.wait = .rest) → exec .restTimeExpiry s = .next u)))

/-! ### Data line -/

/-- The entry of a queued notice into the outbound set (R77). Choices of the model's own in it: a
rail FAULT behind a station-level one in flight (log 30). -/
def Obligations.QueuedNoticeEntersItsPlace : Prop :=
  ∀ (s : State) (k : Kind) (a b : Byte),
    let held : (Pending → Prop) → Prop := fun p =>
      (∃ q, s.pendingOf .fault = some q ∧ p q) ∨
        ∃ f, s.notices.inFlight = some f ∧ f.kind = .fault ∧ p f.notice
    let enters :=
      { s with
        notices := { s.notices with outbound := s.notices.outbound.set k (some ⟨a, b, 0⟩) } }
    let refused := { s with cur := { s.cur with laterFaults := satInc s.cur.laterFaults } }
    (k ≠ .fault → s.queueNotice k a b = enters) ∧
      (k = .fault →
        (¬held (fun _ => True) → s.queueNotice k a b = enters) ∧
        (held (fun q => q.arg1 ≠ 15) → s.queueNotice k a b = refused) ∧
        (held (fun q => q.arg1 = 15) → ¬held (fun q => q.arg1 ≠ 15) →
          (a ≠ 15 → s.queueNotice k a b = enters) ∧
          (a = 15 → s.queueNotice k a b = refused))) ∧
      (s.queueNotice k a b).notices.inFlight = s.notices.inFlight

/-- A charged third attempt drops the notice (R73): one drop, and a SAG, COMMIT or FAULT also
issues BREAK, which a station does not issue in DORMANT or while it drives one, which ends a
frame under way for it (R81), and whose own edge takes a FREE link to FRAME (R65). The
requester waits for a new request after a dropped RISE in OFF or LOCKOUT with PWR_REQ
asserted, and queues a dropped FALL again in an active mode with PWR_REQ deasserted (R99).
Choices of the model's own in it: a withdrawn notice at its third charge (log 15), the link at
an own BREAK and the notice in flight at a foreign frame (log 23), the slots of a frame by
base ticks and the end of a drive that fails (log 31). -/
def Obligations.DroppedNoticeIssuesBreak : Prop :=
  (∀ s : State,
      (s.notices.link = .dormant ∨ s.notices.breakDrive ≠ none → s.issueBreak = s) ∧
        (s.notices.link ≠ .dormant → s.notices.breakDrive = none →
          ∃ l d,
            s.issueBreak =
                { s with
                  notices := { s.notices with link := l, drive := d, breakDrive := some 48 } } ∧
              ((∃ f, s.notices.link = .frame f) → l = .waiting) ∧
              (s.notices.link = .free → l = .frame ⟨[], false⟩ ∧ d = ⟨0, []⟩) ∧
              (s.notices.link ≠ .free → d = s.notices.drive) ∧
              (s.notices.link = .waiting ∨ s.notices.link = .broken → l = s.notices.link))) ∧
  (∀ (s : State) (f : Frame) (g : InFlight), s.notices.link = .frame f → f.received = true →
      s.notices.inFlight = some g → 2 ≤ g.notice.resend →
      let u :=
        { s with
          notices := { s.notices with link := .waiting, inFlight := none }
          cur :=
            { s.cur with
              objections := satInc s.cur.objections, dropped := satInc s.cur.dropped } }
      let asks := s.settings.roles.requester = true ∧ s.front.pwrReq.level = true
      let refuses := s.settings.roles.requester = true ∧ s.front.pwrReq.level = false
      (g.kind = .sag ∨ g.kind = .commit ∨ g.kind = .fault →
          exec .objectedFrame s = .next u.issueBreak) ∧
        (g.kind = .mainsOk ∨ g.kind = .roll ∨ g.kind = .tally →
          exec .objectedFrame s = .next u) ∧
        (g.kind = .rise →
          (asks ∧ (s.seq.mode = .off ∨ s.seq.mode = .lockout) →
            exec .objectedFrame s = .next { u with seq := { s.seq with wait := .fresh } }) ∧
          (¬(asks ∧ (s.seq.mode = .off ∨ s.seq.mode = .lockout)) →
            exec .objectedFrame s = .next u)) ∧
        (g.kind = .fall →
          (refuses ∧ s.seq.mode.active = true →
            exec .objectedFrame s =
              .next (u.setPending .fall (some ⟨BitVec.ofNat 8 s.seq.phase, 0, 0⟩))) ∧
          (¬(refuses ∧ s.seq.mode.active = true) → exec .objectedFrame s = .next u)))

/-- Bus free, link stuck and the end of a BREAK's dominant level move the link (R65, R83). At bus
free a pending notice goes out at once (R66). Choices of the model's own in it: no effect of
an event that cannot occur (log 3), the slots of a frame given with FRAME_START (log 19), the
link at an own BREAK and the notice in flight at a foreign frame (log 23). -/
def Obligations.LinkFollowsTheLine : Prop :=
  ∀ s : State,
    (s.notices.link = .waiting →
        exec .busFree s =
          .next
            ({ s with notices := { s.notices with link := .free, stuck := false } }).sendIfFree) ∧
      (s.notices.link ≠ .waiting → exec .busFree s = .next s) ∧
      (s.notices.link = .broken →
        exec .linkStuck s = .next { s with notices := { s.notices with stuck := true } } ∧
          (s.notices.breakDrive = none →
            exec .lineGoesRecessive s =
              .next { s with notices := { s.notices with link := .waiting } }) ∧
          (s.notices.breakDrive ≠ none → exec .lineGoesRecessive s = .next s)) ∧
      (s.notices.link ≠ .broken →
        exec .linkStuck s = .next s ∧ exec .lineGoesRecessive s = .next s)

/-- A frame begins at a station that is FREE (R65, R66, R76): with a notice pending it puts the
one of lowest kind code in flight and sends at once, driving each slot of a `1` for 2 µs and
of a `0` for 6 µs (R63); without one it receives the frame that another station begins. It is
still sending where every slot reads as it sent it. A station that is not FREE and has begun
no frame takes no part. Choices of the model's own in it: no effect of an event that cannot
occur (log 3), the slots of a frame given with FRAME_START (log 19), the slots of a frame by
base ticks and the end of a drive that fails (log 31). -/
def Obligations.FrameBeginsWithTheLowestKind : Prop :=
  let drives : List Bool → List Nat := fun bits => bits.map fun bit => if bit then 2 else 6
  (∀ s : State,
    (s.notices.link ≠ .free ∨ (∀ k, s.pendingOf k = none) → s.sendIfFree = s) ∧
      ∀ k p, s.notices.link = .free → s.pendingOf k = some p →
        (∀ j, j.code < k.code → s.pendingOf j = none) →
        s.sendIfFree =
          { s with
            notices :=
              { s.notices with
                link := .frame ⟨[], true⟩
                outbound := s.notices.outbound.set k none
                inFlight := some ⟨k, p, false⟩
                drive := ⟨0, drives (Notice.mk k s.settings.number p.arg1 p.arg2).slots⟩ } }) ∧
  (∀ (s : State) (slots : List Bool),
    (s.notices.link ≠ .free → (∀ own, s.notices.link ≠ .frame ⟨[], own⟩) →
        exec (.frameStart slots) s = .next s) ∧
      (s.notices.link = .frame ⟨[], false⟩ →
        exec (.frameStart slots) s =
          .next { s with notices := { s.notices with link := .frame ⟨slots, false⟩ } }) ∧
      (∀ g, s.notices.link = .frame ⟨[], true⟩ → s.notices.inFlight = some g →
        slots <+: (Notice.mk g.kind s.settings.number g.notice.arg1 g.notice.arg2).slots →
        exec (.frameStart slots) s =
          .next { s with notices := { s.notices with link := .frame ⟨slots, true⟩ } }) ∧
      (s.notices.link = .free →
        ((∀ j, s.pendingOf j = none) →
          exec (.frameStart slots) s =
            .next
              { s with
                notices := { s.notices with link := .frame ⟨slots, false⟩, drive := ⟨0, []⟩ } }) ∧
        ∀ k p, s.pendingOf k = some p → (∀ j, j.code < k.code → s.pendingOf j = none) →
          slots <+: (Notice.mk k s.settings.number p.arg1 p.arg2).slots →
          exec (.frameStart slots) s =
            .next
              { s with
                notices :=
                  { s.notices with
                    link := .frame ⟨slots, true⟩
                    outbound := s.notices.outbound.set k none
                    inFlight := some ⟨k, p, false⟩
                    drive :=
                      ⟨0, drives (Notice.mk k s.settings.number p.arg1 p.arg2).slots⟩ } }))

/-- A sender whose slot reads otherwise than it sent (R69, R73, R74), in the frame it has begun or
begins: a lost arbitration in slots 1 to 8 returns the notice uncharged; a collision after
them is a number clash and charges it; a recessive reading of a dominant bit is a drive fault
and charges it. A third charge drops it. After that slot it sends no more bits of its notice.
Choices of the model's own in it: who counts as the sender (log 18), the slots of a frame
given with FRAME_START (log 19), the slots of a frame by base ticks and the end of a drive
that fails (log 31). -/
def Obligations.SenderLosesCollidesOrFails : Prop :=
  ∀ (s : State) (slots : List Bool) (k : Kind) (p : Pending) (j : Nat),
    let sent := (Notice.mk k s.settings.number p.arg1 p.arg2).slots
    let f : LinkState := .frame ⟨slots, false⟩
    let begins :=
      s.notices.link = .free ∧ s.pendingOf k = some p ∧
        ∀ i, i.code < k.code → s.pendingOf i = none
    let begun :=
      s.notices.link = .frame ⟨[], true⟩ ∧ s.notices.inFlight = some ⟨k, p, false⟩ ∧
        s.pendingOf k = none
    let full := sent.map fun bit => if bit then 2 else 6
    let ticks := if s.notices.link = .free then 0 else s.notices.drive.ticks
    let micros := if s.notices.link = .free then full else s.notices.drive.micros
    let back := s.notices.outbound.set k (some p)
    let charged := s.notices.outbound.set k (some { p with resend := p.resend + 1 })
    begins ∨ begun → j < slots.length → j < 32 → slots.take j = sent.take j →
      (sent[j]? = some true → slots[j]? = some false → j < 8 →
        exec (.frameStart slots) s =
          .next
            { s with
              notices :=
                { s.notices with
                  link := f, inFlight := none, outbound := back
                  drive := ⟨ticks, micros.take (j + 1)⟩ } }) ∧
      (sent[j]? = some true → slots[j]? = some false → 8 ≤ j →
        ∃ t,
          exec (.frameStart slots) s = .next t ∧
            t.cur.numberClash = true ∧ t.cur.alertPending = true ∧
            (t.notices.link = f ∨ t.notices.link = .waiting ∧ 2 ≤ p.resend) ∧
            t.notices.inFlight = none ∧ t.notices.drive = ⟨ticks, micros.take (j + 1)⟩ ∧
            (k ≠ .fault → p.resend < 2 →
              t.pendingOf k = some { p with resend := p.resend + 1 }) ∧
            (2 ≤ p.resend → t.cur.dropped = satInc s.cur.dropped) ∧
            (s.seq.mode.active = true → k ≠ .fault → s.pendingOf .fault = none →
              t.pendingOf .fault = some ⟨15, 21, 0⟩)) ∧
      (sent[j]? = some false → slots[j]? = some true →
        (p.resend < 2 →
          exec (.frameStart slots) s =
            .next
              { s with
                notices :=
                  { s.notices with
                    link := f, inFlight := none, outbound := charged
                    drive := ⟨ticks, micros.take j ++ [4]⟩ } }) ∧
        (2 ≤ p.resend →
          ∃ t,
            exec (.frameStart slots) s = .next t ∧ t.cur.dropped = satInc s.cur.dropped ∧
              t.notices.inFlight = none ∧
              t.notices.drive = ⟨ticks, micros.take j ++ [4]⟩))

/-- The ends of a frame that is not taken (R64, R71, R72, R73): abandoned and foreign frames give
the notice back as it was, an objected one charges it, and each is counted as its rule says. A
notice that was withdrawn in flight (R80), or whose place a newer one holds, is discarded at
its return (R78). Choices of the model's own in it: no effect of an event that cannot occur
(log 3), the link at an own BREAK and the notice in flight at a foreign frame (log 23), a
frame with no matching check at a receiver that reads 1 in slot 33 (log 32). -/
def Obligations.FrameEndsWithoutTaking : Prop :=
  ∀ (s : State) (f : Frame), s.notices.link = .frame f →
    let ended := { s with notices := { s.notices with link := .waiting } }
    let foreign := f.received = true ∧ f.notice = none
    let counted := { ended with cur := { s.cur with foreign := satInc s.cur.foreign } }
    let objected := { ended with cur := { s.cur with objections := satInc s.cur.objections } }
    (s.notices.inFlight = none →
        exec .frameAbandoned s = .next ended ∧
          (foreign → exec .foreignFrame s = .next counted) ∧
          (f.received = true → exec .objectedFrame s = .next objected)) ∧
      (∀ g, s.notices.inFlight = some g → s.pendingOf g.kind = none → g.withdrawn = false →
        let back : State → Nat → State := fun u n =>
          { u with
            notices :=
              { u.notices with
                inFlight := none
                outbound :=
                  u.notices.outbound.set g.kind (some { g.notice with resend := n }) } }
        exec .frameAbandoned s = .next (back ended g.notice.resend) ∧
          (foreign → exec .foreignFrame s = .next (back counted g.notice.resend)) ∧
          (f.received = true → g.notice.resend < 2 →
            exec .objectedFrame s = .next (back objected (g.notice.resend + 1)))) ∧
      (∀ g, s.notices.inFlight = some g → s.pendingOf g.kind ≠ none ∨ g.withdrawn = true →
        let gone : State → State := fun u =>
          { u with notices := { u.notices with inFlight := none } }
        exec .frameAbandoned s = .next (gone ended) ∧
          (foreign → exec .foreignFrame s = .next (gone counted)) ∧
          (f.received = true → g.notice.resend < 2 →
            exec .objectedFrame s = .next (gone objected))) ∧
      (¬foreign → exec .foreignFrame s = .next s) ∧
      (f.received = false → exec .objectedFrame s = .next s)

/-- A BREAK is detected in WAITING, FREE or FRAME (R82, R125 to R128): the link is BROKEN, the
notices are gone but for an owed MAINS_OK (log 13), and the station is in SOLO with HOLD let
go. Not urgent, its rails of down phase N are switched off, ARMED rails take their way at once
and DIM_WAIT ends with the cut (R19, R126, R127, R152), and every other rail is as it was;
urgent, it forces every rail off (R11). A GOOD rail with zone LOW or OFF takes DIP at the end
of ride (R15), and standing rail timers run on (R12). In SOLO the BREAK is counted and the
mode stays. Choices of the model's own in it: no effect of an event that cannot occur (log 3),
the MAINS_OK owed at a BREAK (log 13), what comes first at one instant (log 17), the requester
wait at an entry to SOLO and the MUTE bit without a driven pin (log 22). -/
def Obligations.DetectedBreakBringsSolo : Prop :=
  let hears : State → Prop := fun s =>
    s.notices.link = .waiting ∨ s.notices.link = .free ∨ ∃ f, s.notices.link = .frame f
  (∀ s : State, hears s → s.seq.mode ≠ .solo →
      let dips : Fin 8 → Prop := fun i => s.ctl.ride = true ∧ s.dips i
      let runsOn : Fin 8 → Rail := fun i =>
        if s.ctl.held = true ∧ ((s.rail i).state = .ramping ∨ (s.rail i).state = .settling) then
          { s.rail i with timer := (s.rail i).timer.resume }
        else s.rail i
      let off : Fin 8 → Prop := fun i =>
        (s.entry i).present = true ∧ (s.entry i).downPhase = s.settings.phaseCount
      let serves : Fin 8 → Prop := fun i =>
        (s.rail i).state = .ramping ∨ (s.rail i).state = .settling ∨ (s.rail i).state = .good
      ∃ u : State,
        exec .breakDetected s = .next u.conclude ∧
          u.notices.link = .broken ∧ u.notices.inFlight = none ∧
          u.notices.breakDrive = s.notices.breakDrive ∧ u.notices.stuck = s.notices.stuck ∧
          u.notices.outbound =
            (if s.seq.owed && s.front.mainsHeld then
              { Outbound.empty with mainsOk := some ⟨BitVec.ofNat 8 u.seq.phase, 0, 0⟩ }
            else Outbound.empty) ∧
          u.seq =
            { s.seq with
              mode := .solo, cause := .brk, heldRise := none, returnMode := .none
              recovered := false
              phase := if s.urgent then 1 else s.settings.phaseCount
              wait := if s.seq.mode = .off then .none else s.seq.wait
              roster := s.seq.roster.map fun (e : RosterEntry) => { e with heard := false } } ∧
          u.cur.breaks = satInc s.cur.breaks ∧ u.cur.alertPending = true ∧
          u.cur.outcome = .soloBreak ∧
          u.line = { s.line with claimed := false, minHoldLeft := none, reclaim := none } ∧
          u.ctl.ride = false ∧ u.ctl.held = false ∧ u.ctl.solo = true ∧ u.holdUp = s.holdUp ∧
          u.timers =
            { s.timers with
              phase := .stopped, quiet := .stopped, retry := .stopped, mute := .stopped } ∧
          u.mute = (s.settings.roles.panel || s.mute) ∧
          (s.settings.roles.backlight = true →
            u.dim.setting = .zero ∧ u.dim.ceiling = .limited 0 ∧ u.dim.active = false) ∧
          (∀ i, dips i → (s.entry i).present = true →
            u.rail i = { s.fallenRail i true with faultReason := some .dip }) ∧
          (s.urgent = true → ∀ i, ¬dips i → (s.entry i).present = true →
            u.rail i = s.forcedRail i) ∧
          (s.urgent = true → ∀ i, (s.entry i).present = true → (s.rail i).coherent →
            (u.rail i).applied = false ∧
              ((u.rail i).state = .off ∨ (u.rail i).state = .falling ∨
                (u.rail i).state = .discharging)) ∧
          (s.urgent = false → ∀ i, ¬dips i →
            ((s.rail i).state = .armedOn → u.rail i = (s.rail i).rests) ∧
              ((s.rail i).state = .armedOff → u.rail i = s.fallenRail i false) ∧
              ((s.rail i).state = .dimWait →
                u.rail i =
                  if s.settings.roles.backlight = true ∧ s.dim.ceiling ≠ .limited 0 then
                    s.fallenRail i false
                  else s.rail i) ∧
              (serves i → off i →
                (s.entry i).dimGated = false ∨
                  s.settings.roles.backlight = true ∧ s.reportMatchesCeiling →
                u.rail i = s.fallenRail i false) ∧
              ((s.rail i).state = .shed → off i → u.rail i = (s.rail i).rests) ∧
              ((s.rail i).state ≠ .armedOn → (s.rail i).state ≠ .armedOff →
                (s.rail i).state ≠ .dimWait →
                ¬off i ∨ (s.rail i).state = .off ∨ (s.rail i).state = .falling ∨
                  (s.rail i).state = .discharging →
                u.rail i = runsOn i)) ∧
          u.front = s.front ∧ u.settings = s.settings ∧ u.table = s.table ∧ u.last = s.last ∧
          u.port = s.port ∧ u.loader = s.loader) ∧
  (∀ s : State,
      (s.notices.link = .dormant ∨ s.notices.link = .broken → exec .breakDetected s = .next s) ∧
        (hears s → s.seq.mode = .solo →
          exec .breakDetected s =
            .next
              ({ s with
                notices :=
                  { s.notices with
                    link := .broken, inFlight := none
                    outbound :=
                      if s.seq.owed && s.front.mainsHeld then
                        { Outbound.empty with
                          mainsOk := some ⟨BitVec.ofNat 8 s.seq.phase, 0, 0⟩ }
                      else Outbound.empty }
                seq :=
                  { s.seq with roster := s.seq.roster.map fun (e : RosterEntry) => { e with heard := false } }
                cur :=
                  { s.cur with breaks := satInc s.cur.breaks, alertPending := true } }).conclude))

/-- The frame of a well-formed notice spells that notice again: 32 slots, a check that matches,
and every field (R67, R68, R72); the three worked checks of the manual, and one frame bit by
bit. -/
def Obligations.FrameOfANoticeSpellsTheNotice : Prop :=
  (∀ (n : Notice) (sending : Bool), n.wellFormed = true →
      n.slots.length = 32 ∧ (Frame.mk n.slots sending).checkMatches = true ∧
        (Frame.mk n.slots sending).notice = some n) ∧
  ((Notice.mk .sag 1 6 4).check = 0x09 ∧ (Notice.mk .fall 2 6 0).check = 0x2E ∧
      (Notice.mk .fault 3 1 2).check = 0xE5 ∧
      (Notice.mk .fall 2 6 0).slots =
        [false, true, false, false, false, false, true, false,
          false, false, false, false, false, true, true, false,
          false, false, false, false, false, false, false, false,
          false, false, true, false, true, true, true, false])

/-! ### Taken notices -/

/-- What every taken notice does before it acts: the frame is over, R79's withdrawals are made,
the sender's count and a phase disagreement follow R87, and the own number from another
station is a clash (R75). A rise that is due is taken first (R56) before a SAG, FALL, FAULT or
COMMIT in ROLLCALL and RISING and before the last three in RIDING, and the notice then acts in
the mode and phase that the rise has brought. Choices of the model's own in it: the place of a
number clash (log 14), who counts as the sender (log 18). -/
def Obligations.TakenNoticeMakesTheCommonSteps : Prop :=
  (∀ (s : State) (n : Notice) (own hold : Bool), s.takes n own → n.sender ≠ s.settings.number ∨ own →
      let u := s.atNotice n own hold
      u.notices.link = .waiting ∧
        u.notices.inFlight = (if own then none else s.notices.inFlight) ∧
        u.line = (s.seeHold hold).line ∧
        (∀ k, u.pendingOf k =
          if n.kind = .fault then
            (if k = .fault ∧ ∃ p, s.pendingOf .fault = some p ∧ p.arg1 = 15 then none
            else s.pendingOf k)
          else if k = n.kind ∧ own = false ∧ k ≠ .roll ∧ k ≠ .tally then none
          else s.pendingOf k) ∧
        u.seq =
          { s.seq with
            roster :=
              s.seq.roster.map fun (e : RosterEntry) =>
                if e.number = n.sender then { e with taken := satInc e.taken } else e } ∧
        u.cur =
          { s.cur with
            phaseDisagreements :=
              if n.senderPhase = none ∨ n.senderPhase = some s.seq.phase then
                s.cur.phaseDisagreements
              else satInc s.cur.phaseDisagreements } ∧
        u.settings = s.settings ∧ u.rails = s.rails ∧ u.ctl = s.ctl ∧ u.front = s.front ∧
        u.timers = s.timers ∧ u.holdUp = s.holdUp ∧ u.dim = s.dim ∧ u.mute = s.mute ∧
        u.last = s.last ∧ u.port = s.port) ∧
  (∀ (s : State) (n : Notice) (hold : Bool), s.takes n false → n.sender = s.settings.number →
      let u := s.atNotice n false hold
      u.cur.numberClash = true ∧ u.cur.alertPending = true ∧
        (∀ e ∈ u.seq.roster, e.number = s.settings.number → e.clash = true) ∧
        (s.seq.mode.active = true → s.heldFaults = [] →
          u.pendingOf .fault = some ⟨15, 21, 0⟩)) ∧
  (∀ (s : State) (n : Notice) (own : Bool), s.takes n own → s.line.claimed = false →
      (s.line.riseTaken && s.line.high) = false →
      let top := s.settings.phaseCount
      let k :=
        match s.seq.mode, s.seq.returnMode with
        | .riding, .rollcall | .rollcall, _ => 0
        | .riding, .on | .riding, .none => top
        | _, _ => s.seq.phase
      let p := if k < top then k + 1 else top
      let signature := crc16Byte s.seq.signature (BitVec.ofNat 8 p)
      let cause : Cause :=
        match n.kind with
        | .fall => .request
        | .fault => .fault
        | .commit | .sag | .mainsOk | .rise | .roll | .tally => .brownout
      let disagrees := n.senderPhase ≠ none ∧ n.senderPhase ≠ some p
      let counts : State → Prop := fun t =>
        t.cur.phaseDisagreements =
          if disagrees then satInc s.cur.phaseDisagreements else s.cur.phaseDisagreements
      (s.seq.mode = .rollcall ∨ s.seq.mode = .rising ∨ s.seq.mode = .riding →
        n.kind = .fall ∨ n.kind = .fault ∨ n.kind = .commit →
        ∃ t,
          exec (n.kind.taken true) s = .next t ∧ counts t ∧ t.seq.mode = .descending ∧
            t.seq.cause = cause ∧ t.seq.phase = top ∧ t.line.claimed = true ∧
            t.line.reclaim = none ∧
            (n.kind = .fault → s.cur.firstFault = none →
              t.cur.firstFault = some ⟨n.arg2, n.sender, n.arg1, p⟩) ∧
            t.seq.signature =
              if n.kind = .commit then
                crc16Byte signature (BitVec.ofNat 8 (0x42 + (CommitCause.ofByte n.arg1).code))
              else signature) ∧
        (s.seq.mode = .rollcall ∨ s.seq.mode = .rising → n.kind = .sag →
          ∃ t,
            exec (.sagTaken true) s = .next t ∧ counts t ∧ t.seq.mode = .riding ∧
              t.seq.returnMode = (if k < top then .rising else .on) ∧ t.seq.phase = p ∧
              t.line.claimed = true ∧ t.line.reclaim = none ∧
              t.seq.signature = crc16Byte signature 0x40))

/-- A SAG taken in ROLLCALL, RISING or ON begins a ride-through (R133, R134, R137, R140): the
onset of urgency at the rails (R16, R19, R20), the rails that can be shed are SHED (R9), and
the timers of those that rise stand still (R12). Choices of the model's own in it: a pause and
an expiry of the phase timer at one tick (log 29). -/
def Obligations.SagBeginsARideThrough : Prop :=
  ∀ (s : State) (n : Notice) (own hold : Bool), s.takes n own → n.kind = .sag →
    s.seq.mode = .rollcall ∨ s.seq.mode = .rising ∨ s.seq.mode = .on → s.noRiseFirst .sag hold →
    let u := s.atNotice n own hold
    let sheds : Fin 8 → Prop := fun i =>
      (s.entry i).present = true ∧ (s.entry i).sheddable = true ∧
        (s.rail i).state.serving = true
    ∃ t,
      exec (.sagTaken hold) s = .next t ∧
        t.seq =
          { u.seq with
            mode := .riding, returnMode := s.seq.mode.toReturn, recovered := false
            sagCount := satInc s.seq.sagCount, lead := some n.sender, mainsReturned := false
            owed := own, budgetPassed := false
            signature := crc16Byte s.seq.signature 0x40 } ∧
        t.line.claimed = true ∧ (s.line.claimed = true → t.line = u.line) ∧
        t.holdUp =
          { s.holdUp with
            running := true, count := 0, sub := 0, armedA := true, armedP := true } ∧
        (s.timers.phase ≠ .running 0 →
          t.freeIndex = s.freeIndex ∧
            t.timers =
              { s.timers with
                phase := s.timers.phase.pause, quiet := .stopped, mute := .stopped }) ∧
        (s.timers.phase = .running 0 →
          t.freeIndex = s.freeIndex + 1 ∧
            (t.timers =
                { s.timers with phase := .paused 0, quiet := .stopped, mute := .stopped } ∨
              t.timers = { s.timers with quiet := .stopped, mute := .stopped })) ∧
        t.ctl.ride = true ∧ t.ctl.held = true ∧ t.ctl.solo = s.ctl.solo ∧
        t.cur.sags = satInc s.cur.sags ∧ t.cur.lead = some n.sender ∧
        t.dim =
          (if s.settings.roles.backlight then
            { s.dim with setting := .cap, capLimit := s.dim.ceiling.capLimit }
          else s.dim) ∧
        (s.settings.sagLimit ≤ t.seq.sagCount.toNat →
          t.pendingOf .commit = some ⟨2, BitVec.ofNat 8 s.seq.phase, 0⟩) ∧
        (own = true → s.front.mainsHeld = true →
          t.pendingOf .mainsOk = some ⟨BitVec.ofNat 8 s.seq.phase, 0, 0⟩) ∧
        (∀ i, sheds i →
          t.rail i =
            { (s.rail i).applyEnable (s.entry i) false with
              state := .shed, timer := .stopped, restoring := false, requested := false }) ∧
        (∀ i, (s.rail i).state = .ramping ∨ (s.rail i).state = .settling → ¬sheds i →
          t.rail i = { s.rail i with timer := (s.rail i).timer.pause }) ∧
        (∀ i, (s.rail i).state ≠ .ramping → (s.rail i).state ≠ .settling → ¬sheds i →
          t.rail i = if s.holdUp.running then s.rail i else s.urgedRail i) ∧
        t.settings = s.settings ∧ t.table = s.table ∧ t.front = s.front ∧ t.mute = s.mute ∧
        t.last = s.last ∧ t.port = s.port ∧ t.loader = s.loader

/-- A SAG taken in any other loaded mode (R133, R142, R145): counted in RIDING, with a lead
conflict when its sender is not the lead; in DESCENDING counted, with its sender as lead, and
the urgent period begins or goes on, and its onset acts on every rail (R121) and cuts the
dimming channel (R152); in both COMMIT CHATTER is queued where the sag count reaches the sag
limit (R140), and in DESCENDING the sender itself owes MAINS_OK and queues it at once with
mains held set (R137); in OFF, LOCKOUT and SOLO the record alone counts it. -/
def Obligations.SagElsewhereIsCounted : Prop :=
  ∀ (s : State) (n : Notice) (own hold : Bool), s.takes n own → n.kind = .sag →
    let u := s.atNotice n own hold
    let chattered :=
      { u.notices.outbound with
        commit :=
          if s.settings.sagLimit ≤ (satInc s.seq.sagCount).toNat then
            some ⟨2, BitVec.ofNat 8 s.seq.phase, 0⟩
          else u.notices.outbound.commit }
    (s.seq.mode = .riding →
        ∃ v : State,
          exec (.sagTaken hold) s = .next v.conclude ∧
            v.seq =
              { u.seq with
                sagCount := satInc s.seq.sagCount
                signature := crc16Byte s.seq.signature 0x40 } ∧
            v.cur =
              { u.cur with
                sags := satInc u.cur.sags
                leadConflicts :=
                  if s.seq.lead = some n.sender then u.cur.leadConflicts
                  else satInc u.cur.leadConflicts
                alertPending :=
                  u.cur.alertPending || !decide (s.seq.lead = some n.sender) } ∧
            v.notices = { u.notices with outbound := chattered } ∧
            v.rails = s.rails ∧ v.line = u.line ∧ v.holdUp = s.holdUp ∧ v.timers = s.timers) ∧
      (s.seq.mode = .descending →
        ∃ v : State,
          exec (.sagTaken hold) s = .next v.conclude ∧ v.holdUp.running = true ∧
            (s.holdUp.running = true → v.holdUp = s.holdUp ∧ v.rails = s.rails) ∧
            (s.holdUp.running = false →
              v.holdUp.count = 0 ∧
                (∀ i, v.rail i = s.urgedRail i) ∧
                (s.settings.roles.backlight = true →
                  v.dim =
                    { s.dim with
                      setting := .zero, rampIndex := 0, capLimit := none
                      liftFloor := .limited 0, ceiling := .limited 0, active := false
                      activeLeft := none
                      zeroReport := s.dim.zeroReport || decide (s.dim.ceiling ≠ .limited 0) })) ∧
            (s.holdUp.running = true ∨ s.settings.roles.backlight = false → v.dim = s.dim) ∧
            v.seq =
              { u.seq with
                sagCount := satInc s.seq.sagCount
                signature := crc16Byte s.seq.signature 0x40
                lead := some n.sender, mainsReturned := false, owed := own
                budgetPassed := s.seq.budgetPassed && s.holdUp.running } ∧
            v.cur =
              { u.cur with sags := satInc u.cur.sags, lead := some n.sender } ∧
            v.notices =
              { u.notices with
                outbound :=
                  { chattered with
                    mainsOk :=
                      if own = true ∧ s.front.mainsHeld = true then
                        some ⟨BitVec.ofNat 8 s.seq.phase, 0, 0⟩
                      else u.notices.outbound.mainsOk } } ∧
            v.line = u.line ∧ v.timers = s.timers ∧ v.front = s.front) ∧
      (s.seq.mode = .off ∨ s.seq.mode = .lockout ∨ s.seq.mode = .solo →
        exec (.sagTaken hold) s =
          .next ({ u with cur := { u.cur with sags := satInc u.cur.sags } }).conclude)

/-- A FALL, FAULT or COMMIT taken in an active mode brings DESCENDING with its cause (R89, R90,
R117, R118, R141), at down phase N, with DIM_OUT dark (R150, R152). The end of a ride-through
gives DIP to each GOOD rail with zone LOW or OFF (R15) and lets standing timers run on (R12);
the rails of down phase N are switched off (R8); a COMMIT that starts the hold-up timer brings
the onset of urgency (R121), and the other rails go on as they are. The state v is the station
just after the entry, before what follows the step. Choices of the model's own in it: what
comes first at one instant (log 17), DIM_OUT dark until a boundary after the entry (log 25). -/
def Obligations.NoticeBringsTheDescent : Prop :=
  ∀ (s : State) (n : Notice) (own hold : Bool), s.takes n own → s.noRiseFirst n.kind hold →
    s.seq.mode.active = true →
    n.kind = .fall ∨ n.kind = .fault ∨ n.kind = .commit →
    let u := s.atNotice n own hold
    let c : Instr :=
      match n.kind with
      | .fall => .fallTaken hold
      | .fault => .faultTaken hold
      | .commit | .sag | .mainsOk | .rise | .roll | .tally => .commitTaken hold
    let cause : Cause :=
      match n.kind with
      | .fall => .request
      | .fault => .fault
      | .commit | .sag | .mainsOk | .rise | .roll | .tally => .brownout
    let top := s.settings.phaseCount
    ∃ v : State,
      exec c s = .next v.conclude ∧
        v.seq.mode = .descending ∧ v.seq.phase = top ∧ v.seq.cause = cause ∧
        v.seq.returnMode = .none ∧ v.seq.attempts = s.seq.attempts ∧
        v.seq.lastCause = s.seq.lastCause ∧ v.seq.lead = s.seq.lead ∧
        v.seq.sagCount = s.seq.sagCount ∧ v.seq.roster = u.seq.roster ∧
        v.line.claimed = true ∧ (s.line.claimed = true → v.line = u.line) ∧
        v.ctl.ride = false ∧ v.ctl.held = false ∧
        v.timers =
          { s.timers with
            phase := .running (s.settings.phaseLimit * 10000), phaseSetting := .phaseLimit
            quiet := .stopped, mute := .stopped } ∧
        v.mute = (s.settings.roles.panel || s.mute) ∧
        v.cur.outcome = cause.outcome ∧ v.cur.runNumber = s.cur.runNumber ∧
        v.holdUp.running = (s.holdUp.running || decide (n.kind = .commit)) ∧
        (s.settings.roles.backlight = true →
          v.dim.setting = .zero ∧ v.dim.active = false ∧ v.dim.activeLeft = none) ∧
        (s.settings.roles.backlight = true → v.holdUp.running = true →
          v.dim.ceiling = .limited 0) ∧
        (v.holdUp.running = false → v.dim.ceiling = s.dim.ceiling) ∧
        (s.seq.mode = .riding → s.seq.budgetPassed = true → s.holdUp.running = true →
          s.notices.breakDrive = none → v.notices.breakDrive = some 48) ∧
        (n.kind = .commit →
          v.cur.commitCause = some (CommitCause.ofByte n.arg1) ∧ v.cur.alertPending = true ∧
            v.seq.signature =
              crc16Byte s.seq.signature
                (BitVec.ofNat 8 (0x42 + (CommitCause.ofByte n.arg1).code))) ∧
        (n.kind ≠ .commit → v.seq.signature = s.seq.signature) ∧
        (n.kind = .fault →
          (s.cur.firstFault = none →
            v.cur.firstFault = some ⟨n.arg2, n.sender, n.arg1, s.seq.phase⟩ ∧
              v.cur.alertPending = true) ∧
          (s.cur.firstFault ≠ none → v.cur.firstFault = s.cur.firstFault)) ∧
        (∀ i, (s.entry i).present = true → (s.entry i).downPhase = top →
          (v.rail i).state = .off ∨ (v.rail i).state = .armedOff ∨
            (v.rail i).state = .dimWait ∨ (v.rail i).state = .falling ∨
            (v.rail i).state = .discharging) ∧
        (∀ i,
          let e := s.entry i
          let r := s.rail i
          let dips := s.ctl.ride = true ∧ s.dips i
          let timed := r.state = .ramping ∨ r.state = .settling
          let urgent := v.holdUp.running
          let off := e.present = true ∧ e.downPhase = top
          let leaves := r.state.serving = true ∨ r.state = .armedOn ∨ r.state = .shed
          let blanks := e.blankAligned = true ∧ s.ctl.solo = false
          let dims := e.dimGated = true ∧ s.zeroReport = false
          let waits := { r with timer := .stopped, restoring := false, requested := false }
          let darkens :=
            r.state = .dimWait ∧ s.holdUp.running = true ∧ s.settings.roles.backlight = true ∧
              s.dim.ceiling ≠ .limited 0
          (dips → v.rail i = { s.fallenRail i true with faultReason := some .dip }) ∧
            (¬dips → off → r.state.serving = true →
              (urgent = true → v.rail i = s.fallenRail i true) ∧
              (urgent = false → blanks → v.rail i = { waits with state := .armedOff }) ∧
              (urgent = false → ¬blanks → dims → v.rail i = { waits with state := .dimWait }) ∧
              (urgent = false → ¬blanks → ¬dims → v.rail i = s.fallenRail i false)) ∧
            (off → r.state = .armedOn ∨ r.state = .shed → v.rail i = r.rests) ∧
            (¬dips → ¬(off ∧ leaves) →
              (timed →
                v.rail i = { r with timer := if s.ctl.held then r.timer.resume else r.timer }) ∧
              (darkens → v.rail i = s.fallenRail i true) ∧
              (¬timed → ¬darkens →
                v.rail i =
                  if n.kind = .commit ∧ s.holdUp.running = false then s.urgedRail i else r))) ∧
        v.settings = s.settings ∧ v.table = s.table ∧ v.front = s.front ∧ v.last = s.last ∧
        v.port = s.port ∧ v.loader = s.loader

/-- A FALL, FAULT or COMMIT taken outside the active modes changes no mode (R89, R90, R141): a
FALL does nothing but abandon a resume in OFF during the rest time (R97, log 24), a FAULT and
a COMMIT are recorded. Choices of the model's own in it: a FALL during the rest time (log 24). -/
def Obligations.NoticeOutsideTheActiveModesIsRecorded : Prop :=
  ∀ (s : State) (n : Notice) (own hold : Bool), s.takes n own →
    s.seq.mode.active = false →
    let u := s.atNotice n own hold
    let rests := s.seq.mode = .off ∧ s.seq.wait = .rest
    (n.kind = .fall →
      (¬rests → exec (.fallTaken hold) s = .next u.conclude) ∧
        (rests →
          exec (.fallTaken hold) s =
            .next
              ({ u with
                timers := { s.timers with retry := .stopped }
                seq := { u.seq with wait := .none } }).conclude)) ∧
      (n.kind = .fault →
        (s.cur.firstFault = none →
          exec (.faultTaken hold) s =
            .next
              ({ u with
                cur :=
                  { u.cur with
                    firstFault := some ⟨n.arg2, n.sender, n.arg1, s.seq.phase⟩
                    alertPending := true } }).conclude) ∧
        (s.cur.firstFault ≠ none →
          exec (.faultTaken hold) s =
            .next
              ({ u with
                cur := { u.cur with laterFaults := satInc u.cur.laterFaults } }).conclude)) ∧
      (n.kind = .commit →
        exec (.commitTaken hold) s =
          .next
            ({ u with
              cur :=
                { u.cur with
                  commitCause := some (CommitCause.ofByte n.arg1), alertPending := true }
              seq :=
                { u.seq with
                  signature :=
                    crc16Byte s.seq.signature
                      (BitVec.ofNat 8 (0x42 + (CommitCause.ofByte n.arg1).code)) } }).conclude)

/-- A MAINS_OK is taken (R138, R145): the lead's one in RIDING is the recovery, in any other mode
it sets mains-returned; any other sender's is a lead conflict. The sender clears its owed
flag. At the recovery COMMIT is withdrawn (R80), standing rail timers run on (R12), and each
SHED rail is restored with the restoring mark and its timer started (R10); the dimming channel
lifts from the ceiling in effect, or stays at 0 (R151). -/
def Obligations.MainsOkEndsTheSag : Prop :=
  ∀ (s : State) (n : Notice) (own hold : Bool), s.takes n own → n.kind = .mainsOk →
    let u := s.atNotice n own hold
    let owed := s.seq.owed && !own
    (s.seq.lead ≠ some n.sender →
        exec (.mainsOkTaken hold) s =
          .next
            ({ u with
              seq := { u.seq with owed := owed }
              cur :=
                { u.cur with
                  leadConflicts := satInc u.cur.leadConflicts
                  alertPending := true } }).conclude) ∧
      (s.seq.lead = some n.sender → s.seq.mode ≠ .riding →
        ¬(s.seq.mode = .off ∧ s.seq.wait = .mains) →
        exec (.mainsOkTaken hold) s =
          .next
            ({ u with
              seq := { u.seq with owed := owed, mainsReturned := true, lead := none }
              cur := { u.cur with mainsReturned := true } }).conclude) ∧
      (s.seq.lead = some n.sender → s.seq.mode = .off → s.seq.wait = .mains →
        exec (.mainsOkTaken hold) s =
          .next
            ({ u with
              seq :=
                { u.seq with
                  owed := owed, mainsReturned := true, lead := none, wait := .none }
              cur := { u.cur with mainsReturned := true }
              notices :=
                { u.notices with
                  outbound := { u.notices.outbound with rise := some ⟨0, 0, 0⟩ } } }).conclude) ∧
      (s.seq.lead = some n.sender → s.seq.mode = .riding →
        ∃ v : State,
          exec (.mainsOkTaken hold) s = .next v.conclude ∧
            v.seq =
              { u.seq with
                owed := owed, lead := none, recovered := true, budgetPassed := false
                signature := crc16Byte s.seq.signature 0x41 } ∧
            v.holdUp.running = false ∧
            (s.holdUp.running = true →
              v.holdUp.capture = s.holdUp.count ∧
                v.cur.longestHoldUp =
                  if s.cur.longestHoldUp < s.holdUp.count then s.holdUp.count
                  else s.cur.longestHoldUp) ∧
            v.timers = { s.timers with phase := s.timers.phase.resume } ∧
            v.pendingOf .commit = none ∧
            v.notices.inFlight = (u.withdraw .commit).notices.inFlight ∧
            v.ctl.held = false ∧ v.ctl.ride = s.ctl.ride ∧
            v.line = u.line ∧
            (∀ i, (s.entry i).present = true → (s.rail i).state = .shed →
              let r := { s.rail i with requested := true, restoring := true }
              let free := { s with ctl := { s.ctl with held := false } }
              (¬((s.entry i).sense = true ∧ s.zone i = some .high) →
                  v.rail i = free.raisedRail i r) ∧
                ((s.entry i).sense = true → s.zone i = some .high →
                  (v.rail i).state = .falling ∧ (v.rail i).faultReason = some .over)) ∧
            (∀ i, (s.rail i).state = .ramping ∨ (s.rail i).state = .settling →
              v.rail i = { s.rail i with timer := (s.rail i).timer.resume }) ∧
            (∀ i, (s.rail i).state ≠ .ramping → (s.rail i).state ≠ .settling →
              (s.entry i).present = false ∨ (s.rail i).state ≠ .shed → v.rail i = s.rail i) ∧
            (s.settings.roles.backlight = true →
              (s.seq.returnMode = .on →
                v.dim =
                  { s.dim with setting := .lift, rampIndex := 0, liftFloor := s.dim.ceiling }) ∧
              (s.seq.returnMode ≠ .on → v.dim = { s.dim with setting := .zero })) ∧
            (s.settings.roles.backlight = false → v.dim = s.dim))

/-- A RISE taken in OFF, or in LOCKOUT with attempt 0, enters ROLLCALL (R88, R92, R155, R158):
records rotated, signature and tally cleared, only the own entry heard, HOLD claimed at once,
ROLL queued, the roll timer started. It is held in DESCENDING and SOLO, and does nothing
elsewhere. A station claims HOLD in no mode where the RISE acts (R49). Choices of the model's
own in it: HOLD seen low at a new claim (log 9). -/
def Obligations.RiseNoticeActsByMode : Prop :=
  (∀ (s : State) (n : Notice) (own hold : Bool), s.takes n own → n.kind = .rise →
      s.line.claimed = false → s.seq.mode = .off ∨ s.seq.mode = .lockout ∧ n.arg1 = 0 →
      let u := s.atNotice n own hold
      ∃ t,
        exec (.riseTaken hold) s = .next t ∧ t.last = u.cur ∧
          t.cur =
            { RunRecord.cleared with
              runNumber := s.cur.runNumber + 1, alertPending := u.cur.alertPending } ∧
          t.seq =
            { u.seq with
              mode := .rollcall, phase := 0, returnMode := .none, recovered := false
              cause := .none, heldRise := none, mainsReturned := false, wait := .none
              signature := 0xFFFF, tally := 0xFFFF
              attempts := if s.seq.mode = .lockout then 0 else s.seq.attempts
              roster :=
                u.seq.roster.map fun (e : RosterEntry) => { e with heard := e.number == s.settings.number } } ∧
          t.line =
            { claimed := true, minHold := false, minHoldLeft := some 64, reclaim := none
              high := false, riseTaken := false, highTwo := false, faultDelivered := false } ∧
          t.timers =
            { s.timers with
              phase := .running (s.settings.rollTimeout * 10000), phaseSetting := .rollTimeout
              retry := .stopped } ∧
          t.pendingOf .roll =
            some ⟨rollArg1 s.settings.roles s.loader.profile, rollArg2 s.settings, 0⟩ ∧
          (s.settings.roles.requester = true → s.front.pwrReq.level = false →
            t.pendingOf .fall = some ⟨0, 0, 0⟩) ∧
          (s.settings.roles.mains = true → s.front.msns.accepted = some .sag →
            t.pendingOf .sag = some ⟨0, 2, 0⟩) ∧
          t.rails = s.rails ∧ t.ctl = s.ctl ∧ t.front = s.front ∧ t.holdUp = s.holdUp ∧
          t.dim = s.dim ∧ t.mute = s.mute ∧ t.settings = s.settings ∧ t.table = s.table ∧
          t.port = s.port ∧ t.loader = s.loader) ∧
  (∀ (s : State) (n : Notice) (own hold : Bool), s.takes n own → n.kind = .rise →
      let u := s.atNotice n own hold
      (s.seq.mode = .descending ∨ s.seq.mode = .solo →
          exec (.riseTaken hold) s =
            .next ({ u with seq := { u.seq with heldRise := some n.arg1 } }).conclude) ∧
        (s.seq.mode = .rollcall ∨ s.seq.mode = .rising ∨ s.seq.mode = .on ∨
            s.seq.mode = .riding ∨ s.seq.mode = .lockout ∧ n.arg1 ≠ 0 →
          exec (.riseTaken hold) s = .next u.conclude))

/-- A ROLL is taken (R94, R95): a peer's one makes or refreshes its entry, and queues
CONFIG_MISMATCH in roll call when it disagrees, PEER_RESTART in another active mode; the own
one queues PEER_RESTART in OFF while HOLD is low. One with the own number that this station
did not send is the clash of R75 and makes no entry, and the mode answers it as a peer's one
that agrees (log 23). Choices of the model's own in it: the link at an own BREAK and the
notice in flight at a foreign frame (log 23). -/
def Obligations.RollFillsTheRoster : Prop :=
  ∀ (s : State) (n : Notice) (own hold : Bool), s.takes n own → n.kind = .roll →
    let u := s.atNotice n own hold
    let agrees :=
      n.arg2.toNat / 16 = s.settings.phaseCount ∧ n.arg2.toNat % 4 = s.settings.retryLimit
    (own = true →
        (s.seq.mode = .off ∧ hold = false →
          exec (.rollTaken hold) s = .next (u.queueNotice .fault 15 19).conclude) ∧
        (¬(s.seq.mode = .off ∧ hold = false) → s.seq.mode.loaded = true →
          exec (.rollTaken hold) s = .next u.conclude)) ∧
      (own = false → n.sender = s.settings.number →
        (s.inRollcall = false ∧ s.seq.mode.active = true →
          exec (.rollTaken hold) s = .next (u.queueNotice .fault 15 19).conclude) ∧
        (s.inRollcall = true ∨ s.seq.mode.active = false →
          exec (.rollTaken hold) s = .next u.conclude)) ∧
      (own = false → n.sender ≠ s.settings.number →
        ∃ (e : RosterEntry) (v : State),
          exec (.rollTaken hold) s = .next v.conclude ∧
            v.seq = { u.seq with roster := rosterInsert e u.seq.roster } ∧
            e.number = n.sender ∧ e.roles = Roles.ofByte n.arg1 ∧
            e.profile = n.arg1.extractLsb' 0 2 ∧ e.phaseCount = n.arg2.toNat / 16 ∧
            e.retryLimit = n.arg2.toNat % 4 ∧ e.mismatch = !decide agrees ∧
            (s.inRollcall = true → e.heard = true) ∧
            (u.rosterEntry n.sender = none →
              e.heard = s.inRollcall ∧ e.outOfStep = false ∧ e.clash = false ∧ e.taken = 0) ∧
            (∀ f, u.rosterEntry n.sender = some f →
              e.heard = (f.heard || s.inRollcall) ∧ e.outOfStep = f.outOfStep ∧
                e.taken = f.taken ∧
                e.clash =
                  (f.clash || s.inRollcall && f.heard &&
                    !decide (f.roles = e.roles ∧ f.profile = e.profile))) ∧
            (s.inRollcall = true →
              { v with seq := u.seq } = if agrees then u else u.queueNotice .fault 15 18) ∧
            (s.inRollcall = false → s.seq.mode.active = true →
              { v with seq := u.seq } = u.queueNotice .fault 15 19) ∧
            (s.inRollcall = false → s.seq.mode.active = false →
              { v with seq := u.seq } = u))

/-- A TALLY is taken (R155): in ON it clears or sets its sender's out-of-step flag, and one that
differs is recorded with the alert; in every other mode it does nothing. -/
def Obligations.TallyComparesTheSignature : Prop :=
  ∀ (s : State) (n : Notice) (own hold : Bool), s.takes n own → n.kind = .tally →
    let u := s.atNotice n own hold
    let marked : Bool → List RosterEntry := fun m =>
      u.seq.roster.map fun (e : RosterEntry) => if e.number = n.sender then { e with outOfStep := m } else e
    (s.seq.mode ≠ .on → exec (.tallyTaken hold) s = .next u.conclude) ∧
      (s.seq.mode = .on → n.arg1 ++ n.arg2 = s.seq.tally →
        exec (.tallyTaken hold) s =
          .next ({ u with seq := { u.seq with roster := marked false } }).conclude) ∧
      (s.seq.mode = .on → n.arg1 ++ n.arg2 ≠ s.seq.tally →
        exec (.tallyTaken hold) s =
          .next
            ({ u with
              seq := { u.seq with roster := marked true }
              cur :=
                { u.cur with
                  mismatchSet := u.cur.mismatchSet ||| (1#16 <<< n.sender.toNat)
                  alertPending := true } }).conclude)

/-! ### Dimming channel -/

/-- A period boundary (R149, R151, R153, R20) on a station with a dimming channel, at its instant:
the period and the requested high time by the source and the capture, the ceiling by the
setting, the active time the smaller of the two; a ceiling that becomes 0 lets each DIM_WAIT
rail fall. Choices of the model's own in it: no effect of an event that cannot occur (log 3),
an own event before its instant has no effect (log 4). -/
def Obligations.PeriodBoundaryFixesTheOutput : Prop :=
  ∀ (s : State) (hold : Bool),
    let c := s.settings
    let d := s.dim
    let p :=
      if c.fixedDimSource then c.fallbackPeriod
      else
        match d.capture, d.pair with
        | .tracking, some q => q.period
        | .tracking, none => c.fallbackPeriod
        | .level, _ => c.fallbackPeriod
    let h :=
      if c.fixedDimSource then c.fixedDuty * p / 100
      else
        match d.capture, d.pair with
        | .tracking, some q => q.high
        | .tracking, none => if s.front.dimIn.level then p else 0
        | .level, _ => if s.front.dimIn.level then p else 0
    let j := d.rampIndex + 1
    let us := j * (p / c.rampPeriods)
    let cap := c.shedCap * p / 100
    (s.loaded = false ∨ c.roles.backlight = false ∨ d.boundaryLeft ≠ some 0 →
        exec (.periodBoundary hold) s = .next s) ∧
      (s.loaded = true → c.roles.backlight = true → d.boundaryLeft = some 0 →
        ∃ v : State,
          exec (.periodBoundary hold) s = .next v.conclude ∧
            (d.setting = .zero → v.dim.ceiling = .limited 0 ∧ v.dim.setting = .zero) ∧
            (d.setting = .full → v.dim.ceiling = .unlimited ∧ v.dim.setting = .full) ∧
            (d.setting = .cap →
              v.dim.setting = .cap ∧
                (∀ l, d.capLimit = some l → v.dim.ceiling = .limited (min cap l)) ∧
                (d.capLimit = none → v.dim.ceiling = .limited cap)) ∧
            (d.setting = .ramp →
              (j < c.rampPeriods → v.dim.ceiling = .limited us ∧ v.dim.setting = .ramp) ∧
                (c.rampPeriods ≤ j →
                  v.dim.ceiling = .unlimited ∧ v.dim.setting = .full)) ∧
            (d.setting = .lift →
              (∀ n, d.liftFloor = .limited n → j < c.rampPeriods →
                v.dim.ceiling = .limited (max n us) ∧ v.dim.setting = .lift) ∧
                (d.liftFloor = .unlimited ∨ c.rampPeriods ≤ j →
                  v.dim.ceiling = .unlimited ∧ v.dim.setting = .full)) ∧
            v.dim.rampIndex =
              (if d.setting = .ramp ∨ d.setting = .lift then j else d.rampIndex) ∧
            v.dim.outPeriod = p ∧ v.dim.boundaryLeft = some p ∧
            (let a := v.dim.ceiling.clip h
            v.dim.active = decide (0 < a) ∧
              v.dim.activeLeft = if 0 < a ∧ a < p then some a else none) ∧
            (s.reportMatchesCeiling → v.reportMatchesCeiling) ∧
            v.dim.capture = d.capture ∧ v.dim.pair = d.pair ∧
            v.dim.measurement = d.measurement ∧
            (∀ i, (s.rail i).state ≠ .dimWait → v.rail i = s.rail i) ∧
            (v.dim.ceiling = .limited 0 → d.ceiling = .limited 0 → v.rails = s.rails) ∧
            (v.dim.ceiling = .limited 0 → d.ceiling ≠ .limited 0 → ∀ i,
              (s.rail i).state = .dimWait →
              (v.rail i).applied = false ∧
                ((v.rail i).state = .falling ∨ (v.rail i).state = .off)) ∧
            v.line = (s.seeHold hold).line ∧ v.seq = s.seq ∧ v.timers = s.timers ∧
            v.front = s.front ∧ v.holdUp = s.holdUp ∧ v.notices = s.notices ∧
            v.settings = s.settings ∧ v.mute = s.mute)

/-! ### Status port -/

/-- A command byte completes (R168 to R172, R159): each read takes its snapshot, ACKNOWLEDGE
clears the alert, any other code replies 0xFF for ever. The byte is one that the bits taken so
far begin (log 2); in IDLE and REPLY nothing is taken. Every field of the replies stands in
the bits that R169 to R172 give it, with the codes of their tables. Choices of the model's own
in it: the byte that a command row completes (log 2), the requester wait at an entry to SOLO
and the MUTE bit without a driven pin (log 22). -/
def Obligations.CommandBytesTakeTheirSnapshot : Prop :=
  (∀ (s : State) (hold : Bool) (code : Byte),
    let u := s.seeHold hold
    let reply : State → List Byte → Byte → State := fun t bytes filler =>
      { t with port := .reply ⟨bytes, filler, 0, false⟩ }
    (∀ bits, s.port = .command bits →
      (bits <+: byteBits 0xA1 →
        exec (.readState hold) s = .next (reply u u.stateReply 0x00)) ∧
      (bits <+: byteBits 0xA2 → exec .readRails s = .next (reply s s.railsReply 0x00)) ∧
      (bits <+: byteBits 0xA3 → exec .readRecord s = .next (reply s s.cur.reply 0x00)) ∧
      (bits <+: byteBits 0xA4 → exec .readLastRecord s = .next (reply s s.last.reply 0x00)) ∧
      (bits <+: byteBits 0xA5 → exec .readRoster s = .next (reply s s.rosterReply 0x00)) ∧
      (bits <+: byteBits 0xC0 →
        exec .acknowledge s =
          .next (reply { s with cur := { s.cur with alertPending := false } } [] 0x00)) ∧
      (code ∉ knownCodes → bits <+: byteBits code →
        exec (.unknownCommand code) s = .next (reply s [] 0xFF))) ∧
      ((∀ bits, s.port ≠ .command bits) →
        exec (.readState hold) s = .next u ∧ exec .readRails s = .next s ∧
          exec .readRecord s = .next s ∧ exec .readLastRecord s = .next s ∧
          exec .readRoster s = .next s ∧ exec .acknowledge s = .next s ∧
          exec (.unknownCommand code) s = .next s) ∧
      s.stateReply.length = 8 ∧ s.railsReply.length = 48 ∧ s.cur.reply.length = 23 ∧
      s.last.reply.length = 23 ∧ s.rosterReply.length = 32) ∧
  (∀ s : State, s.seq.phase ≤ 15 → s.seq.attempts ≤ 4 → s.loader.detail ≤ 15 →
    let q := s.seq
    let field : Nat → Nat → Nat → Nat := fun b low width =>
      (s.stateReply.getD b 0).toNat / 2 ^ low % 2 ^ width
    field 0 4 4 = q.mode.code ∧ field 0 0 4 = q.phase ∧
      field 1 5 3 = q.cause.code ∧ field 1 2 3 = q.lastCause.code ∧
      field 1 1 1 = (decide (s.loader.resetCause = .rst)).toNat ∧
      field 1 0 1 = s.urgent.toNat ∧
      field 2 5 3 = q.attempts ∧ field 2 2 3 = q.wait.code ∧
      field 2 1 1 = s.line.claimed.toNat ∧ field 2 0 1 = s.line.high.toNat ∧
      field 3 4 4 = q.sagCount.toNat ∧
      field 3 0 4 = (match q.lead with | some n => n.toNat | none => 0) ∧
      field 4 7 1 = q.lead.isSome.toNat ∧ field 4 6 1 = q.mainsReturned.toNat ∧
      field 4 5 1 = q.owed.toNat ∧ field 4 4 1 = s.front.mainsHeld.toNat ∧
      field 4 2 2 = mainsZoneCode s.front.msns.accepted ∧
      field 4 1 1 = s.notices.stuck.toNat ∧ field 4 0 1 = s.cur.alertPending.toNat ∧
      (∀ k : Kind, field 5 k.code 1 = (s.pendingOf k).isSome.toNat) ∧
      field 6 4 4 = s.loader.reason.code ∧ field 6 0 4 = s.loader.detail ∧
      field 7 5 3 = s.notices.link.code ∧ field 7 3 2 = s.loader.profile.toNat ∧
      field 7 2 1 = (decide (s.readyPin = .high)).toNat ∧
      field 7 1 1 = s.lgood.toNat ∧ field 7 0 1 = (decide (s.mutePin = .high)).toNat) ∧
  (∀ (s : State) (i : Fin 8),
    let r := s.rail i
    let byteAt : Nat → Nat := fun b => (s.railsReply.getD (6 * i.val + b) 0).toNat
    let field : Nat → Nat → Nat → Nat := fun b low width => byteAt b / 2 ^ low % 2 ^ width
    ((s.entry i).present = false → ∀ b, b < 6 → byteAt b = 0) ∧
      ((s.entry i).present = true →
        field 0 4 4 = r.state.code ∧ field 0 3 1 = 1 ∧ field 0 0 3 = zoneCode (s.zone i) ∧
          field 1 5 3 = faultReasonCode r.faultReason ∧ field 1 4 1 = r.slowFall.toNat ∧
          field 1 3 1 = r.restoring.toNat ∧ field 1 2 1 = r.requested.toNat ∧
          field 1 1 1 = r.applied.toNat ∧ field 1 0 1 = r.dischargeRequest.toNat ∧
          256 * byteAt 2 + byteAt 3 = (match r.riseTime with | some x => x.toNat | none => 0) ∧
          byteAt 4 = r.glitches.toNat ∧ byteAt 5 = 128 * r.riseTime.isSome.toNat)) ∧
  (∀ r : RunRecord,
    let byteAt : Nat → Nat := fun b => (r.reply.getD b 0).toNat
    256 * byteAt 0 + byteAt 1 = r.runNumber.toNat ∧ byteAt 2 = r.outcome.code ∧
      (r.firstFault = none → byteAt 3 = 0 ∧ byteAt 4 = 0 ∧ byteAt 5 = 0 ∧ byteAt 6 = 0) ∧
      (∀ f, r.firstFault = some f → f.reason.toNat < 32 → f.phase ≤ 15 →
        byteAt 3 = 128 + f.reason.toNat ∧ byteAt 4 = f.sender.toNat ∧
          byteAt 5 = f.rail.toNat ∧ byteAt 6 = f.phase) ∧
      byteAt 7 = r.laterFaults.toNat ∧ byteAt 8 = r.sags.toNat ∧
      byteAt 9 = (match r.lead with | some n => 128 + n.toNat | none => 0) ∧
      256 * byteAt 10 + byteAt 11 = r.longestHoldUp.toNat ∧
      byteAt 12 = (match r.commitCause with | some c => c.code | none => 0) ∧
      byteAt 13 =
        4 * r.mainsReturned.toNat + 2 * r.numberClash.toNat + r.alertPending.toNat ∧
      256 * byteAt 14 + byteAt 15 = r.mismatchSet.toNat ∧
      byteAt 16 = r.objections.toNat ∧ byteAt 17 = r.dropped.toNat ∧
      byteAt 18 = r.foreign.toNat ∧ byteAt 19 = r.breaks.toNat ∧
      byteAt 20 = r.leadConflicts.toNat ∧ byteAt 21 = r.blankMisses.toNat ∧
      byteAt 22 = r.phaseDisagreements.toNat) ∧
  (∀ (s : State) (n : Nibble),
    let byteAt : Nat → Nat := fun b => (s.rosterReply.getD (2 * n.toNat + b) 0).toNat
    (s.rosterEntry n = none → byteAt 0 = 0 ∧ byteAt 1 = 0) ∧
      ∀ e, s.rosterEntry n = some e → e.phaseCount ≤ 15 →
        byteAt 0 = e.taken.toNat ∧
          byteAt 1 =
            16 * e.phaseCount + 8 * e.heard.toNat + 4 * e.mismatch.toNat +
              2 * e.outOfStep.toNat + e.clash.toNat) ∧
  ([Mode.off, .lockout, .rollcall, .rising, .on, .riding, .descending, .solo, .loading, .silent,
        .unconfigured].map Mode.code = [0, 1, 2, 3, 4, 5, 6, 7, 8, 9, 10] ∧
    [Cause.none, .request, .fault, .brownout, .brk].map Cause.code = [0, 1, 2, 3, 4] ∧
    [Wait.none, .retry, .rest, .mains, .fresh].map Wait.code = [0, 1, 2, 3, 4] ∧
    [none, some MainsZone.sag, some .ok].map mainsZoneCode = [0, 1, 2] ∧
    [LoadReason.none, .readFailed, .badMarker, .badVersion, .badCheck, .profileDisabled,
        .badStation, .badProfile, .badRail, .ascentBound, .descentBound].map LoadReason.code =
      [0, 1, 2, 3, 4, 5, 6, 7, 8, 9, 10] ∧
    [LinkState.dormant, .waiting, .free, .frame ⟨[], false⟩, .broken].map LinkState.code =
      [0, 1, 2, 3, 4] ∧
    [RailState.off, .armedOn, .armedOff, .ramping, .settling, .good, .shed, .dimWait, .falling,
        .discharging].map RailState.code = [0, 1, 2, 3, 4, 5, 6, 7, 8, 9] ∧
    [none, some Zone.off, some .low, some .good, some .high].map zoneCode = [0, 1, 2, 3, 4] ∧
    [none, some RailReason.riseTimeout, some .dip, some .over, some .restoreTimeout].map
        faultReasonCode = [0, 1, 2, 3, 4] ∧
    [RunOutcome.inProgress, .reachedOn, .descendedRequest, .descendedFault, .descendedBrownout,
        .soloBreak, .lockout].map RunOutcome.code = [0, 1, 2, 3, 4, 5, 6] ∧
    [CommitCause.window, .chatter, .railSag].map CommitCause.code = [1, 2, 3])

/-- The bits of an exchange (R168): select opens it unless RST is asserted and ends it in any
state; seven command bits are kept and the eighth completes the byte, which then does what the
command of that byte does; each reply bit is the next of the snapshot, then of the filler,
most significant first. Choices of the model's own in it: no effect of an event that cannot
occur (log 3). -/
def Obligations.ExchangeMovesBitByBit : Prop :=
  ∀ s : State,
    (s.loader.rstAsserted = false → s.port = .idle →
        exec .selectLowered s = .next { s with port := .command [] }) ∧
      (s.loader.rstAsserted = true ∨ s.port ≠ .idle → exec .selectLowered s = .next s) ∧
      exec .selectRaised s = .next { s with port := .idle } ∧
      (∀ (bits : List Bool) (bit hold : Bool), s.port = .command bits →
        let u := s.seeHold hold
        let byte := bits ++ [bit]
        (bits.length < 7 →
          exec (.commandBit bit hold) s = .next { u with port := .command byte }) ∧
        (byteBits 0xA1 = byte →
          exec (.commandBit bit hold) s = exec (.readState hold) s) ∧
        (byteBits 0xA2 = byte → exec (.commandBit bit hold) s = exec .readRails u) ∧
        (byteBits 0xA3 = byte → exec (.commandBit bit hold) s = exec .readRecord u) ∧
        (byteBits 0xA4 = byte → exec (.commandBit bit hold) s = exec .readLastRecord u) ∧
        (byteBits 0xA5 = byte → exec (.commandBit bit hold) s = exec .readRoster u) ∧
        (byteBits 0xC0 = byte → exec (.commandBit bit hold) s = exec .acknowledge u) ∧
        ∀ code : Byte, byteBits code = byte → code ∉ knownCodes →
          exec (.commandBit bit hold) s = exec (.unknownCommand code) u) ∧
      (∀ bit hold, (∀ bits, s.port ≠ .command bits) →
        exec (.commandBit bit hold) s = .next (s.seeHold hold)) ∧
      (∀ r, s.port = .reply r →
        exec .replyBit s =
          .next
            { s with
              port :=
                .reply
                  { r with
                    sent := r.sent + 1
                    out := (r.snapshot.getD (r.sent / 8) r.filler).getMsbD (r.sent % 8) } }) ∧
      ((∀ r, s.port ≠ .reply r) → exec .replyBit s = .next s)

/-- The outputs follow the state. EN stands in its drive mode, with the boost of R3, from a load
on and only where the rail is present (R2, R3); DIS is asserted while a rail that names it
requests discharge (R4); LGOOD is asserted in ON and RIDING while every present rail that is
not SHED is GOOD (R35); READY in ON (R102); ALERT while an alert is pending or in UNCONFIGURED
(R160); MUTE at its level on a PANEL station and in UNCONFIGURED (R113); DIM_OUT in the active
part of a period in ON and RIDING (R150); HOLD low while claimed (R49); DATA low under BREAK
(R81) and in the dominant part of each slot that this station drives, slot 33 by the
objection, and released else (R63, R70), with the bits of the own notice (R66, R67); SCL and
SDA released outside a read and never driven high, and in a read first nine clocks with SDA
released, a stop and a start (R161, R162); data out by the exchange (R168). Choices of the
model's own in it: the shape of the I2C clock (log 26), data out with select held low through
a release of RST (log 27), the slots of a frame by base ticks and the end of a drive that
fails (log 31). -/
def Obligations.OutputPinsFollowTheState : Prop :=
  ∀ s : State,
    let alerts := s.seq.mode = .unconfigured ∨ s.loaded = true ∧ s.cur.alertPending = true
    let mutes := s.seq.mode = .unconfigured ∨ s.loaded = true ∧ s.settings.roles.panel = true
    let dims := s.loaded = true ∧ s.settings.roles.backlight = true
    let active := (s.seq.mode = .on ∨ s.seq.mode = .riding) ∧ s.dim.active = true
    ((s.lgood = true ↔
      (s.seq.mode = .on ∨ s.seq.mode = .riding) ∧
        ∀ i, (s.entry i).present = true → (s.rail i).state ≠ .shed →
          (s.rail i).state = .good) ∧
      (s.seq.mode = .loading ∨ s.seq.mode = .silent ∨ s.seq.mode = .unconfigured →
        s.lgoodPin = .highImpedance) ∧
      (s.loaded = true → s.lgood = true → s.lgoodPin = .high) ∧
      (s.loaded = true → s.lgood = false → s.lgoodPin = .low)) ∧
    (∀ i : Fin 8,
      let e := s.entry i
      let r := s.rail i
      (s.loaded = false ∨ e.present = false → s.enPin i = .highImpedance) ∧
        (s.loaded = true → e.present = true →
          (r.applied = e.activeLow → s.enPin i = .low) ∧
            (r.applied ≠ e.activeLow →
              (e.drive = .pushPull → s.enPin i = .high) ∧
                (e.drive = .openDrain → s.enPin i = .highImpedance) ∧
                (e.drive = .openDrainBoost →
                  s.enPin i = if r.boost = none then .highImpedance else .high))) ∧
        (∀ level, r.applied ≠ level →
          r.applyEnable e level =
            { r with
              applied := level
              boost := if e.drive = .openDrainBoost then some 1 else r.boost
              enableClock := if level then 0 else r.enableClock }) ∧
        r.applyEnable e r.applied = r) ∧
    (∀ k : Fin 4,
      let asked :=
        ∃ i, (s.entry i).present = true ∧ (s.entry i).discharge = some k ∧
          (s.rail i).dischargeRequest = true
      (s.loaded = false → s.disPin k = .highImpedance) ∧
        (s.loaded = true → asked → s.disPin k = .high) ∧
        (s.loaded = true → ¬asked → s.disPin k = .low)) ∧
    (s.seq.mode = .on → s.readyPin = .high) ∧
    (s.seq.mode = .loading ∨ s.seq.mode = .silent → s.readyPin = .highImpedance) ∧
    (s.seq.mode ≠ .on → s.seq.mode ≠ .loading → s.seq.mode ≠ .silent → s.readyPin = .low) ∧
    (alerts → s.alertPin = .low) ∧ (¬alerts → s.alertPin = .highImpedance) ∧
    (mutes → s.mutePin = if s.mute then .high else .low) ∧
    (¬mutes → s.mutePin = .highImpedance) ∧
    (dims → active → s.dimOutPin = if s.settings.dimActiveLow then .low else .high) ∧
    (dims → ¬active → s.dimOutPin = if s.settings.dimActiveLow then .high else .low) ∧
    (¬dims → s.dimOutPin = .highImpedance) ∧
    s.holdPin = (if s.line.claimed then .low else .highImpedance) ∧
    (s.notices.breakDrive ≠ none → s.dataPin = .low) ∧
    (s.notices.breakDrive = none →
      ((∀ f, s.notices.link ≠ .frame f) → s.dataPin = .highImpedance) ∧
        ∀ f, s.notices.link = .frame f →
          let k := s.notices.drive.ticks / 8
          let o := s.notices.drive.ticks % 8
          let drives : Nat → Pin := fun us => if o < us then .low else .highImpedance
          (k ≠ 32 → ∀ us, s.notices.drive.micros[k]? = some us → s.dataPin = drives us) ∧
            (k ≠ 32 → s.notices.drive.micros[k]? = none → s.dataPin = .highImpedance) ∧
            (k = 32 →
              (f.sending = true ∨ f.received = true ∧ f.checkMatches = true →
                s.dataPin = drives 2) ∧
              (f.sending = false → f.received = true → f.checkMatches = false →
                s.dataPin = drives 6) ∧
              (f.sending = false → f.received = false → s.dataPin = .highImpedance))) ∧
    (∀ g, s.notices.inFlight = some g →
      s.offeredSlots =
        some (Notice.mk g.kind s.settings.number g.notice.arg1 g.notice.arg2).slots) ∧
    (∀ f, s.notices.link = .frame f →
      (f.received = false → s.objectionBit = none) ∧
        (f.received = true → f.sending = false → s.objectionBit = some f.checkMatches) ∧
        (f.received = true → f.sending = true → s.objectionBit = some true)) ∧
    ((∀ f, s.notices.link ≠ .frame f) → s.objectionBit = none) ∧
    (s.readsImage = false → s.sclPin = .highImpedance ∧ s.sdaPin = .highImpedance) ∧
    s.sclPin ≠ .high ∧ s.sdaPin ≠ .high ∧
    (s.readsImage = true →
      let t := s.loader.busTicks
      (t < 90 →
        s.sdaPin = .highImpedance ∧ s.sclPin = if t % 10 < 5 then .low else .highImpedance) ∧
        (95 ≤ t → t < 110 →
          s.sclPin = .highImpedance ∧ s.sdaPin = if t < 100 then .low else .highImpedance) ∧
        (110 ≤ t → t < 115 → s.sclPin = .highImpedance ∧ s.sdaPin = .low)) ∧
    (s.port = .idle → s.dataOutPin = .highImpedance) ∧
    (∀ bits, s.port = .command bits → s.dataOutPin = .low) ∧
    (∀ r, s.port = .reply r → s.dataOutPin = if r.out then .high else .low)

/-! ### Invariants -/

/-- Whatever step the station takes, the link state and the phase number stay those of its mode
(R54, R65, R85). -/
def Obligations.EveryStepKeepsThePhaseLegal : Prop :=
  ∀ s t : State, s.phaseLegal → step s = .next t → t.phaseLegal

/-- Whatever step the station takes, every rail's record agrees with its state, and a rail that is
not present is OFF (R2, R4, R5, R40). -/
def Obligations.EveryStepKeepsTheRailsCoherent : Prop :=
  ∀ s t : State, s.railsCoherent → s.absentRailsOff → step s = .next t →
    t.railsCoherent ∧ t.absentRailsOff

/-- Whatever step the station takes, HOLD is claimed only in a claiming mode (R49, R50), the zero
ceiling report is true exactly at a ceiling of 0 (R153), and no free line is left with a
notice to send (R66). -/
def Obligations.EveryStepKeepsClaimsAndReport : Prop :=
  (∀ s t : State, s.claimsOnlyInClaimingModes → s.reportMatchesCeiling → step s = .next t →
    t.claimsOnlyInClaimingModes ∧ t.reportMatchesCeiling) ∧
  (∀ s t : State, s.sendsWhenFree → step s = .next t → t.sendsWhenFree)

/-- Whatever step the station takes, the attempt count and the resend counts keep their bounds
(R73, R100), and every filter stays one that samples can make (R25). -/
def Obligations.EveryStepKeepsTheCountsBounded : Prop :=
  ∀ s t : State, s.attemptsBounded → s.resendsBounded → s.filtersSound → step s = .next t →
    t.attemptsBounded ∧ t.resendsBounded ∧ t.filtersSound

/-- Whatever step the station takes, the roster keeps one entry for each number in order, with the
station's own from the end of loading on (R93). -/
def Obligations.EveryStepKeepsTheRosterOrdered : Prop :=
  ∀ s t : State, s.rosterOrdered → step s = .next t → t.rosterOrdered

/-- The state after reset has every invariant. -/
def Obligations.ResetHasTheInvariants : Prop :=
  State.reset.phaseLegal ∧ State.reset.railsCoherent ∧ State.reset.absentRailsOff ∧
    State.reset.claimsOnlyInClaimingModes ∧ State.reset.reportMatchesCeiling ∧
    State.reset.attemptsBounded ∧ State.reset.resendsBounded ∧ State.reset.filtersSound ∧
    State.reset.rosterOrdered ∧ State.reset.sendsWhenFree
end

