-- ==== Sys2Proof/Laws/State.lean ====
section
/-! SUPPORT. For every update of the state that is one record update: one lemma for each component it leaves alone, true by rfl. -/

namespace Sys2Proof.Machine

@[simp] theorem State.raiseAlert_settings (s : State) : (s.raiseAlert).settings = s.settings := rfl
@[simp] theorem State.raiseAlert_table (s : State) : (s.raiseAlert).table = s.table := rfl
@[simp] theorem State.raiseAlert_rails (s : State) : (s.raiseAlert).rails = s.rails := rfl
@[simp] theorem State.raiseAlert_ctl (s : State) : (s.raiseAlert).ctl = s.ctl := rfl
@[simp] theorem State.raiseAlert_front (s : State) : (s.raiseAlert).front = s.front := rfl
@[simp] theorem State.raiseAlert_timers (s : State) : (s.raiseAlert).timers = s.timers := rfl
@[simp] theorem State.raiseAlert_holdUp (s : State) : (s.raiseAlert).holdUp = s.holdUp := rfl
@[simp] theorem State.raiseAlert_line (s : State) : (s.raiseAlert).line = s.line := rfl
@[simp] theorem State.raiseAlert_notices (s : State) : (s.raiseAlert).notices = s.notices := rfl
@[simp] theorem State.raiseAlert_seq (s : State) : (s.raiseAlert).seq = s.seq := rfl
@[simp] theorem State.raiseAlert_last (s : State) : (s.raiseAlert).last = s.last := rfl
@[simp] theorem State.raiseAlert_mute (s : State) : (s.raiseAlert).mute = s.mute := rfl
@[simp] theorem State.raiseAlert_dim (s : State) : (s.raiseAlert).dim = s.dim := rfl
@[simp] theorem State.raiseAlert_port (s : State) : (s.raiseAlert).port = s.port := rfl
@[simp] theorem State.raiseAlert_loader (s : State) : (s.raiseAlert).loader = s.loader := rfl
@[simp] theorem State.raiseAlert_freeIndex (s : State) : (s.raiseAlert).freeIndex = s.freeIndex := rfl
@[simp] theorem State.raiseAlert_pending (s : State) : (s.raiseAlert).pending = s.pending := rfl

@[simp] theorem State.countLaterFault_settings (s : State) : (s.countLaterFault).settings = s.settings := rfl
@[simp] theorem State.countLaterFault_table (s : State) : (s.countLaterFault).table = s.table := rfl
@[simp] theorem State.countLaterFault_rails (s : State) : (s.countLaterFault).rails = s.rails := rfl
@[simp] theorem State.countLaterFault_ctl (s : State) : (s.countLaterFault).ctl = s.ctl := rfl
@[simp] theorem State.countLaterFault_front (s : State) : (s.countLaterFault).front = s.front := rfl
@[simp] theorem State.countLaterFault_timers (s : State) : (s.countLaterFault).timers = s.timers := rfl
@[simp] theorem State.countLaterFault_holdUp (s : State) : (s.countLaterFault).holdUp = s.holdUp := rfl
@[simp] theorem State.countLaterFault_line (s : State) : (s.countLaterFault).line = s.line := rfl
@[simp] theorem State.countLaterFault_notices (s : State) : (s.countLaterFault).notices = s.notices := rfl
@[simp] theorem State.countLaterFault_seq (s : State) : (s.countLaterFault).seq = s.seq := rfl
@[simp] theorem State.countLaterFault_last (s : State) : (s.countLaterFault).last = s.last := rfl
@[simp] theorem State.countLaterFault_mute (s : State) : (s.countLaterFault).mute = s.mute := rfl
@[simp] theorem State.countLaterFault_dim (s : State) : (s.countLaterFault).dim = s.dim := rfl
@[simp] theorem State.countLaterFault_port (s : State) : (s.countLaterFault).port = s.port := rfl
@[simp] theorem State.countLaterFault_loader (s : State) : (s.countLaterFault).loader = s.loader := rfl
@[simp] theorem State.countLaterFault_freeIndex (s : State) : (s.countLaterFault).freeIndex = s.freeIndex := rfl
@[simp] theorem State.countLaterFault_pending (s : State) : (s.countLaterFault).pending = s.pending := rfl

@[simp] theorem State.countSag_settings (s : State) : (s.countSag).settings = s.settings := rfl
@[simp] theorem State.countSag_table (s : State) : (s.countSag).table = s.table := rfl
@[simp] theorem State.countSag_rails (s : State) : (s.countSag).rails = s.rails := rfl
@[simp] theorem State.countSag_ctl (s : State) : (s.countSag).ctl = s.ctl := rfl
@[simp] theorem State.countSag_front (s : State) : (s.countSag).front = s.front := rfl
@[simp] theorem State.countSag_timers (s : State) : (s.countSag).timers = s.timers := rfl
@[simp] theorem State.countSag_holdUp (s : State) : (s.countSag).holdUp = s.holdUp := rfl
@[simp] theorem State.countSag_line (s : State) : (s.countSag).line = s.line := rfl
@[simp] theorem State.countSag_notices (s : State) : (s.countSag).notices = s.notices := rfl
@[simp] theorem State.countSag_seq (s : State) : (s.countSag).seq = s.seq := rfl
@[simp] theorem State.countSag_last (s : State) : (s.countSag).last = s.last := rfl
@[simp] theorem State.countSag_mute (s : State) : (s.countSag).mute = s.mute := rfl
@[simp] theorem State.countSag_dim (s : State) : (s.countSag).dim = s.dim := rfl
@[simp] theorem State.countSag_port (s : State) : (s.countSag).port = s.port := rfl
@[simp] theorem State.countSag_loader (s : State) : (s.countSag).loader = s.loader := rfl
@[simp] theorem State.countSag_freeIndex (s : State) : (s.countSag).freeIndex = s.freeIndex := rfl
@[simp] theorem State.countSag_pending (s : State) : (s.countSag).pending = s.pending := rfl

@[simp] theorem State.countObjection_settings (s : State) : (s.countObjection).settings = s.settings := rfl
@[simp] theorem State.countObjection_table (s : State) : (s.countObjection).table = s.table := rfl
@[simp] theorem State.countObjection_rails (s : State) : (s.countObjection).rails = s.rails := rfl
@[simp] theorem State.countObjection_ctl (s : State) : (s.countObjection).ctl = s.ctl := rfl
@[simp] theorem State.countObjection_front (s : State) : (s.countObjection).front = s.front := rfl
@[simp] theorem State.countObjection_timers (s : State) : (s.countObjection).timers = s.timers := rfl
@[simp] theorem State.countObjection_holdUp (s : State) : (s.countObjection).holdUp = s.holdUp := rfl
@[simp] theorem State.countObjection_line (s : State) : (s.countObjection).line = s.line := rfl
@[simp] theorem State.countObjection_notices (s : State) : (s.countObjection).notices = s.notices := rfl
@[simp] theorem State.countObjection_seq (s : State) : (s.countObjection).seq = s.seq := rfl
@[simp] theorem State.countObjection_last (s : State) : (s.countObjection).last = s.last := rfl
@[simp] theorem State.countObjection_mute (s : State) : (s.countObjection).mute = s.mute := rfl
@[simp] theorem State.countObjection_dim (s : State) : (s.countObjection).dim = s.dim := rfl
@[simp] theorem State.countObjection_port (s : State) : (s.countObjection).port = s.port := rfl
@[simp] theorem State.countObjection_loader (s : State) : (s.countObjection).loader = s.loader := rfl
@[simp] theorem State.countObjection_freeIndex (s : State) : (s.countObjection).freeIndex = s.freeIndex := rfl
@[simp] theorem State.countObjection_pending (s : State) : (s.countObjection).pending = s.pending := rfl

@[simp] theorem State.countDrop_settings (s : State) : (s.countDrop).settings = s.settings := rfl
@[simp] theorem State.countDrop_table (s : State) : (s.countDrop).table = s.table := rfl
@[simp] theorem State.countDrop_rails (s : State) : (s.countDrop).rails = s.rails := rfl
@[simp] theorem State.countDrop_ctl (s : State) : (s.countDrop).ctl = s.ctl := rfl
@[simp] theorem State.countDrop_front (s : State) : (s.countDrop).front = s.front := rfl
@[simp] theorem State.countDrop_timers (s : State) : (s.countDrop).timers = s.timers := rfl
@[simp] theorem State.countDrop_holdUp (s : State) : (s.countDrop).holdUp = s.holdUp := rfl
@[simp] theorem State.countDrop_line (s : State) : (s.countDrop).line = s.line := rfl
@[simp] theorem State.countDrop_notices (s : State) : (s.countDrop).notices = s.notices := rfl
@[simp] theorem State.countDrop_seq (s : State) : (s.countDrop).seq = s.seq := rfl
@[simp] theorem State.countDrop_last (s : State) : (s.countDrop).last = s.last := rfl
@[simp] theorem State.countDrop_mute (s : State) : (s.countDrop).mute = s.mute := rfl
@[simp] theorem State.countDrop_dim (s : State) : (s.countDrop).dim = s.dim := rfl
@[simp] theorem State.countDrop_port (s : State) : (s.countDrop).port = s.port := rfl
@[simp] theorem State.countDrop_loader (s : State) : (s.countDrop).loader = s.loader := rfl
@[simp] theorem State.countDrop_freeIndex (s : State) : (s.countDrop).freeIndex = s.freeIndex := rfl
@[simp] theorem State.countDrop_pending (s : State) : (s.countDrop).pending = s.pending := rfl

@[simp] theorem State.countForeign_settings (s : State) : (s.countForeign).settings = s.settings := rfl
@[simp] theorem State.countForeign_table (s : State) : (s.countForeign).table = s.table := rfl
@[simp] theorem State.countForeign_rails (s : State) : (s.countForeign).rails = s.rails := rfl
@[simp] theorem State.countForeign_ctl (s : State) : (s.countForeign).ctl = s.ctl := rfl
@[simp] theorem State.countForeign_front (s : State) : (s.countForeign).front = s.front := rfl
@[simp] theorem State.countForeign_timers (s : State) : (s.countForeign).timers = s.timers := rfl
@[simp] theorem State.countForeign_holdUp (s : State) : (s.countForeign).holdUp = s.holdUp := rfl
@[simp] theorem State.countForeign_line (s : State) : (s.countForeign).line = s.line := rfl
@[simp] theorem State.countForeign_notices (s : State) : (s.countForeign).notices = s.notices := rfl
@[simp] theorem State.countForeign_seq (s : State) : (s.countForeign).seq = s.seq := rfl
@[simp] theorem State.countForeign_last (s : State) : (s.countForeign).last = s.last := rfl
@[simp] theorem State.countForeign_mute (s : State) : (s.countForeign).mute = s.mute := rfl
@[simp] theorem State.countForeign_dim (s : State) : (s.countForeign).dim = s.dim := rfl
@[simp] theorem State.countForeign_port (s : State) : (s.countForeign).port = s.port := rfl
@[simp] theorem State.countForeign_loader (s : State) : (s.countForeign).loader = s.loader := rfl
@[simp] theorem State.countForeign_freeIndex (s : State) : (s.countForeign).freeIndex = s.freeIndex := rfl
@[simp] theorem State.countForeign_pending (s : State) : (s.countForeign).pending = s.pending := rfl

@[simp] theorem State.countBreak_settings (s : State) : (s.countBreak).settings = s.settings := rfl
@[simp] theorem State.countBreak_table (s : State) : (s.countBreak).table = s.table := rfl
@[simp] theorem State.countBreak_rails (s : State) : (s.countBreak).rails = s.rails := rfl
@[simp] theorem State.countBreak_ctl (s : State) : (s.countBreak).ctl = s.ctl := rfl
@[simp] theorem State.countBreak_front (s : State) : (s.countBreak).front = s.front := rfl
@[simp] theorem State.countBreak_timers (s : State) : (s.countBreak).timers = s.timers := rfl
@[simp] theorem State.countBreak_holdUp (s : State) : (s.countBreak).holdUp = s.holdUp := rfl
@[simp] theorem State.countBreak_line (s : State) : (s.countBreak).line = s.line := rfl
@[simp] theorem State.countBreak_notices (s : State) : (s.countBreak).notices = s.notices := rfl
@[simp] theorem State.countBreak_seq (s : State) : (s.countBreak).seq = s.seq := rfl
@[simp] theorem State.countBreak_last (s : State) : (s.countBreak).last = s.last := rfl
@[simp] theorem State.countBreak_mute (s : State) : (s.countBreak).mute = s.mute := rfl
@[simp] theorem State.countBreak_dim (s : State) : (s.countBreak).dim = s.dim := rfl
@[simp] theorem State.countBreak_port (s : State) : (s.countBreak).port = s.port := rfl
@[simp] theorem State.countBreak_loader (s : State) : (s.countBreak).loader = s.loader := rfl
@[simp] theorem State.countBreak_freeIndex (s : State) : (s.countBreak).freeIndex = s.freeIndex := rfl
@[simp] theorem State.countBreak_pending (s : State) : (s.countBreak).pending = s.pending := rfl

@[simp] theorem State.countBlankMiss_settings (s : State) : (s.countBlankMiss).settings = s.settings := rfl
@[simp] theorem State.countBlankMiss_table (s : State) : (s.countBlankMiss).table = s.table := rfl
@[simp] theorem State.countBlankMiss_rails (s : State) : (s.countBlankMiss).rails = s.rails := rfl
@[simp] theorem State.countBlankMiss_ctl (s : State) : (s.countBlankMiss).ctl = s.ctl := rfl
@[simp] theorem State.countBlankMiss_front (s : State) : (s.countBlankMiss).front = s.front := rfl
@[simp] theorem State.countBlankMiss_timers (s : State) : (s.countBlankMiss).timers = s.timers := rfl
@[simp] theorem State.countBlankMiss_holdUp (s : State) : (s.countBlankMiss).holdUp = s.holdUp := rfl
@[simp] theorem State.countBlankMiss_line (s : State) : (s.countBlankMiss).line = s.line := rfl
@[simp] theorem State.countBlankMiss_notices (s : State) : (s.countBlankMiss).notices = s.notices := rfl
@[simp] theorem State.countBlankMiss_seq (s : State) : (s.countBlankMiss).seq = s.seq := rfl
@[simp] theorem State.countBlankMiss_last (s : State) : (s.countBlankMiss).last = s.last := rfl
@[simp] theorem State.countBlankMiss_mute (s : State) : (s.countBlankMiss).mute = s.mute := rfl
@[simp] theorem State.countBlankMiss_dim (s : State) : (s.countBlankMiss).dim = s.dim := rfl
@[simp] theorem State.countBlankMiss_port (s : State) : (s.countBlankMiss).port = s.port := rfl
@[simp] theorem State.countBlankMiss_loader (s : State) : (s.countBlankMiss).loader = s.loader := rfl
@[simp] theorem State.countBlankMiss_freeIndex (s : State) : (s.countBlankMiss).freeIndex = s.freeIndex := rfl
@[simp] theorem State.countBlankMiss_pending (s : State) : (s.countBlankMiss).pending = s.pending := rfl

@[simp] theorem State.countDisagreement_settings (s : State) : (s.countDisagreement).settings = s.settings := rfl
@[simp] theorem State.countDisagreement_table (s : State) : (s.countDisagreement).table = s.table := rfl
@[simp] theorem State.countDisagreement_rails (s : State) : (s.countDisagreement).rails = s.rails := rfl
@[simp] theorem State.countDisagreement_ctl (s : State) : (s.countDisagreement).ctl = s.ctl := rfl
@[simp] theorem State.countDisagreement_front (s : State) : (s.countDisagreement).front = s.front := rfl
@[simp] theorem State.countDisagreement_timers (s : State) : (s.countDisagreement).timers = s.timers := rfl
@[simp] theorem State.countDisagreement_holdUp (s : State) : (s.countDisagreement).holdUp = s.holdUp := rfl
@[simp] theorem State.countDisagreement_line (s : State) : (s.countDisagreement).line = s.line := rfl
@[simp] theorem State.countDisagreement_notices (s : State) : (s.countDisagreement).notices = s.notices := rfl
@[simp] theorem State.countDisagreement_seq (s : State) : (s.countDisagreement).seq = s.seq := rfl
@[simp] theorem State.countDisagreement_last (s : State) : (s.countDisagreement).last = s.last := rfl
@[simp] theorem State.countDisagreement_mute (s : State) : (s.countDisagreement).mute = s.mute := rfl
@[simp] theorem State.countDisagreement_dim (s : State) : (s.countDisagreement).dim = s.dim := rfl
@[simp] theorem State.countDisagreement_port (s : State) : (s.countDisagreement).port = s.port := rfl
@[simp] theorem State.countDisagreement_loader (s : State) : (s.countDisagreement).loader = s.loader := rfl
@[simp] theorem State.countDisagreement_freeIndex (s : State) : (s.countDisagreement).freeIndex = s.freeIndex := rfl
@[simp] theorem State.countDisagreement_pending (s : State) : (s.countDisagreement).pending = s.pending := rfl

@[simp] theorem State.leadConflict_settings (s : State) : (s.leadConflict).settings = s.settings := rfl
@[simp] theorem State.leadConflict_table (s : State) : (s.leadConflict).table = s.table := rfl
@[simp] theorem State.leadConflict_rails (s : State) : (s.leadConflict).rails = s.rails := rfl
@[simp] theorem State.leadConflict_ctl (s : State) : (s.leadConflict).ctl = s.ctl := rfl
@[simp] theorem State.leadConflict_front (s : State) : (s.leadConflict).front = s.front := rfl
@[simp] theorem State.leadConflict_timers (s : State) : (s.leadConflict).timers = s.timers := rfl
@[simp] theorem State.leadConflict_holdUp (s : State) : (s.leadConflict).holdUp = s.holdUp := rfl
@[simp] theorem State.leadConflict_line (s : State) : (s.leadConflict).line = s.line := rfl
@[simp] theorem State.leadConflict_notices (s : State) : (s.leadConflict).notices = s.notices := rfl
@[simp] theorem State.leadConflict_seq (s : State) : (s.leadConflict).seq = s.seq := rfl
@[simp] theorem State.leadConflict_last (s : State) : (s.leadConflict).last = s.last := rfl
@[simp] theorem State.leadConflict_mute (s : State) : (s.leadConflict).mute = s.mute := rfl
@[simp] theorem State.leadConflict_dim (s : State) : (s.leadConflict).dim = s.dim := rfl
@[simp] theorem State.leadConflict_port (s : State) : (s.leadConflict).port = s.port := rfl
@[simp] theorem State.leadConflict_loader (s : State) : (s.leadConflict).loader = s.loader := rfl
@[simp] theorem State.leadConflict_freeIndex (s : State) : (s.leadConflict).freeIndex = s.freeIndex := rfl
@[simp] theorem State.leadConflict_pending (s : State) : (s.leadConflict).pending = s.pending := rfl

@[simp] theorem State.setOutcome_settings (s : State) (o : RunOutcome) : (s.setOutcome o).settings = s.settings := rfl
@[simp] theorem State.setOutcome_table (s : State) (o : RunOutcome) : (s.setOutcome o).table = s.table := rfl
@[simp] theorem State.setOutcome_rails (s : State) (o : RunOutcome) : (s.setOutcome o).rails = s.rails := rfl
@[simp] theorem State.setOutcome_ctl (s : State) (o : RunOutcome) : (s.setOutcome o).ctl = s.ctl := rfl
@[simp] theorem State.setOutcome_front (s : State) (o : RunOutcome) : (s.setOutcome o).front = s.front := rfl
@[simp] theorem State.setOutcome_timers (s : State) (o : RunOutcome) : (s.setOutcome o).timers = s.timers := rfl
@[simp] theorem State.setOutcome_holdUp (s : State) (o : RunOutcome) : (s.setOutcome o).holdUp = s.holdUp := rfl
@[simp] theorem State.setOutcome_line (s : State) (o : RunOutcome) : (s.setOutcome o).line = s.line := rfl
@[simp] theorem State.setOutcome_notices (s : State) (o : RunOutcome) : (s.setOutcome o).notices = s.notices := rfl
@[simp] theorem State.setOutcome_seq (s : State) (o : RunOutcome) : (s.setOutcome o).seq = s.seq := rfl
@[simp] theorem State.setOutcome_last (s : State) (o : RunOutcome) : (s.setOutcome o).last = s.last := rfl
@[simp] theorem State.setOutcome_mute (s : State) (o : RunOutcome) : (s.setOutcome o).mute = s.mute := rfl
@[simp] theorem State.setOutcome_dim (s : State) (o : RunOutcome) : (s.setOutcome o).dim = s.dim := rfl
@[simp] theorem State.setOutcome_port (s : State) (o : RunOutcome) : (s.setOutcome o).port = s.port := rfl
@[simp] theorem State.setOutcome_loader (s : State) (o : RunOutcome) : (s.setOutcome o).loader = s.loader := rfl
@[simp] theorem State.setOutcome_freeIndex (s : State) (o : RunOutcome) : (s.setOutcome o).freeIndex = s.freeIndex := rfl
@[simp] theorem State.setOutcome_pending (s : State) (o : RunOutcome) : (s.setOutcome o).pending = s.pending := rfl

@[simp] theorem State.feed_settings (s : State) (b : Byte) : (s.feed b).settings = s.settings := rfl
@[simp] theorem State.feed_table (s : State) (b : Byte) : (s.feed b).table = s.table := rfl
@[simp] theorem State.feed_rails (s : State) (b : Byte) : (s.feed b).rails = s.rails := rfl
@[simp] theorem State.feed_ctl (s : State) (b : Byte) : (s.feed b).ctl = s.ctl := rfl
@[simp] theorem State.feed_front (s : State) (b : Byte) : (s.feed b).front = s.front := rfl
@[simp] theorem State.feed_timers (s : State) (b : Byte) : (s.feed b).timers = s.timers := rfl
@[simp] theorem State.feed_holdUp (s : State) (b : Byte) : (s.feed b).holdUp = s.holdUp := rfl
@[simp] theorem State.feed_line (s : State) (b : Byte) : (s.feed b).line = s.line := rfl
@[simp] theorem State.feed_notices (s : State) (b : Byte) : (s.feed b).notices = s.notices := rfl
@[simp] theorem State.feed_cur (s : State) (b : Byte) : (s.feed b).cur = s.cur := rfl
@[simp] theorem State.feed_last (s : State) (b : Byte) : (s.feed b).last = s.last := rfl
@[simp] theorem State.feed_mute (s : State) (b : Byte) : (s.feed b).mute = s.mute := rfl
@[simp] theorem State.feed_dim (s : State) (b : Byte) : (s.feed b).dim = s.dim := rfl
@[simp] theorem State.feed_port (s : State) (b : Byte) : (s.feed b).port = s.port := rfl
@[simp] theorem State.feed_loader (s : State) (b : Byte) : (s.feed b).loader = s.loader := rfl
@[simp] theorem State.feed_freeIndex (s : State) (b : Byte) : (s.feed b).freeIndex = s.freeIndex := rfl
@[simp] theorem State.feed_pending (s : State) (b : Byte) : (s.feed b).pending = s.pending := rfl

@[simp] theorem State.setRail_settings (s : State) (i : Fin 8) (r : Rail) : (s.setRail i r).settings = s.settings := rfl
@[simp] theorem State.setRail_table (s : State) (i : Fin 8) (r : Rail) : (s.setRail i r).table = s.table := rfl
@[simp] theorem State.setRail_ctl (s : State) (i : Fin 8) (r : Rail) : (s.setRail i r).ctl = s.ctl := rfl
@[simp] theorem State.setRail_front (s : State) (i : Fin 8) (r : Rail) : (s.setRail i r).front = s.front := rfl
@[simp] theorem State.setRail_timers (s : State) (i : Fin 8) (r : Rail) : (s.setRail i r).timers = s.timers := rfl
@[simp] theorem State.setRail_holdUp (s : State) (i : Fin 8) (r : Rail) : (s.setRail i r).holdUp = s.holdUp := rfl
@[simp] theorem State.setRail_line (s : State) (i : Fin 8) (r : Rail) : (s.setRail i r).line = s.line := rfl
@[simp] theorem State.setRail_notices (s : State) (i : Fin 8) (r : Rail) : (s.setRail i r).notices = s.notices := rfl
@[simp] theorem State.setRail_seq (s : State) (i : Fin 8) (r : Rail) : (s.setRail i r).seq = s.seq := rfl
@[simp] theorem State.setRail_cur (s : State) (i : Fin 8) (r : Rail) : (s.setRail i r).cur = s.cur := rfl
@[simp] theorem State.setRail_last (s : State) (i : Fin 8) (r : Rail) : (s.setRail i r).last = s.last := rfl
@[simp] theorem State.setRail_mute (s : State) (i : Fin 8) (r : Rail) : (s.setRail i r).mute = s.mute := rfl
@[simp] theorem State.setRail_dim (s : State) (i : Fin 8) (r : Rail) : (s.setRail i r).dim = s.dim := rfl
@[simp] theorem State.setRail_port (s : State) (i : Fin 8) (r : Rail) : (s.setRail i r).port = s.port := rfl
@[simp] theorem State.setRail_loader (s : State) (i : Fin 8) (r : Rail) : (s.setRail i r).loader = s.loader := rfl
@[simp] theorem State.setRail_freeIndex (s : State) (i : Fin 8) (r : Rail) : (s.setRail i r).freeIndex = s.freeIndex := rfl
@[simp] theorem State.setRail_pending (s : State) (i : Fin 8) (r : Rail) : (s.setRail i r).pending = s.pending := rfl

@[simp] theorem State.modifyRail_settings (s : State) (i : Fin 8) (f : Rail → Rail) : (s.modifyRail i f).settings = s.settings := rfl
@[simp] theorem State.modifyRail_table (s : State) (i : Fin 8) (f : Rail → Rail) : (s.modifyRail i f).table = s.table := rfl
@[simp] theorem State.modifyRail_ctl (s : State) (i : Fin 8) (f : Rail → Rail) : (s.modifyRail i f).ctl = s.ctl := rfl
@[simp] theorem State.modifyRail_front (s : State) (i : Fin 8) (f : Rail → Rail) : (s.modifyRail i f).front = s.front := rfl
@[simp] theorem State.modifyRail_timers (s : State) (i : Fin 8) (f : Rail → Rail) : (s.modifyRail i f).timers = s.timers := rfl
@[simp] theorem State.modifyRail_holdUp (s : State) (i : Fin 8) (f : Rail → Rail) : (s.modifyRail i f).holdUp = s.holdUp := rfl
@[simp] theorem State.modifyRail_line (s : State) (i : Fin 8) (f : Rail → Rail) : (s.modifyRail i f).line = s.line := rfl
@[simp] theorem State.modifyRail_notices (s : State) (i : Fin 8) (f : Rail → Rail) : (s.modifyRail i f).notices = s.notices := rfl
@[simp] theorem State.modifyRail_seq (s : State) (i : Fin 8) (f : Rail → Rail) : (s.modifyRail i f).seq = s.seq := rfl
@[simp] theorem State.modifyRail_cur (s : State) (i : Fin 8) (f : Rail → Rail) : (s.modifyRail i f).cur = s.cur := rfl
@[simp] theorem State.modifyRail_last (s : State) (i : Fin 8) (f : Rail → Rail) : (s.modifyRail i f).last = s.last := rfl
@[simp] theorem State.modifyRail_mute (s : State) (i : Fin 8) (f : Rail → Rail) : (s.modifyRail i f).mute = s.mute := rfl
@[simp] theorem State.modifyRail_dim (s : State) (i : Fin 8) (f : Rail → Rail) : (s.modifyRail i f).dim = s.dim := rfl
@[simp] theorem State.modifyRail_port (s : State) (i : Fin 8) (f : Rail → Rail) : (s.modifyRail i f).port = s.port := rfl
@[simp] theorem State.modifyRail_loader (s : State) (i : Fin 8) (f : Rail → Rail) : (s.modifyRail i f).loader = s.loader := rfl
@[simp] theorem State.modifyRail_freeIndex (s : State) (i : Fin 8) (f : Rail → Rail) : (s.modifyRail i f).freeIndex = s.freeIndex := rfl
@[simp] theorem State.modifyRail_pending (s : State) (i : Fin 8) (f : Rail → Rail) : (s.modifyRail i f).pending = s.pending := rfl

@[simp] theorem State.setPending_settings (s : State) (k : Kind) (p : Option Pending) : (s.setPending k p).settings = s.settings := rfl
@[simp] theorem State.setPending_table (s : State) (k : Kind) (p : Option Pending) : (s.setPending k p).table = s.table := rfl
@[simp] theorem State.setPending_rails (s : State) (k : Kind) (p : Option Pending) : (s.setPending k p).rails = s.rails := rfl
@[simp] theorem State.setPending_ctl (s : State) (k : Kind) (p : Option Pending) : (s.setPending k p).ctl = s.ctl := rfl
@[simp] theorem State.setPending_front (s : State) (k : Kind) (p : Option Pending) : (s.setPending k p).front = s.front := rfl
@[simp] theorem State.setPending_timers (s : State) (k : Kind) (p : Option Pending) : (s.setPending k p).timers = s.timers := rfl
@[simp] theorem State.setPending_holdUp (s : State) (k : Kind) (p : Option Pending) : (s.setPending k p).holdUp = s.holdUp := rfl
@[simp] theorem State.setPending_line (s : State) (k : Kind) (p : Option Pending) : (s.setPending k p).line = s.line := rfl
@[simp] theorem State.setPending_seq (s : State) (k : Kind) (p : Option Pending) : (s.setPending k p).seq = s.seq := rfl
@[simp] theorem State.setPending_cur (s : State) (k : Kind) (p : Option Pending) : (s.setPending k p).cur = s.cur := rfl
@[simp] theorem State.setPending_last (s : State) (k : Kind) (p : Option Pending) : (s.setPending k p).last = s.last := rfl
@[simp] theorem State.setPending_mute (s : State) (k : Kind) (p : Option Pending) : (s.setPending k p).mute = s.mute := rfl
@[simp] theorem State.setPending_dim (s : State) (k : Kind) (p : Option Pending) : (s.setPending k p).dim = s.dim := rfl
@[simp] theorem State.setPending_port (s : State) (k : Kind) (p : Option Pending) : (s.setPending k p).port = s.port := rfl
@[simp] theorem State.setPending_loader (s : State) (k : Kind) (p : Option Pending) : (s.setPending k p).loader = s.loader := rfl
@[simp] theorem State.setPending_freeIndex (s : State) (k : Kind) (p : Option Pending) : (s.setPending k p).freeIndex = s.freeIndex := rfl
@[simp] theorem State.setPending_pending (s : State) (k : Kind) (p : Option Pending) : (s.setPending k p).pending = s.pending := rfl

@[simp] theorem State.modifyEntry_settings (s : State) (n : Nibble) (f : RosterEntry → RosterEntry) : (s.modifyEntry n f).settings = s.settings := rfl
@[simp] theorem State.modifyEntry_table (s : State) (n : Nibble) (f : RosterEntry → RosterEntry) : (s.modifyEntry n f).table = s.table := rfl
@[simp] theorem State.modifyEntry_rails (s : State) (n : Nibble) (f : RosterEntry → RosterEntry) : (s.modifyEntry n f).rails = s.rails := rfl
@[simp] theorem State.modifyEntry_ctl (s : State) (n : Nibble) (f : RosterEntry → RosterEntry) : (s.modifyEntry n f).ctl = s.ctl := rfl
@[simp] theorem State.modifyEntry_front (s : State) (n : Nibble) (f : RosterEntry → RosterEntry) : (s.modifyEntry n f).front = s.front := rfl
@[simp] theorem State.modifyEntry_timers (s : State) (n : Nibble) (f : RosterEntry → RosterEntry) : (s.modifyEntry n f).timers = s.timers := rfl
@[simp] theorem State.modifyEntry_holdUp (s : State) (n : Nibble) (f : RosterEntry → RosterEntry) : (s.modifyEntry n f).holdUp = s.holdUp := rfl
@[simp] theorem State.modifyEntry_line (s : State) (n : Nibble) (f : RosterEntry → RosterEntry) : (s.modifyEntry n f).line = s.line := rfl
@[simp] theorem State.modifyEntry_notices (s : State) (n : Nibble) (f : RosterEntry → RosterEntry) : (s.modifyEntry n f).notices = s.notices := rfl
@[simp] theorem State.modifyEntry_cur (s : State) (n : Nibble) (f : RosterEntry → RosterEntry) : (s.modifyEntry n f).cur = s.cur := rfl
@[simp] theorem State.modifyEntry_last (s : State) (n : Nibble) (f : RosterEntry → RosterEntry) : (s.modifyEntry n f).last = s.last := rfl
@[simp] theorem State.modifyEntry_mute (s : State) (n : Nibble) (f : RosterEntry → RosterEntry) : (s.modifyEntry n f).mute = s.mute := rfl
@[simp] theorem State.modifyEntry_dim (s : State) (n : Nibble) (f : RosterEntry → RosterEntry) : (s.modifyEntry n f).dim = s.dim := rfl
@[simp] theorem State.modifyEntry_port (s : State) (n : Nibble) (f : RosterEntry → RosterEntry) : (s.modifyEntry n f).port = s.port := rfl
@[simp] theorem State.modifyEntry_loader (s : State) (n : Nibble) (f : RosterEntry → RosterEntry) : (s.modifyEntry n f).loader = s.loader := rfl
@[simp] theorem State.modifyEntry_freeIndex (s : State) (n : Nibble) (f : RosterEntry → RosterEntry) : (s.modifyEntry n f).freeIndex = s.freeIndex := rfl
@[simp] theorem State.modifyEntry_pending (s : State) (n : Nibble) (f : RosterEntry → RosterEntry) : (s.modifyEntry n f).pending = s.pending := rfl

@[simp] theorem State.putEntry_settings (s : State) (e : RosterEntry) : (s.putEntry e).settings = s.settings := rfl
@[simp] theorem State.putEntry_table (s : State) (e : RosterEntry) : (s.putEntry e).table = s.table := rfl
@[simp] theorem State.putEntry_rails (s : State) (e : RosterEntry) : (s.putEntry e).rails = s.rails := rfl
@[simp] theorem State.putEntry_ctl (s : State) (e : RosterEntry) : (s.putEntry e).ctl = s.ctl := rfl
@[simp] theorem State.putEntry_front (s : State) (e : RosterEntry) : (s.putEntry e).front = s.front := rfl
@[simp] theorem State.putEntry_timers (s : State) (e : RosterEntry) : (s.putEntry e).timers = s.timers := rfl
@[simp] theorem State.putEntry_holdUp (s : State) (e : RosterEntry) : (s.putEntry e).holdUp = s.holdUp := rfl
@[simp] theorem State.putEntry_line (s : State) (e : RosterEntry) : (s.putEntry e).line = s.line := rfl
@[simp] theorem State.putEntry_notices (s : State) (e : RosterEntry) : (s.putEntry e).notices = s.notices := rfl
@[simp] theorem State.putEntry_cur (s : State) (e : RosterEntry) : (s.putEntry e).cur = s.cur := rfl
@[simp] theorem State.putEntry_last (s : State) (e : RosterEntry) : (s.putEntry e).last = s.last := rfl
@[simp] theorem State.putEntry_mute (s : State) (e : RosterEntry) : (s.putEntry e).mute = s.mute := rfl
@[simp] theorem State.putEntry_dim (s : State) (e : RosterEntry) : (s.putEntry e).dim = s.dim := rfl
@[simp] theorem State.putEntry_port (s : State) (e : RosterEntry) : (s.putEntry e).port = s.port := rfl
@[simp] theorem State.putEntry_loader (s : State) (e : RosterEntry) : (s.putEntry e).loader = s.loader := rfl
@[simp] theorem State.putEntry_freeIndex (s : State) (e : RosterEntry) : (s.putEntry e).freeIndex = s.freeIndex := rfl
@[simp] theorem State.putEntry_pending (s : State) (e : RosterEntry) : (s.putEntry e).pending = s.pending := rfl

@[simp] theorem State.holdUpStop_settings (s : State) : (s.holdUpStop).settings = s.settings := rfl
@[simp] theorem State.holdUpStop_table (s : State) : (s.holdUpStop).table = s.table := rfl
@[simp] theorem State.holdUpStop_rails (s : State) : (s.holdUpStop).rails = s.rails := rfl
@[simp] theorem State.holdUpStop_ctl (s : State) : (s.holdUpStop).ctl = s.ctl := rfl
@[simp] theorem State.holdUpStop_front (s : State) : (s.holdUpStop).front = s.front := rfl
@[simp] theorem State.holdUpStop_timers (s : State) : (s.holdUpStop).timers = s.timers := rfl
@[simp] theorem State.holdUpStop_line (s : State) : (s.holdUpStop).line = s.line := rfl
@[simp] theorem State.holdUpStop_notices (s : State) : (s.holdUpStop).notices = s.notices := rfl
@[simp] theorem State.holdUpStop_cur (s : State) : (s.holdUpStop).cur = s.cur := rfl
@[simp] theorem State.holdUpStop_last (s : State) : (s.holdUpStop).last = s.last := rfl
@[simp] theorem State.holdUpStop_mute (s : State) : (s.holdUpStop).mute = s.mute := rfl
@[simp] theorem State.holdUpStop_dim (s : State) : (s.holdUpStop).dim = s.dim := rfl
@[simp] theorem State.holdUpStop_port (s : State) : (s.holdUpStop).port = s.port := rfl
@[simp] theorem State.holdUpStop_loader (s : State) : (s.holdUpStop).loader = s.loader := rfl
@[simp] theorem State.holdUpStop_freeIndex (s : State) : (s.holdUpStop).freeIndex = s.freeIndex := rfl
@[simp] theorem State.holdUpStop_pending (s : State) : (s.holdUpStop).pending = s.pending := rfl

@[simp] theorem State.startPhase_settings (s : State) (x : PhaseSetting) : (s.startPhase x).settings = s.settings := rfl
@[simp] theorem State.startPhase_table (s : State) (x : PhaseSetting) : (s.startPhase x).table = s.table := rfl
@[simp] theorem State.startPhase_rails (s : State) (x : PhaseSetting) : (s.startPhase x).rails = s.rails := rfl
@[simp] theorem State.startPhase_ctl (s : State) (x : PhaseSetting) : (s.startPhase x).ctl = s.ctl := rfl
@[simp] theorem State.startPhase_front (s : State) (x : PhaseSetting) : (s.startPhase x).front = s.front := rfl
@[simp] theorem State.startPhase_holdUp (s : State) (x : PhaseSetting) : (s.startPhase x).holdUp = s.holdUp := rfl
@[simp] theorem State.startPhase_line (s : State) (x : PhaseSetting) : (s.startPhase x).line = s.line := rfl
@[simp] theorem State.startPhase_notices (s : State) (x : PhaseSetting) : (s.startPhase x).notices = s.notices := rfl
@[simp] theorem State.startPhase_seq (s : State) (x : PhaseSetting) : (s.startPhase x).seq = s.seq := rfl
@[simp] theorem State.startPhase_cur (s : State) (x : PhaseSetting) : (s.startPhase x).cur = s.cur := rfl
@[simp] theorem State.startPhase_last (s : State) (x : PhaseSetting) : (s.startPhase x).last = s.last := rfl
@[simp] theorem State.startPhase_mute (s : State) (x : PhaseSetting) : (s.startPhase x).mute = s.mute := rfl
@[simp] theorem State.startPhase_dim (s : State) (x : PhaseSetting) : (s.startPhase x).dim = s.dim := rfl
@[simp] theorem State.startPhase_port (s : State) (x : PhaseSetting) : (s.startPhase x).port = s.port := rfl
@[simp] theorem State.startPhase_loader (s : State) (x : PhaseSetting) : (s.startPhase x).loader = s.loader := rfl
@[simp] theorem State.startPhase_freeIndex (s : State) (x : PhaseSetting) : (s.startPhase x).freeIndex = s.freeIndex := rfl
@[simp] theorem State.startPhase_pending (s : State) (x : PhaseSetting) : (s.startPhase x).pending = s.pending := rfl

@[simp] theorem State.startRetry_settings (s : State) (x : RetrySetting) : (s.startRetry x).settings = s.settings := rfl
@[simp] theorem State.startRetry_table (s : State) (x : RetrySetting) : (s.startRetry x).table = s.table := rfl
@[simp] theorem State.startRetry_rails (s : State) (x : RetrySetting) : (s.startRetry x).rails = s.rails := rfl
@[simp] theorem State.startRetry_ctl (s : State) (x : RetrySetting) : (s.startRetry x).ctl = s.ctl := rfl
@[simp] theorem State.startRetry_front (s : State) (x : RetrySetting) : (s.startRetry x).front = s.front := rfl
@[simp] theorem State.startRetry_holdUp (s : State) (x : RetrySetting) : (s.startRetry x).holdUp = s.holdUp := rfl
@[simp] theorem State.startRetry_line (s : State) (x : RetrySetting) : (s.startRetry x).line = s.line := rfl
@[simp] theorem State.startRetry_notices (s : State) (x : RetrySetting) : (s.startRetry x).notices = s.notices := rfl
@[simp] theorem State.startRetry_seq (s : State) (x : RetrySetting) : (s.startRetry x).seq = s.seq := rfl
@[simp] theorem State.startRetry_cur (s : State) (x : RetrySetting) : (s.startRetry x).cur = s.cur := rfl
@[simp] theorem State.startRetry_last (s : State) (x : RetrySetting) : (s.startRetry x).last = s.last := rfl
@[simp] theorem State.startRetry_mute (s : State) (x : RetrySetting) : (s.startRetry x).mute = s.mute := rfl
@[simp] theorem State.startRetry_dim (s : State) (x : RetrySetting) : (s.startRetry x).dim = s.dim := rfl
@[simp] theorem State.startRetry_port (s : State) (x : RetrySetting) : (s.startRetry x).port = s.port := rfl
@[simp] theorem State.startRetry_loader (s : State) (x : RetrySetting) : (s.startRetry x).loader = s.loader := rfl
@[simp] theorem State.startRetry_freeIndex (s : State) (x : RetrySetting) : (s.startRetry x).freeIndex = s.freeIndex := rfl
@[simp] theorem State.startRetry_pending (s : State) (x : RetrySetting) : (s.startRetry x).pending = s.pending := rfl

@[simp] theorem State.startQuiet_settings (s : State) : (s.startQuiet).settings = s.settings := rfl
@[simp] theorem State.startQuiet_table (s : State) : (s.startQuiet).table = s.table := rfl
@[simp] theorem State.startQuiet_rails (s : State) : (s.startQuiet).rails = s.rails := rfl
@[simp] theorem State.startQuiet_ctl (s : State) : (s.startQuiet).ctl = s.ctl := rfl
@[simp] theorem State.startQuiet_front (s : State) : (s.startQuiet).front = s.front := rfl
@[simp] theorem State.startQuiet_holdUp (s : State) : (s.startQuiet).holdUp = s.holdUp := rfl
@[simp] theorem State.startQuiet_line (s : State) : (s.startQuiet).line = s.line := rfl
@[simp] theorem State.startQuiet_notices (s : State) : (s.startQuiet).notices = s.notices := rfl
@[simp] theorem State.startQuiet_seq (s : State) : (s.startQuiet).seq = s.seq := rfl
@[simp] theorem State.startQuiet_cur (s : State) : (s.startQuiet).cur = s.cur := rfl
@[simp] theorem State.startQuiet_last (s : State) : (s.startQuiet).last = s.last := rfl
@[simp] theorem State.startQuiet_mute (s : State) : (s.startQuiet).mute = s.mute := rfl
@[simp] theorem State.startQuiet_dim (s : State) : (s.startQuiet).dim = s.dim := rfl
@[simp] theorem State.startQuiet_port (s : State) : (s.startQuiet).port = s.port := rfl
@[simp] theorem State.startQuiet_loader (s : State) : (s.startQuiet).loader = s.loader := rfl
@[simp] theorem State.startQuiet_freeIndex (s : State) : (s.startQuiet).freeIndex = s.freeIndex := rfl
@[simp] theorem State.startQuiet_pending (s : State) : (s.startQuiet).pending = s.pending := rfl

@[simp] theorem State.startMute_settings (s : State) : (s.startMute).settings = s.settings := rfl
@[simp] theorem State.startMute_table (s : State) : (s.startMute).table = s.table := rfl
@[simp] theorem State.startMute_rails (s : State) : (s.startMute).rails = s.rails := rfl
@[simp] theorem State.startMute_ctl (s : State) : (s.startMute).ctl = s.ctl := rfl
@[simp] theorem State.startMute_front (s : State) : (s.startMute).front = s.front := rfl
@[simp] theorem State.startMute_holdUp (s : State) : (s.startMute).holdUp = s.holdUp := rfl
@[simp] theorem State.startMute_line (s : State) : (s.startMute).line = s.line := rfl
@[simp] theorem State.startMute_notices (s : State) : (s.startMute).notices = s.notices := rfl
@[simp] theorem State.startMute_seq (s : State) : (s.startMute).seq = s.seq := rfl
@[simp] theorem State.startMute_cur (s : State) : (s.startMute).cur = s.cur := rfl
@[simp] theorem State.startMute_last (s : State) : (s.startMute).last = s.last := rfl
@[simp] theorem State.startMute_mute (s : State) : (s.startMute).mute = (s.mute && decide (s.settings.unmuteDelay ≠ 0)) := rfl
@[simp] theorem State.startMute_dim (s : State) : (s.startMute).dim = s.dim := rfl
@[simp] theorem State.startMute_port (s : State) : (s.startMute).port = s.port := rfl
@[simp] theorem State.startMute_loader (s : State) : (s.startMute).loader = s.loader := rfl
@[simp] theorem State.startMute_freeIndex (s : State) : (s.startMute).freeIndex = s.freeIndex := rfl
@[simp] theorem State.startMute_pending (s : State) : (s.startMute).pending = s.pending := rfl

@[simp] theorem State.stopPhase_settings (s : State) : (s.stopPhase).settings = s.settings := rfl
@[simp] theorem State.stopPhase_table (s : State) : (s.stopPhase).table = s.table := rfl
@[simp] theorem State.stopPhase_rails (s : State) : (s.stopPhase).rails = s.rails := rfl
@[simp] theorem State.stopPhase_ctl (s : State) : (s.stopPhase).ctl = s.ctl := rfl
@[simp] theorem State.stopPhase_front (s : State) : (s.stopPhase).front = s.front := rfl
@[simp] theorem State.stopPhase_holdUp (s : State) : (s.stopPhase).holdUp = s.holdUp := rfl
@[simp] theorem State.stopPhase_line (s : State) : (s.stopPhase).line = s.line := rfl
@[simp] theorem State.stopPhase_notices (s : State) : (s.stopPhase).notices = s.notices := rfl
@[simp] theorem State.stopPhase_seq (s : State) : (s.stopPhase).seq = s.seq := rfl
@[simp] theorem State.stopPhase_cur (s : State) : (s.stopPhase).cur = s.cur := rfl
@[simp] theorem State.stopPhase_last (s : State) : (s.stopPhase).last = s.last := rfl
@[simp] theorem State.stopPhase_mute (s : State) : (s.stopPhase).mute = s.mute := rfl
@[simp] theorem State.stopPhase_dim (s : State) : (s.stopPhase).dim = s.dim := rfl
@[simp] theorem State.stopPhase_port (s : State) : (s.stopPhase).port = s.port := rfl
@[simp] theorem State.stopPhase_loader (s : State) : (s.stopPhase).loader = s.loader := rfl
@[simp] theorem State.stopPhase_freeIndex (s : State) : (s.stopPhase).freeIndex = s.freeIndex := rfl
@[simp] theorem State.stopPhase_pending (s : State) : (s.stopPhase).pending = s.pending := rfl

@[simp] theorem State.stopOnTimers_settings (s : State) : (s.stopOnTimers).settings = s.settings := rfl
@[simp] theorem State.stopOnTimers_table (s : State) : (s.stopOnTimers).table = s.table := rfl
@[simp] theorem State.stopOnTimers_rails (s : State) : (s.stopOnTimers).rails = s.rails := rfl
@[simp] theorem State.stopOnTimers_ctl (s : State) : (s.stopOnTimers).ctl = s.ctl := rfl
@[simp] theorem State.stopOnTimers_front (s : State) : (s.stopOnTimers).front = s.front := rfl
@[simp] theorem State.stopOnTimers_holdUp (s : State) : (s.stopOnTimers).holdUp = s.holdUp := rfl
@[simp] theorem State.stopOnTimers_line (s : State) : (s.stopOnTimers).line = s.line := rfl
@[simp] theorem State.stopOnTimers_notices (s : State) : (s.stopOnTimers).notices = s.notices := rfl
@[simp] theorem State.stopOnTimers_seq (s : State) : (s.stopOnTimers).seq = s.seq := rfl
@[simp] theorem State.stopOnTimers_cur (s : State) : (s.stopOnTimers).cur = s.cur := rfl
@[simp] theorem State.stopOnTimers_last (s : State) : (s.stopOnTimers).last = s.last := rfl
@[simp] theorem State.stopOnTimers_mute (s : State) : (s.stopOnTimers).mute = s.mute := rfl
@[simp] theorem State.stopOnTimers_dim (s : State) : (s.stopOnTimers).dim = s.dim := rfl
@[simp] theorem State.stopOnTimers_port (s : State) : (s.stopOnTimers).port = s.port := rfl
@[simp] theorem State.stopOnTimers_loader (s : State) : (s.stopOnTimers).loader = s.loader := rfl
@[simp] theorem State.stopOnTimers_freeIndex (s : State) : (s.stopOnTimers).freeIndex = s.freeIndex := rfl
@[simp] theorem State.stopOnTimers_pending (s : State) : (s.stopOnTimers).pending = s.pending := rfl

@[simp] theorem State.stopRetryTimer_settings (s : State) : (s.stopRetryTimer).settings = s.settings := rfl
@[simp] theorem State.stopRetryTimer_table (s : State) : (s.stopRetryTimer).table = s.table := rfl
@[simp] theorem State.stopRetryTimer_rails (s : State) : (s.stopRetryTimer).rails = s.rails := rfl
@[simp] theorem State.stopRetryTimer_ctl (s : State) : (s.stopRetryTimer).ctl = s.ctl := rfl
@[simp] theorem State.stopRetryTimer_front (s : State) : (s.stopRetryTimer).front = s.front := rfl
@[simp] theorem State.stopRetryTimer_holdUp (s : State) : (s.stopRetryTimer).holdUp = s.holdUp := rfl
@[simp] theorem State.stopRetryTimer_line (s : State) : (s.stopRetryTimer).line = s.line := rfl
@[simp] theorem State.stopRetryTimer_notices (s : State) : (s.stopRetryTimer).notices = s.notices := rfl
@[simp] theorem State.stopRetryTimer_seq (s : State) : (s.stopRetryTimer).seq = s.seq := rfl
@[simp] theorem State.stopRetryTimer_cur (s : State) : (s.stopRetryTimer).cur = s.cur := rfl
@[simp] theorem State.stopRetryTimer_last (s : State) : (s.stopRetryTimer).last = s.last := rfl
@[simp] theorem State.stopRetryTimer_mute (s : State) : (s.stopRetryTimer).mute = s.mute := rfl
@[simp] theorem State.stopRetryTimer_dim (s : State) : (s.stopRetryTimer).dim = s.dim := rfl
@[simp] theorem State.stopRetryTimer_port (s : State) : (s.stopRetryTimer).port = s.port := rfl
@[simp] theorem State.stopRetryTimer_loader (s : State) : (s.stopRetryTimer).loader = s.loader := rfl
@[simp] theorem State.stopRetryTimer_freeIndex (s : State) : (s.stopRetryTimer).freeIndex = s.freeIndex := rfl
@[simp] theorem State.stopRetryTimer_pending (s : State) : (s.stopRetryTimer).pending = s.pending := rfl

@[simp] theorem State.stopRetry_settings (s : State) : (s.stopRetry).settings = s.settings := rfl
@[simp] theorem State.stopRetry_table (s : State) : (s.stopRetry).table = s.table := rfl
@[simp] theorem State.stopRetry_rails (s : State) : (s.stopRetry).rails = s.rails := rfl
@[simp] theorem State.stopRetry_ctl (s : State) : (s.stopRetry).ctl = s.ctl := rfl
@[simp] theorem State.stopRetry_front (s : State) : (s.stopRetry).front = s.front := rfl
@[simp] theorem State.stopRetry_holdUp (s : State) : (s.stopRetry).holdUp = s.holdUp := rfl
@[simp] theorem State.stopRetry_line (s : State) : (s.stopRetry).line = s.line := rfl
@[simp] theorem State.stopRetry_notices (s : State) : (s.stopRetry).notices = s.notices := rfl
@[simp] theorem State.stopRetry_cur (s : State) : (s.stopRetry).cur = s.cur := rfl
@[simp] theorem State.stopRetry_last (s : State) : (s.stopRetry).last = s.last := rfl
@[simp] theorem State.stopRetry_mute (s : State) : (s.stopRetry).mute = s.mute := rfl
@[simp] theorem State.stopRetry_dim (s : State) : (s.stopRetry).dim = s.dim := rfl
@[simp] theorem State.stopRetry_port (s : State) : (s.stopRetry).port = s.port := rfl
@[simp] theorem State.stopRetry_loader (s : State) : (s.stopRetry).loader = s.loader := rfl
@[simp] theorem State.stopRetry_freeIndex (s : State) : (s.stopRetry).freeIndex = s.freeIndex := rfl
@[simp] theorem State.stopRetry_pending (s : State) : (s.stopRetry).pending = s.pending := rfl

@[simp] theorem State.claimLater_settings (s : State) : (s.claimLater).settings = s.settings := rfl
@[simp] theorem State.claimLater_table (s : State) : (s.claimLater).table = s.table := rfl
@[simp] theorem State.claimLater_rails (s : State) : (s.claimLater).rails = s.rails := rfl
@[simp] theorem State.claimLater_ctl (s : State) : (s.claimLater).ctl = s.ctl := rfl
@[simp] theorem State.claimLater_front (s : State) : (s.claimLater).front = s.front := rfl
@[simp] theorem State.claimLater_timers (s : State) : (s.claimLater).timers = s.timers := rfl
@[simp] theorem State.claimLater_holdUp (s : State) : (s.claimLater).holdUp = s.holdUp := rfl
@[simp] theorem State.claimLater_notices (s : State) : (s.claimLater).notices = s.notices := rfl
@[simp] theorem State.claimLater_seq (s : State) : (s.claimLater).seq = s.seq := rfl
@[simp] theorem State.claimLater_cur (s : State) : (s.claimLater).cur = s.cur := rfl
@[simp] theorem State.claimLater_last (s : State) : (s.claimLater).last = s.last := rfl
@[simp] theorem State.claimLater_mute (s : State) : (s.claimLater).mute = s.mute := rfl
@[simp] theorem State.claimLater_dim (s : State) : (s.claimLater).dim = s.dim := rfl
@[simp] theorem State.claimLater_port (s : State) : (s.claimLater).port = s.port := rfl
@[simp] theorem State.claimLater_loader (s : State) : (s.claimLater).loader = s.loader := rfl
@[simp] theorem State.claimLater_freeIndex (s : State) : (s.claimLater).freeIndex = s.freeIndex := rfl
@[simp] theorem State.claimLater_pending (s : State) : (s.claimLater).pending = s.pending := rfl

@[simp] theorem State.release_settings (s : State) : (s.release).settings = s.settings := rfl
@[simp] theorem State.release_table (s : State) : (s.release).table = s.table := rfl
@[simp] theorem State.release_rails (s : State) : (s.release).rails = s.rails := rfl
@[simp] theorem State.release_ctl (s : State) : (s.release).ctl = s.ctl := rfl
@[simp] theorem State.release_front (s : State) : (s.release).front = s.front := rfl
@[simp] theorem State.release_timers (s : State) : (s.release).timers = s.timers := rfl
@[simp] theorem State.release_holdUp (s : State) : (s.release).holdUp = s.holdUp := rfl
@[simp] theorem State.release_notices (s : State) : (s.release).notices = s.notices := rfl
@[simp] theorem State.release_seq (s : State) : (s.release).seq = s.seq := rfl
@[simp] theorem State.release_cur (s : State) : (s.release).cur = s.cur := rfl
@[simp] theorem State.release_last (s : State) : (s.release).last = s.last := rfl
@[simp] theorem State.release_mute (s : State) : (s.release).mute = s.mute := rfl
@[simp] theorem State.release_dim (s : State) : (s.release).dim = s.dim := rfl
@[simp] theorem State.release_port (s : State) : (s.release).port = s.port := rfl
@[simp] theorem State.release_loader (s : State) : (s.release).loader = s.loader := rfl
@[simp] theorem State.release_freeIndex (s : State) : (s.release).freeIndex = s.freeIndex := rfl
@[simp] theorem State.release_pending (s : State) : (s.release).pending = s.pending := rfl

@[simp] theorem State.leaveClaim_settings (s : State) : (s.leaveClaim).settings = s.settings := rfl
@[simp] theorem State.leaveClaim_table (s : State) : (s.leaveClaim).table = s.table := rfl
@[simp] theorem State.leaveClaim_rails (s : State) : (s.leaveClaim).rails = s.rails := rfl
@[simp] theorem State.leaveClaim_ctl (s : State) : (s.leaveClaim).ctl = s.ctl := rfl
@[simp] theorem State.leaveClaim_front (s : State) : (s.leaveClaim).front = s.front := rfl
@[simp] theorem State.leaveClaim_timers (s : State) : (s.leaveClaim).timers = s.timers := rfl
@[simp] theorem State.leaveClaim_holdUp (s : State) : (s.leaveClaim).holdUp = s.holdUp := rfl
@[simp] theorem State.leaveClaim_notices (s : State) : (s.leaveClaim).notices = s.notices := rfl
@[simp] theorem State.leaveClaim_seq (s : State) : (s.leaveClaim).seq = s.seq := rfl
@[simp] theorem State.leaveClaim_cur (s : State) : (s.leaveClaim).cur = s.cur := rfl
@[simp] theorem State.leaveClaim_last (s : State) : (s.leaveClaim).last = s.last := rfl
@[simp] theorem State.leaveClaim_mute (s : State) : (s.leaveClaim).mute = s.mute := rfl
@[simp] theorem State.leaveClaim_dim (s : State) : (s.leaveClaim).dim = s.dim := rfl
@[simp] theorem State.leaveClaim_port (s : State) : (s.leaveClaim).port = s.port := rfl
@[simp] theorem State.leaveClaim_loader (s : State) : (s.leaveClaim).loader = s.loader := rfl
@[simp] theorem State.leaveClaim_freeIndex (s : State) : (s.leaveClaim).freeIndex = s.freeIndex := rfl
@[simp] theorem State.leaveClaim_pending (s : State) : (s.leaveClaim).pending = s.pending := rfl

@[simp] theorem State.rotate_settings (s : State) : (s.rotate).settings = s.settings := rfl
@[simp] theorem State.rotate_table (s : State) : (s.rotate).table = s.table := rfl
@[simp] theorem State.rotate_rails (s : State) : (s.rotate).rails = s.rails := rfl
@[simp] theorem State.rotate_ctl (s : State) : (s.rotate).ctl = s.ctl := rfl
@[simp] theorem State.rotate_front (s : State) : (s.rotate).front = s.front := rfl
@[simp] theorem State.rotate_timers (s : State) : (s.rotate).timers = s.timers := rfl
@[simp] theorem State.rotate_holdUp (s : State) : (s.rotate).holdUp = s.holdUp := rfl
@[simp] theorem State.rotate_line (s : State) : (s.rotate).line = s.line := rfl
@[simp] theorem State.rotate_notices (s : State) : (s.rotate).notices = s.notices := rfl
@[simp] theorem State.rotate_seq (s : State) : (s.rotate).seq = s.seq := rfl
@[simp] theorem State.rotate_mute (s : State) : (s.rotate).mute = s.mute := rfl
@[simp] theorem State.rotate_dim (s : State) : (s.rotate).dim = s.dim := rfl
@[simp] theorem State.rotate_port (s : State) : (s.rotate).port = s.port := rfl
@[simp] theorem State.rotate_loader (s : State) : (s.rotate).loader = s.loader := rfl
@[simp] theorem State.rotate_freeIndex (s : State) : (s.rotate).freeIndex = s.freeIndex := rfl
@[simp] theorem State.rotate_pending (s : State) : (s.rotate).pending = s.pending := rfl

@[simp] theorem State.clearHeard_settings (s : State) (own : Bool) : (s.clearHeard own).settings = s.settings := rfl
@[simp] theorem State.clearHeard_table (s : State) (own : Bool) : (s.clearHeard own).table = s.table := rfl
@[simp] theorem State.clearHeard_rails (s : State) (own : Bool) : (s.clearHeard own).rails = s.rails := rfl
@[simp] theorem State.clearHeard_ctl (s : State) (own : Bool) : (s.clearHeard own).ctl = s.ctl := rfl
@[simp] theorem State.clearHeard_front (s : State) (own : Bool) : (s.clearHeard own).front = s.front := rfl
@[simp] theorem State.clearHeard_timers (s : State) (own : Bool) : (s.clearHeard own).timers = s.timers := rfl
@[simp] theorem State.clearHeard_holdUp (s : State) (own : Bool) : (s.clearHeard own).holdUp = s.holdUp := rfl
@[simp] theorem State.clearHeard_line (s : State) (own : Bool) : (s.clearHeard own).line = s.line := rfl
@[simp] theorem State.clearHeard_notices (s : State) (own : Bool) : (s.clearHeard own).notices = s.notices := rfl
@[simp] theorem State.clearHeard_cur (s : State) (own : Bool) : (s.clearHeard own).cur = s.cur := rfl
@[simp] theorem State.clearHeard_last (s : State) (own : Bool) : (s.clearHeard own).last = s.last := rfl
@[simp] theorem State.clearHeard_mute (s : State) (own : Bool) : (s.clearHeard own).mute = s.mute := rfl
@[simp] theorem State.clearHeard_dim (s : State) (own : Bool) : (s.clearHeard own).dim = s.dim := rfl
@[simp] theorem State.clearHeard_port (s : State) (own : Bool) : (s.clearHeard own).port = s.port := rfl
@[simp] theorem State.clearHeard_loader (s : State) (own : Bool) : (s.clearHeard own).loader = s.loader := rfl
@[simp] theorem State.clearHeard_freeIndex (s : State) (own : Bool) : (s.clearHeard own).freeIndex = s.freeIndex := rfl
@[simp] theorem State.clearHeard_pending (s : State) (own : Bool) : (s.clearHeard own).pending = s.pending := rfl

@[simp] theorem State.setFilter_settings (s : State) (i : Fin 8) (f : Filter Zone) : (s.setFilter i f).settings = s.settings := rfl
@[simp] theorem State.setFilter_table (s : State) (i : Fin 8) (f : Filter Zone) : (s.setFilter i f).table = s.table := rfl
@[simp] theorem State.setFilter_rails (s : State) (i : Fin 8) (f : Filter Zone) : (s.setFilter i f).rails = s.rails := rfl
@[simp] theorem State.setFilter_ctl (s : State) (i : Fin 8) (f : Filter Zone) : (s.setFilter i f).ctl = s.ctl := rfl
@[simp] theorem State.setFilter_timers (s : State) (i : Fin 8) (f : Filter Zone) : (s.setFilter i f).timers = s.timers := rfl
@[simp] theorem State.setFilter_holdUp (s : State) (i : Fin 8) (f : Filter Zone) : (s.setFilter i f).holdUp = s.holdUp := rfl
@[simp] theorem State.setFilter_line (s : State) (i : Fin 8) (f : Filter Zone) : (s.setFilter i f).line = s.line := rfl
@[simp] theorem State.setFilter_notices (s : State) (i : Fin 8) (f : Filter Zone) : (s.setFilter i f).notices = s.notices := rfl
@[simp] theorem State.setFilter_seq (s : State) (i : Fin 8) (f : Filter Zone) : (s.setFilter i f).seq = s.seq := rfl
@[simp] theorem State.setFilter_cur (s : State) (i : Fin 8) (f : Filter Zone) : (s.setFilter i f).cur = s.cur := rfl
@[simp] theorem State.setFilter_last (s : State) (i : Fin 8) (f : Filter Zone) : (s.setFilter i f).last = s.last := rfl
@[simp] theorem State.setFilter_mute (s : State) (i : Fin 8) (f : Filter Zone) : (s.setFilter i f).mute = s.mute := rfl
@[simp] theorem State.setFilter_dim (s : State) (i : Fin 8) (f : Filter Zone) : (s.setFilter i f).dim = s.dim := rfl
@[simp] theorem State.setFilter_port (s : State) (i : Fin 8) (f : Filter Zone) : (s.setFilter i f).port = s.port := rfl
@[simp] theorem State.setFilter_loader (s : State) (i : Fin 8) (f : Filter Zone) : (s.setFilter i f).loader = s.loader := rfl
@[simp] theorem State.setFilter_freeIndex (s : State) (i : Fin 8) (f : Filter Zone) : (s.setFilter i f).freeIndex = s.freeIndex := rfl
@[simp] theorem State.setFilter_pending (s : State) (i : Fin 8) (f : Filter Zone) : (s.setFilter i f).pending = s.pending := rfl

@[simp] theorem State.mainsRecoveryEvent_settings (s : State) : (s.mainsRecoveryEvent).settings = s.settings := rfl
@[simp] theorem State.mainsRecoveryEvent_table (s : State) : (s.mainsRecoveryEvent).table = s.table := rfl
@[simp] theorem State.mainsRecoveryEvent_rails (s : State) : (s.mainsRecoveryEvent).rails = s.rails := rfl
@[simp] theorem State.mainsRecoveryEvent_ctl (s : State) : (s.mainsRecoveryEvent).ctl = s.ctl := rfl
@[simp] theorem State.mainsRecoveryEvent_timers (s : State) : (s.mainsRecoveryEvent).timers = s.timers := rfl
@[simp] theorem State.mainsRecoveryEvent_holdUp (s : State) : (s.mainsRecoveryEvent).holdUp = s.holdUp := rfl
@[simp] theorem State.mainsRecoveryEvent_line (s : State) : (s.mainsRecoveryEvent).line = s.line := rfl
@[simp] theorem State.mainsRecoveryEvent_notices (s : State) : (s.mainsRecoveryEvent).notices = s.notices := rfl
@[simp] theorem State.mainsRecoveryEvent_seq (s : State) : (s.mainsRecoveryEvent).seq = s.seq := rfl
@[simp] theorem State.mainsRecoveryEvent_cur (s : State) : (s.mainsRecoveryEvent).cur = s.cur := rfl
@[simp] theorem State.mainsRecoveryEvent_last (s : State) : (s.mainsRecoveryEvent).last = s.last := rfl
@[simp] theorem State.mainsRecoveryEvent_mute (s : State) : (s.mainsRecoveryEvent).mute = s.mute := rfl
@[simp] theorem State.mainsRecoveryEvent_dim (s : State) : (s.mainsRecoveryEvent).dim = s.dim := rfl
@[simp] theorem State.mainsRecoveryEvent_port (s : State) : (s.mainsRecoveryEvent).port = s.port := rfl
@[simp] theorem State.mainsRecoveryEvent_loader (s : State) : (s.mainsRecoveryEvent).loader = s.loader := rfl
@[simp] theorem State.mainsRecoveryEvent_freeIndex (s : State) : (s.mainsRecoveryEvent).freeIndex = s.freeIndex := rfl
@[simp] theorem State.mainsRecoveryEvent_pending (s : State) : (s.mainsRecoveryEvent).pending = s.pending := rfl

@[simp] theorem State.setMinHold_settings (s : State) : (s.setMinHold).settings = s.settings := rfl
@[simp] theorem State.setMinHold_table (s : State) : (s.setMinHold).table = s.table := rfl
@[simp] theorem State.setMinHold_rails (s : State) : (s.setMinHold).rails = s.rails := rfl
@[simp] theorem State.setMinHold_ctl (s : State) : (s.setMinHold).ctl = s.ctl := rfl
@[simp] theorem State.setMinHold_front (s : State) : (s.setMinHold).front = s.front := rfl
@[simp] theorem State.setMinHold_timers (s : State) : (s.setMinHold).timers = s.timers := rfl
@[simp] theorem State.setMinHold_holdUp (s : State) : (s.setMinHold).holdUp = s.holdUp := rfl
@[simp] theorem State.setMinHold_notices (s : State) : (s.setMinHold).notices = s.notices := rfl
@[simp] theorem State.setMinHold_seq (s : State) : (s.setMinHold).seq = s.seq := rfl
@[simp] theorem State.setMinHold_cur (s : State) : (s.setMinHold).cur = s.cur := rfl
@[simp] theorem State.setMinHold_last (s : State) : (s.setMinHold).last = s.last := rfl
@[simp] theorem State.setMinHold_mute (s : State) : (s.setMinHold).mute = s.mute := rfl
@[simp] theorem State.setMinHold_dim (s : State) : (s.setMinHold).dim = s.dim := rfl
@[simp] theorem State.setMinHold_port (s : State) : (s.setMinHold).port = s.port := rfl
@[simp] theorem State.setMinHold_loader (s : State) : (s.setMinHold).loader = s.loader := rfl
@[simp] theorem State.setMinHold_freeIndex (s : State) : (s.setMinHold).freeIndex = s.freeIndex := rfl
@[simp] theorem State.setMinHold_pending (s : State) : (s.setMinHold).pending = s.pending := rfl

@[simp] theorem State.setLead_settings (s : State) (n : Notice) (own : Bool) : (s.setLead n own).settings = s.settings := rfl
@[simp] theorem State.setLead_table (s : State) (n : Notice) (own : Bool) : (s.setLead n own).table = s.table := rfl
@[simp] theorem State.setLead_rails (s : State) (n : Notice) (own : Bool) : (s.setLead n own).rails = s.rails := rfl
@[simp] theorem State.setLead_ctl (s : State) (n : Notice) (own : Bool) : (s.setLead n own).ctl = s.ctl := rfl
@[simp] theorem State.setLead_front (s : State) (n : Notice) (own : Bool) : (s.setLead n own).front = s.front := rfl
@[simp] theorem State.setLead_timers (s : State) (n : Notice) (own : Bool) : (s.setLead n own).timers = s.timers := rfl
@[simp] theorem State.setLead_holdUp (s : State) (n : Notice) (own : Bool) : (s.setLead n own).holdUp = s.holdUp := rfl
@[simp] theorem State.setLead_line (s : State) (n : Notice) (own : Bool) : (s.setLead n own).line = s.line := rfl
@[simp] theorem State.setLead_notices (s : State) (n : Notice) (own : Bool) : (s.setLead n own).notices = s.notices := rfl
@[simp] theorem State.setLead_last (s : State) (n : Notice) (own : Bool) : (s.setLead n own).last = s.last := rfl
@[simp] theorem State.setLead_mute (s : State) (n : Notice) (own : Bool) : (s.setLead n own).mute = s.mute := rfl
@[simp] theorem State.setLead_dim (s : State) (n : Notice) (own : Bool) : (s.setLead n own).dim = s.dim := rfl
@[simp] theorem State.setLead_port (s : State) (n : Notice) (own : Bool) : (s.setLead n own).port = s.port := rfl
@[simp] theorem State.setLead_loader (s : State) (n : Notice) (own : Bool) : (s.setLead n own).loader = s.loader := rfl
@[simp] theorem State.setLead_freeIndex (s : State) (n : Notice) (own : Bool) : (s.setLead n own).freeIndex = s.freeIndex := rfl
@[simp] theorem State.setLead_pending (s : State) (n : Notice) (own : Bool) : (s.setLead n own).pending = s.pending := rfl

@[simp] theorem State.countTakenSag_settings (s : State) : (s.countTakenSag).settings = s.settings := rfl
@[simp] theorem State.countTakenSag_table (s : State) : (s.countTakenSag).table = s.table := rfl
@[simp] theorem State.countTakenSag_rails (s : State) : (s.countTakenSag).rails = s.rails := rfl
@[simp] theorem State.countTakenSag_ctl (s : State) : (s.countTakenSag).ctl = s.ctl := rfl
@[simp] theorem State.countTakenSag_front (s : State) : (s.countTakenSag).front = s.front := rfl
@[simp] theorem State.countTakenSag_timers (s : State) : (s.countTakenSag).timers = s.timers := rfl
@[simp] theorem State.countTakenSag_holdUp (s : State) : (s.countTakenSag).holdUp = s.holdUp := rfl
@[simp] theorem State.countTakenSag_line (s : State) : (s.countTakenSag).line = s.line := rfl
@[simp] theorem State.countTakenSag_notices (s : State) : (s.countTakenSag).notices = s.notices := rfl
@[simp] theorem State.countTakenSag_last (s : State) : (s.countTakenSag).last = s.last := rfl
@[simp] theorem State.countTakenSag_mute (s : State) : (s.countTakenSag).mute = s.mute := rfl
@[simp] theorem State.countTakenSag_dim (s : State) : (s.countTakenSag).dim = s.dim := rfl
@[simp] theorem State.countTakenSag_port (s : State) : (s.countTakenSag).port = s.port := rfl
@[simp] theorem State.countTakenSag_loader (s : State) : (s.countTakenSag).loader = s.loader := rfl
@[simp] theorem State.countTakenSag_freeIndex (s : State) : (s.countTakenSag).freeIndex = s.freeIndex := rfl
@[simp] theorem State.countTakenSag_pending (s : State) : (s.countTakenSag).pending = s.pending := rfl

@[simp] theorem State.launch_settings (s : State) (k : Kind) (p : Pending) : (s.launch k p).settings = s.settings := rfl
@[simp] theorem State.launch_table (s : State) (k : Kind) (p : Pending) : (s.launch k p).table = s.table := rfl
@[simp] theorem State.launch_rails (s : State) (k : Kind) (p : Pending) : (s.launch k p).rails = s.rails := rfl
@[simp] theorem State.launch_ctl (s : State) (k : Kind) (p : Pending) : (s.launch k p).ctl = s.ctl := rfl
@[simp] theorem State.launch_front (s : State) (k : Kind) (p : Pending) : (s.launch k p).front = s.front := rfl
@[simp] theorem State.launch_timers (s : State) (k : Kind) (p : Pending) : (s.launch k p).timers = s.timers := rfl
@[simp] theorem State.launch_holdUp (s : State) (k : Kind) (p : Pending) : (s.launch k p).holdUp = s.holdUp := rfl
@[simp] theorem State.launch_line (s : State) (k : Kind) (p : Pending) : (s.launch k p).line = s.line := rfl
@[simp] theorem State.launch_seq (s : State) (k : Kind) (p : Pending) : (s.launch k p).seq = s.seq := rfl
@[simp] theorem State.launch_cur (s : State) (k : Kind) (p : Pending) : (s.launch k p).cur = s.cur := rfl
@[simp] theorem State.launch_last (s : State) (k : Kind) (p : Pending) : (s.launch k p).last = s.last := rfl
@[simp] theorem State.launch_mute (s : State) (k : Kind) (p : Pending) : (s.launch k p).mute = s.mute := rfl
@[simp] theorem State.launch_dim (s : State) (k : Kind) (p : Pending) : (s.launch k p).dim = s.dim := rfl
@[simp] theorem State.launch_port (s : State) (k : Kind) (p : Pending) : (s.launch k p).port = s.port := rfl
@[simp] theorem State.launch_loader (s : State) (k : Kind) (p : Pending) : (s.launch k p).loader = s.loader := rfl
@[simp] theorem State.launch_freeIndex (s : State) (k : Kind) (p : Pending) : (s.launch k p).freeIndex = s.freeIndex := rfl
@[simp] theorem State.launch_pending (s : State) (k : Kind) (p : Pending) : (s.launch k p).pending = s.pending := rfl

@[simp] theorem State.endFrame_settings (s : State) : (s.endFrame).settings = s.settings := rfl
@[simp] theorem State.endFrame_table (s : State) : (s.endFrame).table = s.table := rfl
@[simp] theorem State.endFrame_rails (s : State) : (s.endFrame).rails = s.rails := rfl
@[simp] theorem State.endFrame_ctl (s : State) : (s.endFrame).ctl = s.ctl := rfl
@[simp] theorem State.endFrame_front (s : State) : (s.endFrame).front = s.front := rfl
@[simp] theorem State.endFrame_timers (s : State) : (s.endFrame).timers = s.timers := rfl
@[simp] theorem State.endFrame_holdUp (s : State) : (s.endFrame).holdUp = s.holdUp := rfl
@[simp] theorem State.endFrame_line (s : State) : (s.endFrame).line = s.line := rfl
@[simp] theorem State.endFrame_seq (s : State) : (s.endFrame).seq = s.seq := rfl
@[simp] theorem State.endFrame_cur (s : State) : (s.endFrame).cur = s.cur := rfl
@[simp] theorem State.endFrame_last (s : State) : (s.endFrame).last = s.last := rfl
@[simp] theorem State.endFrame_mute (s : State) : (s.endFrame).mute = s.mute := rfl
@[simp] theorem State.endFrame_dim (s : State) : (s.endFrame).dim = s.dim := rfl
@[simp] theorem State.endFrame_port (s : State) : (s.endFrame).port = s.port := rfl
@[simp] theorem State.endFrame_loader (s : State) : (s.endFrame).loader = s.loader := rfl
@[simp] theorem State.endFrame_freeIndex (s : State) : (s.endFrame).freeIndex = s.freeIndex := rfl
@[simp] theorem State.endFrame_pending (s : State) : (s.endFrame).pending = s.pending := rfl

@[simp] theorem State.nextFree_settings (s : State) : (s.nextFree).settings = s.settings := rfl
@[simp] theorem State.nextFree_table (s : State) : (s.nextFree).table = s.table := rfl
@[simp] theorem State.nextFree_rails (s : State) : (s.nextFree).rails = s.rails := rfl
@[simp] theorem State.nextFree_ctl (s : State) : (s.nextFree).ctl = s.ctl := rfl
@[simp] theorem State.nextFree_front (s : State) : (s.nextFree).front = s.front := rfl
@[simp] theorem State.nextFree_timers (s : State) : (s.nextFree).timers = s.timers := rfl
@[simp] theorem State.nextFree_holdUp (s : State) : (s.nextFree).holdUp = s.holdUp := rfl
@[simp] theorem State.nextFree_line (s : State) : (s.nextFree).line = s.line := rfl
@[simp] theorem State.nextFree_notices (s : State) : (s.nextFree).notices = s.notices := rfl
@[simp] theorem State.nextFree_seq (s : State) : (s.nextFree).seq = s.seq := rfl
@[simp] theorem State.nextFree_cur (s : State) : (s.nextFree).cur = s.cur := rfl
@[simp] theorem State.nextFree_last (s : State) : (s.nextFree).last = s.last := rfl
@[simp] theorem State.nextFree_mute (s : State) : (s.nextFree).mute = s.mute := rfl
@[simp] theorem State.nextFree_dim (s : State) : (s.nextFree).dim = s.dim := rfl
@[simp] theorem State.nextFree_port (s : State) : (s.nextFree).port = s.port := rfl
@[simp] theorem State.nextFree_loader (s : State) : (s.nextFree).loader = s.loader := rfl
@[simp] theorem State.nextFree_pending (s : State) : (s.nextFree).pending = s.pending := rfl

@[simp] theorem State.enterSilent_settings (s : State) : (s.enterSilent).settings = s.settings := rfl
@[simp] theorem State.enterSilent_table (s : State) : (s.enterSilent).table = s.table := rfl
@[simp] theorem State.enterSilent_rails (s : State) : (s.enterSilent).rails = s.rails := rfl
@[simp] theorem State.enterSilent_ctl (s : State) : (s.enterSilent).ctl = s.ctl := rfl
@[simp] theorem State.enterSilent_front (s : State) : (s.enterSilent).front = s.front := rfl
@[simp] theorem State.enterSilent_timers (s : State) : (s.enterSilent).timers = s.timers := rfl
@[simp] theorem State.enterSilent_holdUp (s : State) : (s.enterSilent).holdUp = s.holdUp := rfl
@[simp] theorem State.enterSilent_line (s : State) : (s.enterSilent).line = s.line := rfl
@[simp] theorem State.enterSilent_notices (s : State) : (s.enterSilent).notices = s.notices := rfl
@[simp] theorem State.enterSilent_cur (s : State) : (s.enterSilent).cur = s.cur := rfl
@[simp] theorem State.enterSilent_last (s : State) : (s.enterSilent).last = s.last := rfl
@[simp] theorem State.enterSilent_mute (s : State) : (s.enterSilent).mute = s.mute := rfl
@[simp] theorem State.enterSilent_dim (s : State) : (s.enterSilent).dim = s.dim := rfl
@[simp] theorem State.enterSilent_port (s : State) : (s.enterSilent).port = s.port := rfl
@[simp] theorem State.enterSilent_freeIndex (s : State) : (s.enterSilent).freeIndex = s.freeIndex := rfl
@[simp] theorem State.enterSilent_pending (s : State) : (s.enterSilent).pending = s.pending := rfl

@[simp] theorem State.enterUnconfigured_settings (s : State) (r : LoadReason) (d : Nat) : (s.enterUnconfigured r d).settings = s.settings := rfl
@[simp] theorem State.enterUnconfigured_table (s : State) (r : LoadReason) (d : Nat) : (s.enterUnconfigured r d).table = s.table := rfl
@[simp] theorem State.enterUnconfigured_rails (s : State) (r : LoadReason) (d : Nat) : (s.enterUnconfigured r d).rails = s.rails := rfl
@[simp] theorem State.enterUnconfigured_ctl (s : State) (r : LoadReason) (d : Nat) : (s.enterUnconfigured r d).ctl = s.ctl := rfl
@[simp] theorem State.enterUnconfigured_front (s : State) (r : LoadReason) (d : Nat) : (s.enterUnconfigured r d).front = s.front := rfl
@[simp] theorem State.enterUnconfigured_timers (s : State) (r : LoadReason) (d : Nat) : (s.enterUnconfigured r d).timers = s.timers := rfl
@[simp] theorem State.enterUnconfigured_holdUp (s : State) (r : LoadReason) (d : Nat) : (s.enterUnconfigured r d).holdUp = s.holdUp := rfl
@[simp] theorem State.enterUnconfigured_line (s : State) (r : LoadReason) (d : Nat) : (s.enterUnconfigured r d).line = s.line := rfl
@[simp] theorem State.enterUnconfigured_notices (s : State) (r : LoadReason) (d : Nat) : (s.enterUnconfigured r d).notices = s.notices := rfl
@[simp] theorem State.enterUnconfigured_cur (s : State) (r : LoadReason) (d : Nat) : (s.enterUnconfigured r d).cur = s.cur := rfl
@[simp] theorem State.enterUnconfigured_last (s : State) (r : LoadReason) (d : Nat) : (s.enterUnconfigured r d).last = s.last := rfl
@[simp] theorem State.enterUnconfigured_mute (s : State) (r : LoadReason) (d : Nat) : (s.enterUnconfigured r d).mute = s.mute := rfl
@[simp] theorem State.enterUnconfigured_dim (s : State) (r : LoadReason) (d : Nat) : (s.enterUnconfigured r d).dim = s.dim := rfl
@[simp] theorem State.enterUnconfigured_port (s : State) (r : LoadReason) (d : Nat) : (s.enterUnconfigured r d).port = s.port := rfl
@[simp] theorem State.enterUnconfigured_freeIndex (s : State) (r : LoadReason) (d : Nat) : (s.enterUnconfigured r d).freeIndex = s.freeIndex := rfl
@[simp] theorem State.enterUnconfigured_pending (s : State) (r : LoadReason) (d : Nat) : (s.enterUnconfigured r d).pending = s.pending := rfl

@[simp] theorem State.takeImage_rails (s : State) (image : List Byte) : (s.takeImage image).rails = s.rails := rfl
@[simp] theorem State.takeImage_ctl (s : State) (image : List Byte) : (s.takeImage image).ctl = s.ctl := rfl
@[simp] theorem State.takeImage_front (s : State) (image : List Byte) : (s.takeImage image).front = s.front := rfl
@[simp] theorem State.takeImage_timers (s : State) (image : List Byte) : (s.takeImage image).timers = s.timers := rfl
@[simp] theorem State.takeImage_line (s : State) (image : List Byte) : (s.takeImage image).line = s.line := rfl
@[simp] theorem State.takeImage_notices (s : State) (image : List Byte) : (s.takeImage image).notices = s.notices := rfl
@[simp] theorem State.takeImage_seq (s : State) (image : List Byte) : (s.takeImage image).seq = s.seq := rfl
@[simp] theorem State.takeImage_cur (s : State) (image : List Byte) : (s.takeImage image).cur = s.cur := rfl
@[simp] theorem State.takeImage_last (s : State) (image : List Byte) : (s.takeImage image).last = s.last := rfl
@[simp] theorem State.takeImage_mute (s : State) (image : List Byte) : (s.takeImage image).mute = s.mute := rfl
@[simp] theorem State.takeImage_dim (s : State) (image : List Byte) : (s.takeImage image).dim = s.dim := rfl
@[simp] theorem State.takeImage_port (s : State) (image : List Byte) : (s.takeImage image).port = s.port := rfl
@[simp] theorem State.takeImage_loader (s : State) (image : List Byte) : (s.takeImage image).loader = s.loader := rfl
@[simp] theorem State.takeImage_freeIndex (s : State) (image : List Byte) : (s.takeImage image).freeIndex = s.freeIndex := rfl
@[simp] theorem State.takeImage_pending (s : State) (image : List Byte) : (s.takeImage image).pending = s.pending := rfl

@[simp] theorem State.watchLines_settings (s : State) (hold : Bool) : (s.watchLines hold).settings = s.settings := rfl
@[simp] theorem State.watchLines_table (s : State) (hold : Bool) : (s.watchLines hold).table = s.table := rfl
@[simp] theorem State.watchLines_rails (s : State) (hold : Bool) : (s.watchLines hold).rails = s.rails := rfl
@[simp] theorem State.watchLines_ctl (s : State) (hold : Bool) : (s.watchLines hold).ctl = s.ctl := rfl
@[simp] theorem State.watchLines_front (s : State) (hold : Bool) : (s.watchLines hold).front = s.front := rfl
@[simp] theorem State.watchLines_timers (s : State) (hold : Bool) : (s.watchLines hold).timers = s.timers := rfl
@[simp] theorem State.watchLines_holdUp (s : State) (hold : Bool) : (s.watchLines hold).holdUp = s.holdUp := rfl
@[simp] theorem State.watchLines_seq (s : State) (hold : Bool) : (s.watchLines hold).seq = s.seq := rfl
@[simp] theorem State.watchLines_cur (s : State) (hold : Bool) : (s.watchLines hold).cur = s.cur := rfl
@[simp] theorem State.watchLines_last (s : State) (hold : Bool) : (s.watchLines hold).last = s.last := rfl
@[simp] theorem State.watchLines_mute (s : State) (hold : Bool) : (s.watchLines hold).mute = s.mute := rfl
@[simp] theorem State.watchLines_dim (s : State) (hold : Bool) : (s.watchLines hold).dim = s.dim := rfl
@[simp] theorem State.watchLines_port (s : State) (hold : Bool) : (s.watchLines hold).port = s.port := rfl
@[simp] theorem State.watchLines_loader (s : State) (hold : Bool) : (s.watchLines hold).loader = s.loader := rfl
@[simp] theorem State.watchLines_freeIndex (s : State) (hold : Bool) : (s.watchLines hold).freeIndex = s.freeIndex := rfl
@[simp] theorem State.watchLines_pending (s : State) (hold : Bool) : (s.watchLines hold).pending = s.pending := rfl

@[simp] theorem State.beginLoading_settings (s : State) (p q : Bool) : (s.beginLoading p q).settings = s.settings := rfl
@[simp] theorem State.beginLoading_table (s : State) (p q : Bool) : (s.beginLoading p q).table = s.table := rfl
@[simp] theorem State.beginLoading_rails (s : State) (p q : Bool) : (s.beginLoading p q).rails = s.rails := rfl
@[simp] theorem State.beginLoading_ctl (s : State) (p q : Bool) : (s.beginLoading p q).ctl = s.ctl := rfl
@[simp] theorem State.beginLoading_front (s : State) (p q : Bool) : (s.beginLoading p q).front = s.front := rfl
@[simp] theorem State.beginLoading_timers (s : State) (p q : Bool) : (s.beginLoading p q).timers = s.timers := rfl
@[simp] theorem State.beginLoading_holdUp (s : State) (p q : Bool) : (s.beginLoading p q).holdUp = s.holdUp := rfl
@[simp] theorem State.beginLoading_line (s : State) (p q : Bool) : (s.beginLoading p q).line = s.line := rfl
@[simp] theorem State.beginLoading_notices (s : State) (p q : Bool) : (s.beginLoading p q).notices = s.notices := rfl
@[simp] theorem State.beginLoading_seq (s : State) (p q : Bool) : (s.beginLoading p q).seq = s.seq := rfl
@[simp] theorem State.beginLoading_cur (s : State) (p q : Bool) : (s.beginLoading p q).cur = s.cur := rfl
@[simp] theorem State.beginLoading_last (s : State) (p q : Bool) : (s.beginLoading p q).last = s.last := rfl
@[simp] theorem State.beginLoading_mute (s : State) (p q : Bool) : (s.beginLoading p q).mute = s.mute := rfl
@[simp] theorem State.beginLoading_dim (s : State) (p q : Bool) : (s.beginLoading p q).dim = s.dim := rfl
@[simp] theorem State.beginLoading_port (s : State) (p q : Bool) : (s.beginLoading p q).port = s.port := rfl
@[simp] theorem State.beginLoading_freeIndex (s : State) (p q : Bool) : (s.beginLoading p q).freeIndex = s.freeIndex := rfl
@[simp] theorem State.beginLoading_pending (s : State) (p q : Bool) : (s.beginLoading p q).pending = s.pending := rfl

@[simp] theorem State.clearAlert_settings (s : State) : (s.clearAlert).settings = s.settings := rfl
@[simp] theorem State.clearAlert_table (s : State) : (s.clearAlert).table = s.table := rfl
@[simp] theorem State.clearAlert_rails (s : State) : (s.clearAlert).rails = s.rails := rfl
@[simp] theorem State.clearAlert_ctl (s : State) : (s.clearAlert).ctl = s.ctl := rfl
@[simp] theorem State.clearAlert_front (s : State) : (s.clearAlert).front = s.front := rfl
@[simp] theorem State.clearAlert_timers (s : State) : (s.clearAlert).timers = s.timers := rfl
@[simp] theorem State.clearAlert_holdUp (s : State) : (s.clearAlert).holdUp = s.holdUp := rfl
@[simp] theorem State.clearAlert_line (s : State) : (s.clearAlert).line = s.line := rfl
@[simp] theorem State.clearAlert_notices (s : State) : (s.clearAlert).notices = s.notices := rfl
@[simp] theorem State.clearAlert_seq (s : State) : (s.clearAlert).seq = s.seq := rfl
@[simp] theorem State.clearAlert_last (s : State) : (s.clearAlert).last = s.last := rfl
@[simp] theorem State.clearAlert_mute (s : State) : (s.clearAlert).mute = s.mute := rfl
@[simp] theorem State.clearAlert_dim (s : State) : (s.clearAlert).dim = s.dim := rfl
@[simp] theorem State.clearAlert_port (s : State) : (s.clearAlert).port = s.port := rfl
@[simp] theorem State.clearAlert_loader (s : State) : (s.clearAlert).loader = s.loader := rfl
@[simp] theorem State.clearAlert_freeIndex (s : State) : (s.clearAlert).freeIndex = s.freeIndex := rfl
@[simp] theorem State.clearAlert_pending (s : State) : (s.clearAlert).pending = s.pending := rfl

@[simp] theorem State.startSample_settings (s : State) (x : Sample) : (s.startSample x).settings = s.settings := rfl
@[simp] theorem State.startSample_table (s : State) (x : Sample) : (s.startSample x).table = s.table := rfl
@[simp] theorem State.startSample_rails (s : State) (x : Sample) : (s.startSample x).rails = s.rails := rfl
@[simp] theorem State.startSample_ctl (s : State) (x : Sample) : (s.startSample x).ctl = s.ctl := rfl
@[simp] theorem State.startSample_timers (s : State) (x : Sample) : (s.startSample x).timers = s.timers := rfl
@[simp] theorem State.startSample_holdUp (s : State) (x : Sample) : (s.startSample x).holdUp = s.holdUp := rfl
@[simp] theorem State.startSample_line (s : State) (x : Sample) : (s.startSample x).line = s.line := rfl
@[simp] theorem State.startSample_notices (s : State) (x : Sample) : (s.startSample x).notices = s.notices := rfl
@[simp] theorem State.startSample_seq (s : State) (x : Sample) : (s.startSample x).seq = s.seq := rfl
@[simp] theorem State.startSample_cur (s : State) (x : Sample) : (s.startSample x).cur = s.cur := rfl
@[simp] theorem State.startSample_last (s : State) (x : Sample) : (s.startSample x).last = s.last := rfl
@[simp] theorem State.startSample_mute (s : State) (x : Sample) : (s.startSample x).mute = s.mute := rfl
@[simp] theorem State.startSample_dim (s : State) (x : Sample) : (s.startSample x).dim = s.dim := rfl
@[simp] theorem State.startSample_port (s : State) (x : Sample) : (s.startSample x).port = s.port := rfl
@[simp] theorem State.startSample_loader (s : State) (x : Sample) : (s.startSample x).loader = s.loader := rfl
@[simp] theorem State.startSample_freeIndex (s : State) (x : Sample) : (s.startSample x).freeIndex = s.freeIndex := rfl
@[simp] theorem State.startSample_pending (s : State) (x : Sample) : (s.startSample x).pending = s.pending := rfl

@[simp] theorem State.seeDimIn_settings (s : State) (l : Bool) : (s.seeDimIn l).settings = s.settings := rfl
@[simp] theorem State.seeDimIn_table (s : State) (l : Bool) : (s.seeDimIn l).table = s.table := rfl
@[simp] theorem State.seeDimIn_rails (s : State) (l : Bool) : (s.seeDimIn l).rails = s.rails := rfl
@[simp] theorem State.seeDimIn_ctl (s : State) (l : Bool) : (s.seeDimIn l).ctl = s.ctl := rfl
@[simp] theorem State.seeDimIn_timers (s : State) (l : Bool) : (s.seeDimIn l).timers = s.timers := rfl
@[simp] theorem State.seeDimIn_holdUp (s : State) (l : Bool) : (s.seeDimIn l).holdUp = s.holdUp := rfl
@[simp] theorem State.seeDimIn_line (s : State) (l : Bool) : (s.seeDimIn l).line = s.line := rfl
@[simp] theorem State.seeDimIn_notices (s : State) (l : Bool) : (s.seeDimIn l).notices = s.notices := rfl
@[simp] theorem State.seeDimIn_seq (s : State) (l : Bool) : (s.seeDimIn l).seq = s.seq := rfl
@[simp] theorem State.seeDimIn_cur (s : State) (l : Bool) : (s.seeDimIn l).cur = s.cur := rfl
@[simp] theorem State.seeDimIn_last (s : State) (l : Bool) : (s.seeDimIn l).last = s.last := rfl
@[simp] theorem State.seeDimIn_mute (s : State) (l : Bool) : (s.seeDimIn l).mute = s.mute := rfl
@[simp] theorem State.seeDimIn_dim (s : State) (l : Bool) : (s.seeDimIn l).dim = s.dim := rfl
@[simp] theorem State.seeDimIn_port (s : State) (l : Bool) : (s.seeDimIn l).port = s.port := rfl
@[simp] theorem State.seeDimIn_loader (s : State) (l : Bool) : (s.seeDimIn l).loader = s.loader := rfl
@[simp] theorem State.seeDimIn_freeIndex (s : State) (l : Bool) : (s.seeDimIn l).freeIndex = s.freeIndex := rfl
@[simp] theorem State.seeDimIn_pending (s : State) (l : Bool) : (s.seeDimIn l).pending = s.pending := rfl

@[simp] theorem State.beginSampling_settings (s : State) : (s.beginSampling).settings = s.settings := rfl
@[simp] theorem State.beginSampling_table (s : State) : (s.beginSampling).table = s.table := rfl
@[simp] theorem State.beginSampling_rails (s : State) : (s.beginSampling).rails = s.rails := rfl
@[simp] theorem State.beginSampling_ctl (s : State) : (s.beginSampling).ctl = s.ctl := rfl
@[simp] theorem State.beginSampling_timers (s : State) : (s.beginSampling).timers = s.timers := rfl
@[simp] theorem State.beginSampling_holdUp (s : State) : (s.beginSampling).holdUp = s.holdUp := rfl
@[simp] theorem State.beginSampling_line (s : State) : (s.beginSampling).line = s.line := rfl
@[simp] theorem State.beginSampling_notices (s : State) : (s.beginSampling).notices = s.notices := rfl
@[simp] theorem State.beginSampling_seq (s : State) : (s.beginSampling).seq = s.seq := rfl
@[simp] theorem State.beginSampling_cur (s : State) : (s.beginSampling).cur = s.cur := rfl
@[simp] theorem State.beginSampling_last (s : State) : (s.beginSampling).last = s.last := rfl
@[simp] theorem State.beginSampling_mute (s : State) : (s.beginSampling).mute = s.mute := rfl
@[simp] theorem State.beginSampling_dim (s : State) : (s.beginSampling).dim = s.dim := rfl
@[simp] theorem State.beginSampling_port (s : State) : (s.beginSampling).port = s.port := rfl
@[simp] theorem State.beginSampling_loader (s : State) : (s.beginSampling).loader = s.loader := rfl
@[simp] theorem State.beginSampling_freeIndex (s : State) : (s.beginSampling).freeIndex = s.freeIndex := rfl
@[simp] theorem State.beginSampling_pending (s : State) : (s.beginSampling).pending = s.pending := rfl

@[simp] theorem State.firstEdge_settings (s : State) (own : Bool) (bits : List Bool) : (s.firstEdge own bits).settings = s.settings := rfl
@[simp] theorem State.firstEdge_table (s : State) (own : Bool) (bits : List Bool) : (s.firstEdge own bits).table = s.table := rfl
@[simp] theorem State.firstEdge_rails (s : State) (own : Bool) (bits : List Bool) : (s.firstEdge own bits).rails = s.rails := rfl
@[simp] theorem State.firstEdge_ctl (s : State) (own : Bool) (bits : List Bool) : (s.firstEdge own bits).ctl = s.ctl := rfl
@[simp] theorem State.firstEdge_front (s : State) (own : Bool) (bits : List Bool) : (s.firstEdge own bits).front = s.front := rfl
@[simp] theorem State.firstEdge_timers (s : State) (own : Bool) (bits : List Bool) : (s.firstEdge own bits).timers = s.timers := rfl
@[simp] theorem State.firstEdge_holdUp (s : State) (own : Bool) (bits : List Bool) : (s.firstEdge own bits).holdUp = s.holdUp := rfl
@[simp] theorem State.firstEdge_line (s : State) (own : Bool) (bits : List Bool) : (s.firstEdge own bits).line = s.line := rfl
@[simp] theorem State.firstEdge_seq (s : State) (own : Bool) (bits : List Bool) : (s.firstEdge own bits).seq = s.seq := rfl
@[simp] theorem State.firstEdge_cur (s : State) (own : Bool) (bits : List Bool) : (s.firstEdge own bits).cur = s.cur := rfl
@[simp] theorem State.firstEdge_last (s : State) (own : Bool) (bits : List Bool) : (s.firstEdge own bits).last = s.last := rfl
@[simp] theorem State.firstEdge_mute (s : State) (own : Bool) (bits : List Bool) : (s.firstEdge own bits).mute = s.mute := rfl
@[simp] theorem State.firstEdge_dim (s : State) (own : Bool) (bits : List Bool) : (s.firstEdge own bits).dim = s.dim := rfl
@[simp] theorem State.firstEdge_port (s : State) (own : Bool) (bits : List Bool) : (s.firstEdge own bits).port = s.port := rfl
@[simp] theorem State.firstEdge_loader (s : State) (own : Bool) (bits : List Bool) : (s.firstEdge own bits).loader = s.loader := rfl
@[simp] theorem State.firstEdge_freeIndex (s : State) (own : Bool) (bits : List Bool) : (s.firstEdge own bits).freeIndex = s.freeIndex := rfl
@[simp] theorem State.firstEdge_pending (s : State) (own : Bool) (bits : List Bool) : (s.firstEdge own bits).pending = s.pending := rfl
@[simp] theorem State.firstEdge_outbound (s : State) (own : Bool) (bits : List Bool) : (s.firstEdge own bits).notices.outbound = s.notices.outbound := rfl
@[simp] theorem State.firstEdge_inFlight (s : State) (own : Bool) (bits : List Bool) : (s.firstEdge own bits).notices.inFlight = s.notices.inFlight := rfl
@[simp] theorem State.firstEdge_breakDrive (s : State) (own : Bool) (bits : List Bool) : (s.firstEdge own bits).notices.breakDrive = s.notices.breakDrive := rfl
@[simp] theorem State.firstEdge_stuck (s : State) (own : Bool) (bits : List Bool) : (s.firstEdge own bits).notices.stuck = s.notices.stuck := rfl
@[simp] theorem State.firstEdge_link (s : State) (own : Bool) (bits : List Bool) : (s.firstEdge own bits).notices.link = .frame ⟨[], own⟩ := rfl
@[simp] theorem State.firstEdge_drive (s : State) (own : Bool) (bits : List Bool) : (s.firstEdge own bits).notices.drive = ⟨0, bits.map dominantMicros⟩ := rfl

end Sys2Proof.Machine
end

