-- ==== Sys2Proof/Laws/Cases.lean ====
section
/-! SUPPORT. For every operation that branches over record updates: one lemma for each component it leaves alone. -/

set_option linter.unusedTactic false
set_option linter.unreachableTactic false

namespace Sys2Proof.Machine

@[simp] theorem State.seeHold_settings (s : State) (h : Bool) : (s.seeHold h).settings = s.settings := by
  unfold State.seeHold; try dsimp only
  repeat' split
  all_goals simp
@[simp] theorem State.seeHold_table (s : State) (h : Bool) : (s.seeHold h).table = s.table := by
  unfold State.seeHold; try dsimp only
  repeat' split
  all_goals simp
@[simp] theorem State.seeHold_rails (s : State) (h : Bool) : (s.seeHold h).rails = s.rails := by
  unfold State.seeHold; try dsimp only
  repeat' split
  all_goals simp
@[simp] theorem State.seeHold_ctl (s : State) (h : Bool) : (s.seeHold h).ctl = s.ctl := by
  unfold State.seeHold; try dsimp only
  repeat' split
  all_goals simp
@[simp] theorem State.seeHold_front (s : State) (h : Bool) : (s.seeHold h).front = s.front := by
  unfold State.seeHold; try dsimp only
  repeat' split
  all_goals simp
@[simp] theorem State.seeHold_timers (s : State) (h : Bool) : (s.seeHold h).timers = s.timers := by
  unfold State.seeHold; try dsimp only
  repeat' split
  all_goals simp
@[simp] theorem State.seeHold_holdUp (s : State) (h : Bool) : (s.seeHold h).holdUp = s.holdUp := by
  unfold State.seeHold; try dsimp only
  repeat' split
  all_goals simp
@[simp] theorem State.seeHold_notices (s : State) (h : Bool) : (s.seeHold h).notices = s.notices := by
  unfold State.seeHold; try dsimp only
  repeat' split
  all_goals simp
@[simp] theorem State.seeHold_seq (s : State) (h : Bool) : (s.seeHold h).seq = s.seq := by
  unfold State.seeHold; try dsimp only
  repeat' split
  all_goals simp
@[simp] theorem State.seeHold_cur (s : State) (h : Bool) : (s.seeHold h).cur = s.cur := by
  unfold State.seeHold; try dsimp only
  repeat' split
  all_goals simp
@[simp] theorem State.seeHold_last (s : State) (h : Bool) : (s.seeHold h).last = s.last := by
  unfold State.seeHold; try dsimp only
  repeat' split
  all_goals simp
@[simp] theorem State.seeHold_mute (s : State) (h : Bool) : (s.seeHold h).mute = s.mute := by
  unfold State.seeHold; try dsimp only
  repeat' split
  all_goals simp
@[simp] theorem State.seeHold_dim (s : State) (h : Bool) : (s.seeHold h).dim = s.dim := by
  unfold State.seeHold; try dsimp only
  repeat' split
  all_goals simp
@[simp] theorem State.seeHold_port (s : State) (h : Bool) : (s.seeHold h).port = s.port := by
  unfold State.seeHold; try dsimp only
  repeat' split
  all_goals simp
@[simp] theorem State.seeHold_loader (s : State) (h : Bool) : (s.seeHold h).loader = s.loader := by
  unfold State.seeHold; try dsimp only
  repeat' split
  all_goals simp
@[simp] theorem State.seeHold_freeIndex (s : State) (h : Bool) : (s.seeHold h).freeIndex = s.freeIndex := by
  unfold State.seeHold; try dsimp only
  repeat' split
  all_goals simp
@[simp] theorem State.seeHold_pending (s : State) (h : Bool) : (s.seeHold h).pending = s.pending := by
  unfold State.seeHold; try dsimp only
  repeat' split
  all_goals simp

@[simp] theorem State.claimNow_settings (s : State) : (s.claimNow).settings = s.settings := by
  unfold State.claimNow; try dsimp only
  repeat' split
  all_goals simp
@[simp] theorem State.claimNow_table (s : State) : (s.claimNow).table = s.table := by
  unfold State.claimNow; try dsimp only
  repeat' split
  all_goals simp
@[simp] theorem State.claimNow_rails (s : State) : (s.claimNow).rails = s.rails := by
  unfold State.claimNow; try dsimp only
  repeat' split
  all_goals simp
@[simp] theorem State.claimNow_ctl (s : State) : (s.claimNow).ctl = s.ctl := by
  unfold State.claimNow; try dsimp only
  repeat' split
  all_goals simp
@[simp] theorem State.claimNow_front (s : State) : (s.claimNow).front = s.front := by
  unfold State.claimNow; try dsimp only
  repeat' split
  all_goals simp
@[simp] theorem State.claimNow_timers (s : State) : (s.claimNow).timers = s.timers := by
  unfold State.claimNow; try dsimp only
  repeat' split
  all_goals simp
@[simp] theorem State.claimNow_holdUp (s : State) : (s.claimNow).holdUp = s.holdUp := by
  unfold State.claimNow; try dsimp only
  repeat' split
  all_goals simp
@[simp] theorem State.claimNow_notices (s : State) : (s.claimNow).notices = s.notices := by
  unfold State.claimNow; try dsimp only
  repeat' split
  all_goals simp
@[simp] theorem State.claimNow_seq (s : State) : (s.claimNow).seq = s.seq := by
  unfold State.claimNow; try dsimp only
  repeat' split
  all_goals simp
@[simp] theorem State.claimNow_cur (s : State) : (s.claimNow).cur = s.cur := by
  unfold State.claimNow; try dsimp only
  repeat' split
  all_goals simp
@[simp] theorem State.claimNow_last (s : State) : (s.claimNow).last = s.last := by
  unfold State.claimNow; try dsimp only
  repeat' split
  all_goals simp
@[simp] theorem State.claimNow_mute (s : State) : (s.claimNow).mute = s.mute := by
  unfold State.claimNow; try dsimp only
  repeat' split
  all_goals simp
@[simp] theorem State.claimNow_dim (s : State) : (s.claimNow).dim = s.dim := by
  unfold State.claimNow; try dsimp only
  repeat' split
  all_goals simp
@[simp] theorem State.claimNow_port (s : State) : (s.claimNow).port = s.port := by
  unfold State.claimNow; try dsimp only
  repeat' split
  all_goals simp
@[simp] theorem State.claimNow_loader (s : State) : (s.claimNow).loader = s.loader := by
  unfold State.claimNow; try dsimp only
  repeat' split
  all_goals simp
@[simp] theorem State.claimNow_freeIndex (s : State) : (s.claimNow).freeIndex = s.freeIndex := by
  unfold State.claimNow; try dsimp only
  repeat' split
  all_goals simp
@[simp] theorem State.claimNow_pending (s : State) : (s.claimNow).pending = s.pending := by
  unfold State.claimNow; try dsimp only
  repeat' split
  all_goals simp

@[simp] theorem State.queueNotice_settings (s : State) (k : Kind) (a b : Byte) : (s.queueNotice k a b).settings = s.settings := by
  unfold State.queueNotice; try dsimp only
  repeat' split
  all_goals simp
@[simp] theorem State.queueNotice_table (s : State) (k : Kind) (a b : Byte) : (s.queueNotice k a b).table = s.table := by
  unfold State.queueNotice; try dsimp only
  repeat' split
  all_goals simp
@[simp] theorem State.queueNotice_rails (s : State) (k : Kind) (a b : Byte) : (s.queueNotice k a b).rails = s.rails := by
  unfold State.queueNotice; try dsimp only
  repeat' split
  all_goals simp
@[simp] theorem State.queueNotice_ctl (s : State) (k : Kind) (a b : Byte) : (s.queueNotice k a b).ctl = s.ctl := by
  unfold State.queueNotice; try dsimp only
  repeat' split
  all_goals simp
@[simp] theorem State.queueNotice_front (s : State) (k : Kind) (a b : Byte) : (s.queueNotice k a b).front = s.front := by
  unfold State.queueNotice; try dsimp only
  repeat' split
  all_goals simp
@[simp] theorem State.queueNotice_timers (s : State) (k : Kind) (a b : Byte) : (s.queueNotice k a b).timers = s.timers := by
  unfold State.queueNotice; try dsimp only
  repeat' split
  all_goals simp
@[simp] theorem State.queueNotice_holdUp (s : State) (k : Kind) (a b : Byte) : (s.queueNotice k a b).holdUp = s.holdUp := by
  unfold State.queueNotice; try dsimp only
  repeat' split
  all_goals simp
@[simp] theorem State.queueNotice_line (s : State) (k : Kind) (a b : Byte) : (s.queueNotice k a b).line = s.line := by
  unfold State.queueNotice; try dsimp only
  repeat' split
  all_goals simp
@[simp] theorem State.queueNotice_seq (s : State) (k : Kind) (a b : Byte) : (s.queueNotice k a b).seq = s.seq := by
  unfold State.queueNotice; try dsimp only
  repeat' split
  all_goals simp
@[simp] theorem State.queueNotice_last (s : State) (k : Kind) (a b : Byte) : (s.queueNotice k a b).last = s.last := by
  unfold State.queueNotice; try dsimp only
  repeat' split
  all_goals simp
@[simp] theorem State.queueNotice_mute (s : State) (k : Kind) (a b : Byte) : (s.queueNotice k a b).mute = s.mute := by
  unfold State.queueNotice; try dsimp only
  repeat' split
  all_goals simp
@[simp] theorem State.queueNotice_dim (s : State) (k : Kind) (a b : Byte) : (s.queueNotice k a b).dim = s.dim := by
  unfold State.queueNotice; try dsimp only
  repeat' split
  all_goals simp
@[simp] theorem State.queueNotice_port (s : State) (k : Kind) (a b : Byte) : (s.queueNotice k a b).port = s.port := by
  unfold State.queueNotice; try dsimp only
  repeat' split
  all_goals simp
@[simp] theorem State.queueNotice_loader (s : State) (k : Kind) (a b : Byte) : (s.queueNotice k a b).loader = s.loader := by
  unfold State.queueNotice; try dsimp only
  repeat' split
  all_goals simp
@[simp] theorem State.queueNotice_freeIndex (s : State) (k : Kind) (a b : Byte) : (s.queueNotice k a b).freeIndex = s.freeIndex := by
  unfold State.queueNotice; try dsimp only
  repeat' split
  all_goals simp
@[simp] theorem State.queueNotice_pending (s : State) (k : Kind) (a b : Byte) : (s.queueNotice k a b).pending = s.pending := by
  unfold State.queueNotice; try dsimp only
  repeat' split
  all_goals simp

@[simp] theorem State.queueStationFault_settings (s : State) (r : Byte) : (s.queueStationFault r).settings = s.settings := by
  unfold State.queueStationFault; try dsimp only
  repeat' split
  all_goals simp
@[simp] theorem State.queueStationFault_table (s : State) (r : Byte) : (s.queueStationFault r).table = s.table := by
  unfold State.queueStationFault; try dsimp only
  repeat' split
  all_goals simp
@[simp] theorem State.queueStationFault_rails (s : State) (r : Byte) : (s.queueStationFault r).rails = s.rails := by
  unfold State.queueStationFault; try dsimp only
  repeat' split
  all_goals simp
@[simp] theorem State.queueStationFault_ctl (s : State) (r : Byte) : (s.queueStationFault r).ctl = s.ctl := by
  unfold State.queueStationFault; try dsimp only
  repeat' split
  all_goals simp
@[simp] theorem State.queueStationFault_front (s : State) (r : Byte) : (s.queueStationFault r).front = s.front := by
  unfold State.queueStationFault; try dsimp only
  repeat' split
  all_goals simp
@[simp] theorem State.queueStationFault_timers (s : State) (r : Byte) : (s.queueStationFault r).timers = s.timers := by
  unfold State.queueStationFault; try dsimp only
  repeat' split
  all_goals simp
@[simp] theorem State.queueStationFault_holdUp (s : State) (r : Byte) : (s.queueStationFault r).holdUp = s.holdUp := by
  unfold State.queueStationFault; try dsimp only
  repeat' split
  all_goals simp
@[simp] theorem State.queueStationFault_line (s : State) (r : Byte) : (s.queueStationFault r).line = s.line := by
  unfold State.queueStationFault; try dsimp only
  repeat' split
  all_goals simp
@[simp] theorem State.queueStationFault_seq (s : State) (r : Byte) : (s.queueStationFault r).seq = s.seq := by
  unfold State.queueStationFault; try dsimp only
  repeat' split
  all_goals simp
@[simp] theorem State.queueStationFault_last (s : State) (r : Byte) : (s.queueStationFault r).last = s.last := by
  unfold State.queueStationFault; try dsimp only
  repeat' split
  all_goals simp
@[simp] theorem State.queueStationFault_mute (s : State) (r : Byte) : (s.queueStationFault r).mute = s.mute := by
  unfold State.queueStationFault; try dsimp only
  repeat' split
  all_goals simp
@[simp] theorem State.queueStationFault_dim (s : State) (r : Byte) : (s.queueStationFault r).dim = s.dim := by
  unfold State.queueStationFault; try dsimp only
  repeat' split
  all_goals simp
@[simp] theorem State.queueStationFault_port (s : State) (r : Byte) : (s.queueStationFault r).port = s.port := by
  unfold State.queueStationFault; try dsimp only
  repeat' split
  all_goals simp
@[simp] theorem State.queueStationFault_loader (s : State) (r : Byte) : (s.queueStationFault r).loader = s.loader := by
  unfold State.queueStationFault; try dsimp only
  repeat' split
  all_goals simp
@[simp] theorem State.queueStationFault_freeIndex (s : State) (r : Byte) : (s.queueStationFault r).freeIndex = s.freeIndex := by
  unfold State.queueStationFault; try dsimp only
  repeat' split
  all_goals simp
@[simp] theorem State.queueStationFault_pending (s : State) (r : Byte) : (s.queueStationFault r).pending = s.pending := by
  unfold State.queueStationFault; try dsimp only
  repeat' split
  all_goals simp

@[simp] theorem State.queueSag_settings (s : State) : (s.queueSag).settings = s.settings := by
  unfold State.queueSag; try dsimp only
  repeat' split
  all_goals simp
@[simp] theorem State.queueSag_table (s : State) : (s.queueSag).table = s.table := by
  unfold State.queueSag; try dsimp only
  repeat' split
  all_goals simp
@[simp] theorem State.queueSag_rails (s : State) : (s.queueSag).rails = s.rails := by
  unfold State.queueSag; try dsimp only
  repeat' split
  all_goals simp
@[simp] theorem State.queueSag_ctl (s : State) : (s.queueSag).ctl = s.ctl := by
  unfold State.queueSag; try dsimp only
  repeat' split
  all_goals simp
@[simp] theorem State.queueSag_front (s : State) : (s.queueSag).front = s.front := by
  unfold State.queueSag; try dsimp only
  repeat' split
  all_goals simp
@[simp] theorem State.queueSag_timers (s : State) : (s.queueSag).timers = s.timers := by
  unfold State.queueSag; try dsimp only
  repeat' split
  all_goals simp
@[simp] theorem State.queueSag_holdUp (s : State) : (s.queueSag).holdUp = s.holdUp := by
  unfold State.queueSag; try dsimp only
  repeat' split
  all_goals simp
@[simp] theorem State.queueSag_line (s : State) : (s.queueSag).line = s.line := by
  unfold State.queueSag; try dsimp only
  repeat' split
  all_goals simp
@[simp] theorem State.queueSag_seq (s : State) : (s.queueSag).seq = s.seq := by
  unfold State.queueSag; try dsimp only
  repeat' split
  all_goals simp
@[simp] theorem State.queueSag_last (s : State) : (s.queueSag).last = s.last := by
  unfold State.queueSag; try dsimp only
  repeat' split
  all_goals simp
@[simp] theorem State.queueSag_mute (s : State) : (s.queueSag).mute = s.mute := by
  unfold State.queueSag; try dsimp only
  repeat' split
  all_goals simp
@[simp] theorem State.queueSag_dim (s : State) : (s.queueSag).dim = s.dim := by
  unfold State.queueSag; try dsimp only
  repeat' split
  all_goals simp
@[simp] theorem State.queueSag_port (s : State) : (s.queueSag).port = s.port := by
  unfold State.queueSag; try dsimp only
  repeat' split
  all_goals simp
@[simp] theorem State.queueSag_loader (s : State) : (s.queueSag).loader = s.loader := by
  unfold State.queueSag; try dsimp only
  repeat' split
  all_goals simp
@[simp] theorem State.queueSag_freeIndex (s : State) : (s.queueSag).freeIndex = s.freeIndex := by
  unfold State.queueSag; try dsimp only
  repeat' split
  all_goals simp
@[simp] theorem State.queueSag_pending (s : State) : (s.queueSag).pending = s.pending := by
  unfold State.queueSag; try dsimp only
  repeat' split
  all_goals simp

@[simp] theorem State.queueRoll_settings (s : State) : (s.queueRoll).settings = s.settings := by
  unfold State.queueRoll; try dsimp only
  repeat' split
  all_goals simp
@[simp] theorem State.queueRoll_table (s : State) : (s.queueRoll).table = s.table := by
  unfold State.queueRoll; try dsimp only
  repeat' split
  all_goals simp
@[simp] theorem State.queueRoll_rails (s : State) : (s.queueRoll).rails = s.rails := by
  unfold State.queueRoll; try dsimp only
  repeat' split
  all_goals simp
@[simp] theorem State.queueRoll_ctl (s : State) : (s.queueRoll).ctl = s.ctl := by
  unfold State.queueRoll; try dsimp only
  repeat' split
  all_goals simp
@[simp] theorem State.queueRoll_front (s : State) : (s.queueRoll).front = s.front := by
  unfold State.queueRoll; try dsimp only
  repeat' split
  all_goals simp
@[simp] theorem State.queueRoll_timers (s : State) : (s.queueRoll).timers = s.timers := by
  unfold State.queueRoll; try dsimp only
  repeat' split
  all_goals simp
@[simp] theorem State.queueRoll_holdUp (s : State) : (s.queueRoll).holdUp = s.holdUp := by
  unfold State.queueRoll; try dsimp only
  repeat' split
  all_goals simp
@[simp] theorem State.queueRoll_line (s : State) : (s.queueRoll).line = s.line := by
  unfold State.queueRoll; try dsimp only
  repeat' split
  all_goals simp
@[simp] theorem State.queueRoll_seq (s : State) : (s.queueRoll).seq = s.seq := by
  unfold State.queueRoll; try dsimp only
  repeat' split
  all_goals simp
@[simp] theorem State.queueRoll_last (s : State) : (s.queueRoll).last = s.last := by
  unfold State.queueRoll; try dsimp only
  repeat' split
  all_goals simp
@[simp] theorem State.queueRoll_mute (s : State) : (s.queueRoll).mute = s.mute := by
  unfold State.queueRoll; try dsimp only
  repeat' split
  all_goals simp
@[simp] theorem State.queueRoll_dim (s : State) : (s.queueRoll).dim = s.dim := by
  unfold State.queueRoll; try dsimp only
  repeat' split
  all_goals simp
@[simp] theorem State.queueRoll_port (s : State) : (s.queueRoll).port = s.port := by
  unfold State.queueRoll; try dsimp only
  repeat' split
  all_goals simp
@[simp] theorem State.queueRoll_loader (s : State) : (s.queueRoll).loader = s.loader := by
  unfold State.queueRoll; try dsimp only
  repeat' split
  all_goals simp
@[simp] theorem State.queueRoll_freeIndex (s : State) : (s.queueRoll).freeIndex = s.freeIndex := by
  unfold State.queueRoll; try dsimp only
  repeat' split
  all_goals simp
@[simp] theorem State.queueRoll_pending (s : State) : (s.queueRoll).pending = s.pending := by
  unfold State.queueRoll; try dsimp only
  repeat' split
  all_goals simp

@[simp] theorem State.queueMainsOk_settings (s : State) : (s.queueMainsOk).settings = s.settings := by
  unfold State.queueMainsOk; try dsimp only
  repeat' split
  all_goals simp
@[simp] theorem State.queueMainsOk_table (s : State) : (s.queueMainsOk).table = s.table := by
  unfold State.queueMainsOk; try dsimp only
  repeat' split
  all_goals simp
@[simp] theorem State.queueMainsOk_rails (s : State) : (s.queueMainsOk).rails = s.rails := by
  unfold State.queueMainsOk; try dsimp only
  repeat' split
  all_goals simp
@[simp] theorem State.queueMainsOk_ctl (s : State) : (s.queueMainsOk).ctl = s.ctl := by
  unfold State.queueMainsOk; try dsimp only
  repeat' split
  all_goals simp
@[simp] theorem State.queueMainsOk_front (s : State) : (s.queueMainsOk).front = s.front := by
  unfold State.queueMainsOk; try dsimp only
  repeat' split
  all_goals simp
@[simp] theorem State.queueMainsOk_timers (s : State) : (s.queueMainsOk).timers = s.timers := by
  unfold State.queueMainsOk; try dsimp only
  repeat' split
  all_goals simp
@[simp] theorem State.queueMainsOk_holdUp (s : State) : (s.queueMainsOk).holdUp = s.holdUp := by
  unfold State.queueMainsOk; try dsimp only
  repeat' split
  all_goals simp
@[simp] theorem State.queueMainsOk_line (s : State) : (s.queueMainsOk).line = s.line := by
  unfold State.queueMainsOk; try dsimp only
  repeat' split
  all_goals simp
@[simp] theorem State.queueMainsOk_seq (s : State) : (s.queueMainsOk).seq = s.seq := by
  unfold State.queueMainsOk; try dsimp only
  repeat' split
  all_goals simp
@[simp] theorem State.queueMainsOk_last (s : State) : (s.queueMainsOk).last = s.last := by
  unfold State.queueMainsOk; try dsimp only
  repeat' split
  all_goals simp
@[simp] theorem State.queueMainsOk_mute (s : State) : (s.queueMainsOk).mute = s.mute := by
  unfold State.queueMainsOk; try dsimp only
  repeat' split
  all_goals simp
@[simp] theorem State.queueMainsOk_dim (s : State) : (s.queueMainsOk).dim = s.dim := by
  unfold State.queueMainsOk; try dsimp only
  repeat' split
  all_goals simp
@[simp] theorem State.queueMainsOk_port (s : State) : (s.queueMainsOk).port = s.port := by
  unfold State.queueMainsOk; try dsimp only
  repeat' split
  all_goals simp
@[simp] theorem State.queueMainsOk_loader (s : State) : (s.queueMainsOk).loader = s.loader := by
  unfold State.queueMainsOk; try dsimp only
  repeat' split
  all_goals simp
@[simp] theorem State.queueMainsOk_freeIndex (s : State) : (s.queueMainsOk).freeIndex = s.freeIndex := by
  unfold State.queueMainsOk; try dsimp only
  repeat' split
  all_goals simp
@[simp] theorem State.queueMainsOk_pending (s : State) : (s.queueMainsOk).pending = s.pending := by
  unfold State.queueMainsOk; try dsimp only
  repeat' split
  all_goals simp

@[simp] theorem State.withdraw_settings (s : State) (k : Kind) : (s.withdraw k).settings = s.settings := by
  unfold State.withdraw; try dsimp only
  repeat' split
  all_goals simp
@[simp] theorem State.withdraw_table (s : State) (k : Kind) : (s.withdraw k).table = s.table := by
  unfold State.withdraw; try dsimp only
  repeat' split
  all_goals simp
@[simp] theorem State.withdraw_rails (s : State) (k : Kind) : (s.withdraw k).rails = s.rails := by
  unfold State.withdraw; try dsimp only
  repeat' split
  all_goals simp
@[simp] theorem State.withdraw_ctl (s : State) (k : Kind) : (s.withdraw k).ctl = s.ctl := by
  unfold State.withdraw; try dsimp only
  repeat' split
  all_goals simp
@[simp] theorem State.withdraw_front (s : State) (k : Kind) : (s.withdraw k).front = s.front := by
  unfold State.withdraw; try dsimp only
  repeat' split
  all_goals simp
@[simp] theorem State.withdraw_timers (s : State) (k : Kind) : (s.withdraw k).timers = s.timers := by
  unfold State.withdraw; try dsimp only
  repeat' split
  all_goals simp
@[simp] theorem State.withdraw_holdUp (s : State) (k : Kind) : (s.withdraw k).holdUp = s.holdUp := by
  unfold State.withdraw; try dsimp only
  repeat' split
  all_goals simp
@[simp] theorem State.withdraw_line (s : State) (k : Kind) : (s.withdraw k).line = s.line := by
  unfold State.withdraw; try dsimp only
  repeat' split
  all_goals simp
@[simp] theorem State.withdraw_seq (s : State) (k : Kind) : (s.withdraw k).seq = s.seq := by
  unfold State.withdraw; try dsimp only
  repeat' split
  all_goals simp
@[simp] theorem State.withdraw_cur (s : State) (k : Kind) : (s.withdraw k).cur = s.cur := by
  unfold State.withdraw; try dsimp only
  repeat' split
  all_goals simp
@[simp] theorem State.withdraw_last (s : State) (k : Kind) : (s.withdraw k).last = s.last := by
  unfold State.withdraw; try dsimp only
  repeat' split
  all_goals simp
@[simp] theorem State.withdraw_mute (s : State) (k : Kind) : (s.withdraw k).mute = s.mute := by
  unfold State.withdraw; try dsimp only
  repeat' split
  all_goals simp
@[simp] theorem State.withdraw_dim (s : State) (k : Kind) : (s.withdraw k).dim = s.dim := by
  unfold State.withdraw; try dsimp only
  repeat' split
  all_goals simp
@[simp] theorem State.withdraw_port (s : State) (k : Kind) : (s.withdraw k).port = s.port := by
  unfold State.withdraw; try dsimp only
  repeat' split
  all_goals simp
@[simp] theorem State.withdraw_loader (s : State) (k : Kind) : (s.withdraw k).loader = s.loader := by
  unfold State.withdraw; try dsimp only
  repeat' split
  all_goals simp
@[simp] theorem State.withdraw_freeIndex (s : State) (k : Kind) : (s.withdraw k).freeIndex = s.freeIndex := by
  unfold State.withdraw; try dsimp only
  repeat' split
  all_goals simp
@[simp] theorem State.withdraw_pending (s : State) (k : Kind) : (s.withdraw k).pending = s.pending := by
  unfold State.withdraw; try dsimp only
  repeat' split
  all_goals simp

@[simp] theorem State.issueBreak_settings (s : State) : (s.issueBreak).settings = s.settings := by
  unfold State.issueBreak; try dsimp only
  repeat' split
  all_goals simp
@[simp] theorem State.issueBreak_table (s : State) : (s.issueBreak).table = s.table := by
  unfold State.issueBreak; try dsimp only
  repeat' split
  all_goals simp
@[simp] theorem State.issueBreak_rails (s : State) : (s.issueBreak).rails = s.rails := by
  unfold State.issueBreak; try dsimp only
  repeat' split
  all_goals simp
@[simp] theorem State.issueBreak_ctl (s : State) : (s.issueBreak).ctl = s.ctl := by
  unfold State.issueBreak; try dsimp only
  repeat' split
  all_goals simp
@[simp] theorem State.issueBreak_front (s : State) : (s.issueBreak).front = s.front := by
  unfold State.issueBreak; try dsimp only
  repeat' split
  all_goals simp
@[simp] theorem State.issueBreak_timers (s : State) : (s.issueBreak).timers = s.timers := by
  unfold State.issueBreak; try dsimp only
  repeat' split
  all_goals simp
@[simp] theorem State.issueBreak_holdUp (s : State) : (s.issueBreak).holdUp = s.holdUp := by
  unfold State.issueBreak; try dsimp only
  repeat' split
  all_goals simp
@[simp] theorem State.issueBreak_line (s : State) : (s.issueBreak).line = s.line := by
  unfold State.issueBreak; try dsimp only
  repeat' split
  all_goals simp
@[simp] theorem State.issueBreak_seq (s : State) : (s.issueBreak).seq = s.seq := by
  unfold State.issueBreak; try dsimp only
  repeat' split
  all_goals simp
@[simp] theorem State.issueBreak_cur (s : State) : (s.issueBreak).cur = s.cur := by
  unfold State.issueBreak; try dsimp only
  repeat' split
  all_goals simp
@[simp] theorem State.issueBreak_last (s : State) : (s.issueBreak).last = s.last := by
  unfold State.issueBreak; try dsimp only
  repeat' split
  all_goals simp
@[simp] theorem State.issueBreak_mute (s : State) : (s.issueBreak).mute = s.mute := by
  unfold State.issueBreak; try dsimp only
  repeat' split
  all_goals simp
@[simp] theorem State.issueBreak_dim (s : State) : (s.issueBreak).dim = s.dim := by
  unfold State.issueBreak; try dsimp only
  repeat' split
  all_goals simp
@[simp] theorem State.issueBreak_port (s : State) : (s.issueBreak).port = s.port := by
  unfold State.issueBreak; try dsimp only
  repeat' split
  all_goals simp
@[simp] theorem State.issueBreak_loader (s : State) : (s.issueBreak).loader = s.loader := by
  unfold State.issueBreak; try dsimp only
  repeat' split
  all_goals simp
@[simp] theorem State.issueBreak_freeIndex (s : State) : (s.issueBreak).freeIndex = s.freeIndex := by
  unfold State.issueBreak; try dsimp only
  repeat' split
  all_goals simp
@[simp] theorem State.issueBreak_pending (s : State) : (s.issueBreak).pending = s.pending := by
  unfold State.issueBreak; try dsimp only
  repeat' split
  all_goals simp

@[simp] theorem State.beginFrame_settings (s : State) : (s.beginFrame).settings = s.settings := by
  unfold State.beginFrame; try dsimp only
  repeat' split
  all_goals simp
@[simp] theorem State.beginFrame_table (s : State) : (s.beginFrame).table = s.table := by
  unfold State.beginFrame; try dsimp only
  repeat' split
  all_goals simp
@[simp] theorem State.beginFrame_rails (s : State) : (s.beginFrame).rails = s.rails := by
  unfold State.beginFrame; try dsimp only
  repeat' split
  all_goals simp
@[simp] theorem State.beginFrame_ctl (s : State) : (s.beginFrame).ctl = s.ctl := by
  unfold State.beginFrame; try dsimp only
  repeat' split
  all_goals simp
@[simp] theorem State.beginFrame_front (s : State) : (s.beginFrame).front = s.front := by
  unfold State.beginFrame; try dsimp only
  repeat' split
  all_goals simp
@[simp] theorem State.beginFrame_timers (s : State) : (s.beginFrame).timers = s.timers := by
  unfold State.beginFrame; try dsimp only
  repeat' split
  all_goals simp
@[simp] theorem State.beginFrame_holdUp (s : State) : (s.beginFrame).holdUp = s.holdUp := by
  unfold State.beginFrame; try dsimp only
  repeat' split
  all_goals simp
@[simp] theorem State.beginFrame_line (s : State) : (s.beginFrame).line = s.line := by
  unfold State.beginFrame; try dsimp only
  repeat' split
  all_goals simp
@[simp] theorem State.beginFrame_seq (s : State) : (s.beginFrame).seq = s.seq := by
  unfold State.beginFrame; try dsimp only
  repeat' split
  all_goals simp
@[simp] theorem State.beginFrame_cur (s : State) : (s.beginFrame).cur = s.cur := by
  unfold State.beginFrame; try dsimp only
  repeat' split
  all_goals simp
@[simp] theorem State.beginFrame_last (s : State) : (s.beginFrame).last = s.last := by
  unfold State.beginFrame; try dsimp only
  repeat' split
  all_goals simp
@[simp] theorem State.beginFrame_mute (s : State) : (s.beginFrame).mute = s.mute := by
  unfold State.beginFrame; try dsimp only
  repeat' split
  all_goals simp
@[simp] theorem State.beginFrame_dim (s : State) : (s.beginFrame).dim = s.dim := by
  unfold State.beginFrame; try dsimp only
  repeat' split
  all_goals simp
@[simp] theorem State.beginFrame_port (s : State) : (s.beginFrame).port = s.port := by
  unfold State.beginFrame; try dsimp only
  repeat' split
  all_goals simp
@[simp] theorem State.beginFrame_loader (s : State) : (s.beginFrame).loader = s.loader := by
  unfold State.beginFrame; try dsimp only
  repeat' split
  all_goals simp
@[simp] theorem State.beginFrame_freeIndex (s : State) : (s.beginFrame).freeIndex = s.freeIndex := by
  unfold State.beginFrame; try dsimp only
  repeat' split
  all_goals simp
@[simp] theorem State.beginFrame_pending (s : State) : (s.beginFrame).pending = s.pending := by
  unfold State.beginFrame; try dsimp only
  repeat' split
  all_goals simp

@[simp] theorem State.sendIfFree_settings (s : State) : (s.sendIfFree).settings = s.settings := by
  unfold State.sendIfFree
  split <;> simp
@[simp] theorem State.sendIfFree_table (s : State) : (s.sendIfFree).table = s.table := by
  unfold State.sendIfFree
  split <;> simp
@[simp] theorem State.sendIfFree_rails (s : State) : (s.sendIfFree).rails = s.rails := by
  unfold State.sendIfFree
  split <;> simp
@[simp] theorem State.sendIfFree_ctl (s : State) : (s.sendIfFree).ctl = s.ctl := by
  unfold State.sendIfFree
  split <;> simp
@[simp] theorem State.sendIfFree_front (s : State) : (s.sendIfFree).front = s.front := by
  unfold State.sendIfFree
  split <;> simp
@[simp] theorem State.sendIfFree_timers (s : State) : (s.sendIfFree).timers = s.timers := by
  unfold State.sendIfFree
  split <;> simp
@[simp] theorem State.sendIfFree_holdUp (s : State) : (s.sendIfFree).holdUp = s.holdUp := by
  unfold State.sendIfFree
  split <;> simp
@[simp] theorem State.sendIfFree_line (s : State) : (s.sendIfFree).line = s.line := by
  unfold State.sendIfFree
  split <;> simp
@[simp] theorem State.sendIfFree_seq (s : State) : (s.sendIfFree).seq = s.seq := by
  unfold State.sendIfFree
  split <;> simp
@[simp] theorem State.sendIfFree_cur (s : State) : (s.sendIfFree).cur = s.cur := by
  unfold State.sendIfFree
  split <;> simp
@[simp] theorem State.sendIfFree_last (s : State) : (s.sendIfFree).last = s.last := by
  unfold State.sendIfFree
  split <;> simp
@[simp] theorem State.sendIfFree_mute (s : State) : (s.sendIfFree).mute = s.mute := by
  unfold State.sendIfFree
  split <;> simp
@[simp] theorem State.sendIfFree_dim (s : State) : (s.sendIfFree).dim = s.dim := by
  unfold State.sendIfFree
  split <;> simp
@[simp] theorem State.sendIfFree_port (s : State) : (s.sendIfFree).port = s.port := by
  unfold State.sendIfFree
  split <;> simp
@[simp] theorem State.sendIfFree_loader (s : State) : (s.sendIfFree).loader = s.loader := by
  unfold State.sendIfFree
  split <;> simp
@[simp] theorem State.sendIfFree_freeIndex (s : State) : (s.sendIfFree).freeIndex = s.freeIndex := by
  unfold State.sendIfFree
  split <;> simp
@[simp] theorem State.sendIfFree_pending (s : State) : (s.sendIfFree).pending = s.pending := by
  unfold State.sendIfFree
  split <;> simp

/-- The first slot is driven by a station that is FREE with a notice pending, and by no other
(R66). -/
theorem State.sendIfFree_of_not_maySend (s : State) (h : s.maySend = false) : s.sendIfFree = s := by
  simp [State.sendIfFree, h]

theorem State.sendIfFree_of_link (s : State) (h : s.notices.link ≠ .free) : s.sendIfFree = s :=
  s.sendIfFree_of_not_maySend (by simp [State.maySend, h])

/-- A frame that begins leaves the line's own BREAK and the stuck flag alone. -/
@[simp] theorem State.beginFrame_breakDrive (s : State) :
    s.beginFrame.notices.breakDrive = s.notices.breakDrive := by
  unfold State.beginFrame
  split <;> rfl

@[simp] theorem State.beginFrame_stuck (s : State) :
    s.beginFrame.notices.stuck = s.notices.stuck := by
  unfold State.beginFrame
  split <;> rfl

@[simp] theorem State.sendIfFree_breakDrive (s : State) :
    s.sendIfFree.notices.breakDrive = s.notices.breakDrive := by
  unfold State.sendIfFree
  split <;> simp

@[simp] theorem State.sendIfFree_stuck (s : State) :
    s.sendIfFree.notices.stuck = s.notices.stuck := by
  unfold State.sendIfFree
  split <;> simp

/-- A frame that begins takes the station from FREE to FRAME. -/
theorem State.beginFrame_link (s : State) :
    s.beginFrame.notices.link = .frame ⟨[], s.notices.outbound.lowest.isSome⟩ := by
  unfold State.beginFrame
  split <;> simp_all

@[simp] theorem State.recordFault_settings (s : State) (n : Notice) : (s.recordFault n).settings = s.settings := by
  unfold State.recordFault; try dsimp only
  repeat' split
  all_goals simp
@[simp] theorem State.recordFault_table (s : State) (n : Notice) : (s.recordFault n).table = s.table := by
  unfold State.recordFault; try dsimp only
  repeat' split
  all_goals simp
@[simp] theorem State.recordFault_rails (s : State) (n : Notice) : (s.recordFault n).rails = s.rails := by
  unfold State.recordFault; try dsimp only
  repeat' split
  all_goals simp
@[simp] theorem State.recordFault_ctl (s : State) (n : Notice) : (s.recordFault n).ctl = s.ctl := by
  unfold State.recordFault; try dsimp only
  repeat' split
  all_goals simp
@[simp] theorem State.recordFault_front (s : State) (n : Notice) : (s.recordFault n).front = s.front := by
  unfold State.recordFault; try dsimp only
  repeat' split
  all_goals simp
@[simp] theorem State.recordFault_timers (s : State) (n : Notice) : (s.recordFault n).timers = s.timers := by
  unfold State.recordFault; try dsimp only
  repeat' split
  all_goals simp
@[simp] theorem State.recordFault_holdUp (s : State) (n : Notice) : (s.recordFault n).holdUp = s.holdUp := by
  unfold State.recordFault; try dsimp only
  repeat' split
  all_goals simp
@[simp] theorem State.recordFault_line (s : State) (n : Notice) : (s.recordFault n).line = s.line := by
  unfold State.recordFault; try dsimp only
  repeat' split
  all_goals simp
@[simp] theorem State.recordFault_notices (s : State) (n : Notice) : (s.recordFault n).notices = s.notices := by
  unfold State.recordFault; try dsimp only
  repeat' split
  all_goals simp
@[simp] theorem State.recordFault_seq (s : State) (n : Notice) : (s.recordFault n).seq = s.seq := by
  unfold State.recordFault; try dsimp only
  repeat' split
  all_goals simp
@[simp] theorem State.recordFault_last (s : State) (n : Notice) : (s.recordFault n).last = s.last := by
  unfold State.recordFault; try dsimp only
  repeat' split
  all_goals simp
@[simp] theorem State.recordFault_mute (s : State) (n : Notice) : (s.recordFault n).mute = s.mute := by
  unfold State.recordFault; try dsimp only
  repeat' split
  all_goals simp
@[simp] theorem State.recordFault_dim (s : State) (n : Notice) : (s.recordFault n).dim = s.dim := by
  unfold State.recordFault; try dsimp only
  repeat' split
  all_goals simp
@[simp] theorem State.recordFault_port (s : State) (n : Notice) : (s.recordFault n).port = s.port := by
  unfold State.recordFault; try dsimp only
  repeat' split
  all_goals simp
@[simp] theorem State.recordFault_loader (s : State) (n : Notice) : (s.recordFault n).loader = s.loader := by
  unfold State.recordFault; try dsimp only
  repeat' split
  all_goals simp
@[simp] theorem State.recordFault_freeIndex (s : State) (n : Notice) : (s.recordFault n).freeIndex = s.freeIndex := by
  unfold State.recordFault; try dsimp only
  repeat' split
  all_goals simp
@[simp] theorem State.recordFault_pending (s : State) (n : Notice) : (s.recordFault n).pending = s.pending := by
  unfold State.recordFault; try dsimp only
  repeat' split
  all_goals simp

@[simp] theorem State.recordClash_settings (s : State) : (s.recordClash).settings = s.settings := by
  unfold State.recordClash; try dsimp only
  repeat' split
  all_goals simp
@[simp] theorem State.recordClash_table (s : State) : (s.recordClash).table = s.table := by
  unfold State.recordClash; try dsimp only
  repeat' split
  all_goals simp
@[simp] theorem State.recordClash_rails (s : State) : (s.recordClash).rails = s.rails := by
  unfold State.recordClash; try dsimp only
  repeat' split
  all_goals simp
@[simp] theorem State.recordClash_ctl (s : State) : (s.recordClash).ctl = s.ctl := by
  unfold State.recordClash; try dsimp only
  repeat' split
  all_goals simp
@[simp] theorem State.recordClash_front (s : State) : (s.recordClash).front = s.front := by
  unfold State.recordClash; try dsimp only
  repeat' split
  all_goals simp
@[simp] theorem State.recordClash_timers (s : State) : (s.recordClash).timers = s.timers := by
  unfold State.recordClash; try dsimp only
  repeat' split
  all_goals simp
@[simp] theorem State.recordClash_holdUp (s : State) : (s.recordClash).holdUp = s.holdUp := by
  unfold State.recordClash; try dsimp only
  repeat' split
  all_goals simp
@[simp] theorem State.recordClash_line (s : State) : (s.recordClash).line = s.line := by
  unfold State.recordClash; try dsimp only
  repeat' split
  all_goals simp
@[simp] theorem State.recordClash_last (s : State) : (s.recordClash).last = s.last := by
  unfold State.recordClash; try dsimp only
  repeat' split
  all_goals simp
@[simp] theorem State.recordClash_mute (s : State) : (s.recordClash).mute = s.mute := by
  unfold State.recordClash; try dsimp only
  repeat' split
  all_goals simp
@[simp] theorem State.recordClash_dim (s : State) : (s.recordClash).dim = s.dim := by
  unfold State.recordClash; try dsimp only
  repeat' split
  all_goals simp
@[simp] theorem State.recordClash_port (s : State) : (s.recordClash).port = s.port := by
  unfold State.recordClash; try dsimp only
  repeat' split
  all_goals simp
@[simp] theorem State.recordClash_loader (s : State) : (s.recordClash).loader = s.loader := by
  unfold State.recordClash; try dsimp only
  repeat' split
  all_goals simp
@[simp] theorem State.recordClash_freeIndex (s : State) : (s.recordClash).freeIndex = s.freeIndex := by
  unfold State.recordClash; try dsimp only
  repeat' split
  all_goals simp
@[simp] theorem State.recordClash_pending (s : State) : (s.recordClash).pending = s.pending := by
  unfold State.recordClash; try dsimp only
  repeat' split
  all_goals simp

@[simp] theorem State.joinBlankWait_settings (s : State) : (s.joinBlankWait).settings = s.settings := by
  unfold State.joinBlankWait; try dsimp only
  repeat' split
  all_goals simp
@[simp] theorem State.joinBlankWait_table (s : State) : (s.joinBlankWait).table = s.table := by
  unfold State.joinBlankWait; try dsimp only
  repeat' split
  all_goals simp
@[simp] theorem State.joinBlankWait_rails (s : State) : (s.joinBlankWait).rails = s.rails := by
  unfold State.joinBlankWait; try dsimp only
  repeat' split
  all_goals simp
@[simp] theorem State.joinBlankWait_front (s : State) : (s.joinBlankWait).front = s.front := by
  unfold State.joinBlankWait; try dsimp only
  repeat' split
  all_goals simp
@[simp] theorem State.joinBlankWait_timers (s : State) : (s.joinBlankWait).timers = s.timers := by
  unfold State.joinBlankWait; try dsimp only
  repeat' split
  all_goals simp
@[simp] theorem State.joinBlankWait_holdUp (s : State) : (s.joinBlankWait).holdUp = s.holdUp := by
  unfold State.joinBlankWait; try dsimp only
  repeat' split
  all_goals simp
@[simp] theorem State.joinBlankWait_line (s : State) : (s.joinBlankWait).line = s.line := by
  unfold State.joinBlankWait; try dsimp only
  repeat' split
  all_goals simp
@[simp] theorem State.joinBlankWait_notices (s : State) : (s.joinBlankWait).notices = s.notices := by
  unfold State.joinBlankWait; try dsimp only
  repeat' split
  all_goals simp
@[simp] theorem State.joinBlankWait_seq (s : State) : (s.joinBlankWait).seq = s.seq := by
  unfold State.joinBlankWait; try dsimp only
  repeat' split
  all_goals simp
@[simp] theorem State.joinBlankWait_cur (s : State) : (s.joinBlankWait).cur = s.cur := by
  unfold State.joinBlankWait; try dsimp only
  repeat' split
  all_goals simp
@[simp] theorem State.joinBlankWait_last (s : State) : (s.joinBlankWait).last = s.last := by
  unfold State.joinBlankWait; try dsimp only
  repeat' split
  all_goals simp
@[simp] theorem State.joinBlankWait_mute (s : State) : (s.joinBlankWait).mute = s.mute := by
  unfold State.joinBlankWait; try dsimp only
  repeat' split
  all_goals simp
@[simp] theorem State.joinBlankWait_dim (s : State) : (s.joinBlankWait).dim = s.dim := by
  unfold State.joinBlankWait; try dsimp only
  repeat' split
  all_goals simp
@[simp] theorem State.joinBlankWait_port (s : State) : (s.joinBlankWait).port = s.port := by
  unfold State.joinBlankWait; try dsimp only
  repeat' split
  all_goals simp
@[simp] theorem State.joinBlankWait_loader (s : State) : (s.joinBlankWait).loader = s.loader := by
  unfold State.joinBlankWait; try dsimp only
  repeat' split
  all_goals simp
@[simp] theorem State.joinBlankWait_freeIndex (s : State) : (s.joinBlankWait).freeIndex = s.freeIndex := by
  unfold State.joinBlankWait; try dsimp only
  repeat' split
  all_goals simp
@[simp] theorem State.joinBlankWait_pending (s : State) : (s.joinBlankWait).pending = s.pending := by
  unfold State.joinBlankWait; try dsimp only
  repeat' split
  all_goals simp

@[simp] theorem State.tidyBlankWait_settings (s : State) : (s.tidyBlankWait).settings = s.settings := by
  unfold State.tidyBlankWait; try dsimp only
  repeat' split
  all_goals simp
@[simp] theorem State.tidyBlankWait_table (s : State) : (s.tidyBlankWait).table = s.table := by
  unfold State.tidyBlankWait; try dsimp only
  repeat' split
  all_goals simp
@[simp] theorem State.tidyBlankWait_rails (s : State) : (s.tidyBlankWait).rails = s.rails := by
  unfold State.tidyBlankWait; try dsimp only
  repeat' split
  all_goals simp
@[simp] theorem State.tidyBlankWait_front (s : State) : (s.tidyBlankWait).front = s.front := by
  unfold State.tidyBlankWait; try dsimp only
  repeat' split
  all_goals simp
@[simp] theorem State.tidyBlankWait_timers (s : State) : (s.tidyBlankWait).timers = s.timers := by
  unfold State.tidyBlankWait; try dsimp only
  repeat' split
  all_goals simp
@[simp] theorem State.tidyBlankWait_holdUp (s : State) : (s.tidyBlankWait).holdUp = s.holdUp := by
  unfold State.tidyBlankWait; try dsimp only
  repeat' split
  all_goals simp
@[simp] theorem State.tidyBlankWait_line (s : State) : (s.tidyBlankWait).line = s.line := by
  unfold State.tidyBlankWait; try dsimp only
  repeat' split
  all_goals simp
@[simp] theorem State.tidyBlankWait_notices (s : State) : (s.tidyBlankWait).notices = s.notices := by
  unfold State.tidyBlankWait; try dsimp only
  repeat' split
  all_goals simp
@[simp] theorem State.tidyBlankWait_seq (s : State) : (s.tidyBlankWait).seq = s.seq := by
  unfold State.tidyBlankWait; try dsimp only
  repeat' split
  all_goals simp
@[simp] theorem State.tidyBlankWait_cur (s : State) : (s.tidyBlankWait).cur = s.cur := by
  unfold State.tidyBlankWait; try dsimp only
  repeat' split
  all_goals simp
@[simp] theorem State.tidyBlankWait_last (s : State) : (s.tidyBlankWait).last = s.last := by
  unfold State.tidyBlankWait; try dsimp only
  repeat' split
  all_goals simp
@[simp] theorem State.tidyBlankWait_mute (s : State) : (s.tidyBlankWait).mute = s.mute := by
  unfold State.tidyBlankWait; try dsimp only
  repeat' split
  all_goals simp
@[simp] theorem State.tidyBlankWait_dim (s : State) : (s.tidyBlankWait).dim = s.dim := by
  unfold State.tidyBlankWait; try dsimp only
  repeat' split
  all_goals simp
@[simp] theorem State.tidyBlankWait_port (s : State) : (s.tidyBlankWait).port = s.port := by
  unfold State.tidyBlankWait; try dsimp only
  repeat' split
  all_goals simp
@[simp] theorem State.tidyBlankWait_loader (s : State) : (s.tidyBlankWait).loader = s.loader := by
  unfold State.tidyBlankWait; try dsimp only
  repeat' split
  all_goals simp
@[simp] theorem State.tidyBlankWait_freeIndex (s : State) : (s.tidyBlankWait).freeIndex = s.freeIndex := by
  unfold State.tidyBlankWait; try dsimp only
  repeat' split
  all_goals simp
@[simp] theorem State.tidyBlankWait_pending (s : State) : (s.tidyBlankWait).pending = s.pending := by
  unfold State.tidyBlankWait; try dsimp only
  repeat' split
  all_goals simp

@[simp] theorem State.reportRailFault_settings (s : State) (i : Fin 8) (r : RailReason) : (s.reportRailFault i r).settings = s.settings := by
  unfold State.reportRailFault; try dsimp only
  repeat' split
  all_goals simp
@[simp] theorem State.reportRailFault_table (s : State) (i : Fin 8) (r : RailReason) : (s.reportRailFault i r).table = s.table := by
  unfold State.reportRailFault; try dsimp only
  repeat' split
  all_goals simp
@[simp] theorem State.reportRailFault_rails (s : State) (i : Fin 8) (r : RailReason) : (s.reportRailFault i r).rails = s.rails := by
  unfold State.reportRailFault; try dsimp only
  repeat' split
  all_goals simp
@[simp] theorem State.reportRailFault_ctl (s : State) (i : Fin 8) (r : RailReason) : (s.reportRailFault i r).ctl = s.ctl := by
  unfold State.reportRailFault; try dsimp only
  repeat' split
  all_goals simp
@[simp] theorem State.reportRailFault_front (s : State) (i : Fin 8) (r : RailReason) : (s.reportRailFault i r).front = s.front := by
  unfold State.reportRailFault; try dsimp only
  repeat' split
  all_goals simp
@[simp] theorem State.reportRailFault_timers (s : State) (i : Fin 8) (r : RailReason) : (s.reportRailFault i r).timers = s.timers := by
  unfold State.reportRailFault; try dsimp only
  repeat' split
  all_goals simp
@[simp] theorem State.reportRailFault_holdUp (s : State) (i : Fin 8) (r : RailReason) : (s.reportRailFault i r).holdUp = s.holdUp := by
  unfold State.reportRailFault; try dsimp only
  repeat' split
  all_goals simp
@[simp] theorem State.reportRailFault_line (s : State) (i : Fin 8) (r : RailReason) : (s.reportRailFault i r).line = s.line := by
  unfold State.reportRailFault; try dsimp only
  repeat' split
  all_goals simp
@[simp] theorem State.reportRailFault_seq (s : State) (i : Fin 8) (r : RailReason) : (s.reportRailFault i r).seq = s.seq := by
  unfold State.reportRailFault; try dsimp only
  repeat' split
  all_goals simp
@[simp] theorem State.reportRailFault_last (s : State) (i : Fin 8) (r : RailReason) : (s.reportRailFault i r).last = s.last := by
  unfold State.reportRailFault; try dsimp only
  repeat' split
  all_goals simp
@[simp] theorem State.reportRailFault_mute (s : State) (i : Fin 8) (r : RailReason) : (s.reportRailFault i r).mute = s.mute := by
  unfold State.reportRailFault; try dsimp only
  repeat' split
  all_goals simp
@[simp] theorem State.reportRailFault_dim (s : State) (i : Fin 8) (r : RailReason) : (s.reportRailFault i r).dim = s.dim := by
  unfold State.reportRailFault; try dsimp only
  repeat' split
  all_goals simp
@[simp] theorem State.reportRailFault_port (s : State) (i : Fin 8) (r : RailReason) : (s.reportRailFault i r).port = s.port := by
  unfold State.reportRailFault; try dsimp only
  repeat' split
  all_goals simp
@[simp] theorem State.reportRailFault_loader (s : State) (i : Fin 8) (r : RailReason) : (s.reportRailFault i r).loader = s.loader := by
  unfold State.reportRailFault; try dsimp only
  repeat' split
  all_goals simp
@[simp] theorem State.reportRailFault_freeIndex (s : State) (i : Fin 8) (r : RailReason) : (s.reportRailFault i r).freeIndex = s.freeIndex := by
  unfold State.reportRailFault; try dsimp only
  repeat' split
  all_goals simp
@[simp] theorem State.reportRailFault_pending (s : State) (i : Fin 8) (r : RailReason) : (s.reportRailFault i r).pending = s.pending := by
  unfold State.reportRailFault; try dsimp only
  repeat' split
  all_goals simp

@[simp] theorem State.reportRailSag_settings (s : State) : (s.reportRailSag).settings = s.settings := by
  unfold State.reportRailSag; try dsimp only
  repeat' split
  all_goals simp
@[simp] theorem State.reportRailSag_table (s : State) : (s.reportRailSag).table = s.table := by
  unfold State.reportRailSag; try dsimp only
  repeat' split
  all_goals simp
@[simp] theorem State.reportRailSag_rails (s : State) : (s.reportRailSag).rails = s.rails := by
  unfold State.reportRailSag; try dsimp only
  repeat' split
  all_goals simp
@[simp] theorem State.reportRailSag_ctl (s : State) : (s.reportRailSag).ctl = s.ctl := by
  unfold State.reportRailSag; try dsimp only
  repeat' split
  all_goals simp
@[simp] theorem State.reportRailSag_front (s : State) : (s.reportRailSag).front = s.front := by
  unfold State.reportRailSag; try dsimp only
  repeat' split
  all_goals simp
@[simp] theorem State.reportRailSag_timers (s : State) : (s.reportRailSag).timers = s.timers := by
  unfold State.reportRailSag; try dsimp only
  repeat' split
  all_goals simp
@[simp] theorem State.reportRailSag_holdUp (s : State) : (s.reportRailSag).holdUp = s.holdUp := by
  unfold State.reportRailSag; try dsimp only
  repeat' split
  all_goals simp
@[simp] theorem State.reportRailSag_line (s : State) : (s.reportRailSag).line = s.line := by
  unfold State.reportRailSag; try dsimp only
  repeat' split
  all_goals simp
@[simp] theorem State.reportRailSag_seq (s : State) : (s.reportRailSag).seq = s.seq := by
  unfold State.reportRailSag; try dsimp only
  repeat' split
  all_goals simp
@[simp] theorem State.reportRailSag_last (s : State) : (s.reportRailSag).last = s.last := by
  unfold State.reportRailSag; try dsimp only
  repeat' split
  all_goals simp
@[simp] theorem State.reportRailSag_mute (s : State) : (s.reportRailSag).mute = s.mute := by
  unfold State.reportRailSag; try dsimp only
  repeat' split
  all_goals simp
@[simp] theorem State.reportRailSag_dim (s : State) : (s.reportRailSag).dim = s.dim := by
  unfold State.reportRailSag; try dsimp only
  repeat' split
  all_goals simp
@[simp] theorem State.reportRailSag_port (s : State) : (s.reportRailSag).port = s.port := by
  unfold State.reportRailSag; try dsimp only
  repeat' split
  all_goals simp
@[simp] theorem State.reportRailSag_loader (s : State) : (s.reportRailSag).loader = s.loader := by
  unfold State.reportRailSag; try dsimp only
  repeat' split
  all_goals simp
@[simp] theorem State.reportRailSag_freeIndex (s : State) : (s.reportRailSag).freeIndex = s.freeIndex := by
  unfold State.reportRailSag; try dsimp only
  repeat' split
  all_goals simp
@[simp] theorem State.reportRailSag_pending (s : State) : (s.reportRailSag).pending = s.pending := by
  unfold State.reportRailSag; try dsimp only
  repeat' split
  all_goals simp

@[simp] theorem State.assertMute_settings (s : State) : (s.assertMute).settings = s.settings := by
  unfold State.assertMute; try dsimp only
  repeat' split
  all_goals simp
@[simp] theorem State.assertMute_table (s : State) : (s.assertMute).table = s.table := by
  unfold State.assertMute; try dsimp only
  repeat' split
  all_goals simp
@[simp] theorem State.assertMute_rails (s : State) : (s.assertMute).rails = s.rails := by
  unfold State.assertMute; try dsimp only
  repeat' split
  all_goals simp
@[simp] theorem State.assertMute_ctl (s : State) : (s.assertMute).ctl = s.ctl := by
  unfold State.assertMute; try dsimp only
  repeat' split
  all_goals simp
@[simp] theorem State.assertMute_front (s : State) : (s.assertMute).front = s.front := by
  unfold State.assertMute; try dsimp only
  repeat' split
  all_goals simp
@[simp] theorem State.assertMute_timers (s : State) : (s.assertMute).timers = s.timers := by
  unfold State.assertMute; try dsimp only
  repeat' split
  all_goals simp
@[simp] theorem State.assertMute_holdUp (s : State) : (s.assertMute).holdUp = s.holdUp := by
  unfold State.assertMute; try dsimp only
  repeat' split
  all_goals simp
@[simp] theorem State.assertMute_line (s : State) : (s.assertMute).line = s.line := by
  unfold State.assertMute; try dsimp only
  repeat' split
  all_goals simp
@[simp] theorem State.assertMute_notices (s : State) : (s.assertMute).notices = s.notices := by
  unfold State.assertMute; try dsimp only
  repeat' split
  all_goals simp
@[simp] theorem State.assertMute_seq (s : State) : (s.assertMute).seq = s.seq := by
  unfold State.assertMute; try dsimp only
  repeat' split
  all_goals simp
@[simp] theorem State.assertMute_cur (s : State) : (s.assertMute).cur = s.cur := by
  unfold State.assertMute; try dsimp only
  repeat' split
  all_goals simp
@[simp] theorem State.assertMute_last (s : State) : (s.assertMute).last = s.last := by
  unfold State.assertMute; try dsimp only
  repeat' split
  all_goals simp
@[simp] theorem State.assertMute_dim (s : State) : (s.assertMute).dim = s.dim := by
  unfold State.assertMute; try dsimp only
  repeat' split
  all_goals simp
@[simp] theorem State.assertMute_port (s : State) : (s.assertMute).port = s.port := by
  unfold State.assertMute; try dsimp only
  repeat' split
  all_goals simp
@[simp] theorem State.assertMute_loader (s : State) : (s.assertMute).loader = s.loader := by
  unfold State.assertMute; try dsimp only
  repeat' split
  all_goals simp
@[simp] theorem State.assertMute_freeIndex (s : State) : (s.assertMute).freeIndex = s.freeIndex := by
  unfold State.assertMute; try dsimp only
  repeat' split
  all_goals simp
@[simp] theorem State.assertMute_pending (s : State) : (s.assertMute).pending = s.pending := by
  unfold State.assertMute; try dsimp only
  repeat' split
  all_goals simp

@[simp] theorem State.refuseRollcall_settings (s : State) : (s.refuseRollcall).settings = s.settings := by
  unfold State.refuseRollcall; try dsimp only
  repeat' split
  all_goals simp
@[simp] theorem State.refuseRollcall_table (s : State) : (s.refuseRollcall).table = s.table := by
  unfold State.refuseRollcall; try dsimp only
  repeat' split
  all_goals simp
@[simp] theorem State.refuseRollcall_rails (s : State) : (s.refuseRollcall).rails = s.rails := by
  unfold State.refuseRollcall; try dsimp only
  repeat' split
  all_goals simp
@[simp] theorem State.refuseRollcall_ctl (s : State) : (s.refuseRollcall).ctl = s.ctl := by
  unfold State.refuseRollcall; try dsimp only
  repeat' split
  all_goals simp
@[simp] theorem State.refuseRollcall_front (s : State) : (s.refuseRollcall).front = s.front := by
  unfold State.refuseRollcall; try dsimp only
  repeat' split
  all_goals simp
@[simp] theorem State.refuseRollcall_timers (s : State) : (s.refuseRollcall).timers = s.timers := by
  unfold State.refuseRollcall; try dsimp only
  repeat' split
  all_goals simp
@[simp] theorem State.refuseRollcall_holdUp (s : State) : (s.refuseRollcall).holdUp = s.holdUp := by
  unfold State.refuseRollcall; try dsimp only
  repeat' split
  all_goals simp
@[simp] theorem State.refuseRollcall_line (s : State) : (s.refuseRollcall).line = s.line := by
  unfold State.refuseRollcall; try dsimp only
  repeat' split
  all_goals simp
@[simp] theorem State.refuseRollcall_seq (s : State) : (s.refuseRollcall).seq = s.seq := by
  unfold State.refuseRollcall; try dsimp only
  repeat' split
  all_goals simp
@[simp] theorem State.refuseRollcall_last (s : State) : (s.refuseRollcall).last = s.last := by
  unfold State.refuseRollcall; try dsimp only
  repeat' split
  all_goals simp
@[simp] theorem State.refuseRollcall_mute (s : State) : (s.refuseRollcall).mute = s.mute := by
  unfold State.refuseRollcall; try dsimp only
  repeat' split
  all_goals simp
@[simp] theorem State.refuseRollcall_dim (s : State) : (s.refuseRollcall).dim = s.dim := by
  unfold State.refuseRollcall; try dsimp only
  repeat' split
  all_goals simp
@[simp] theorem State.refuseRollcall_port (s : State) : (s.refuseRollcall).port = s.port := by
  unfold State.refuseRollcall; try dsimp only
  repeat' split
  all_goals simp
@[simp] theorem State.refuseRollcall_loader (s : State) : (s.refuseRollcall).loader = s.loader := by
  unfold State.refuseRollcall; try dsimp only
  repeat' split
  all_goals simp
@[simp] theorem State.refuseRollcall_freeIndex (s : State) : (s.refuseRollcall).freeIndex = s.freeIndex := by
  unfold State.refuseRollcall; try dsimp only
  repeat' split
  all_goals simp
@[simp] theorem State.refuseRollcall_pending (s : State) : (s.refuseRollcall).pending = s.pending := by
  unfold State.refuseRollcall; try dsimp only
  repeat' split
  all_goals simp

@[simp] theorem State.reportStandingSag_settings (s : State) : (s.reportStandingSag).settings = s.settings := by
  unfold State.reportStandingSag; try dsimp only
  repeat' split
  all_goals simp
@[simp] theorem State.reportStandingSag_table (s : State) : (s.reportStandingSag).table = s.table := by
  unfold State.reportStandingSag; try dsimp only
  repeat' split
  all_goals simp
@[simp] theorem State.reportStandingSag_rails (s : State) : (s.reportStandingSag).rails = s.rails := by
  unfold State.reportStandingSag; try dsimp only
  repeat' split
  all_goals simp
@[simp] theorem State.reportStandingSag_ctl (s : State) : (s.reportStandingSag).ctl = s.ctl := by
  unfold State.reportStandingSag; try dsimp only
  repeat' split
  all_goals simp
@[simp] theorem State.reportStandingSag_front (s : State) : (s.reportStandingSag).front = s.front := by
  unfold State.reportStandingSag; try dsimp only
  repeat' split
  all_goals simp
@[simp] theorem State.reportStandingSag_timers (s : State) : (s.reportStandingSag).timers = s.timers := by
  unfold State.reportStandingSag; try dsimp only
  repeat' split
  all_goals simp
@[simp] theorem State.reportStandingSag_holdUp (s : State) : (s.reportStandingSag).holdUp = s.holdUp := by
  unfold State.reportStandingSag; try dsimp only
  repeat' split
  all_goals simp
@[simp] theorem State.reportStandingSag_line (s : State) : (s.reportStandingSag).line = s.line := by
  unfold State.reportStandingSag; try dsimp only
  repeat' split
  all_goals simp
@[simp] theorem State.reportStandingSag_seq (s : State) : (s.reportStandingSag).seq = s.seq := by
  unfold State.reportStandingSag; try dsimp only
  repeat' split
  all_goals simp
@[simp] theorem State.reportStandingSag_last (s : State) : (s.reportStandingSag).last = s.last := by
  unfold State.reportStandingSag; try dsimp only
  repeat' split
  all_goals simp
@[simp] theorem State.reportStandingSag_mute (s : State) : (s.reportStandingSag).mute = s.mute := by
  unfold State.reportStandingSag; try dsimp only
  repeat' split
  all_goals simp
@[simp] theorem State.reportStandingSag_dim (s : State) : (s.reportStandingSag).dim = s.dim := by
  unfold State.reportStandingSag; try dsimp only
  repeat' split
  all_goals simp
@[simp] theorem State.reportStandingSag_port (s : State) : (s.reportStandingSag).port = s.port := by
  unfold State.reportStandingSag; try dsimp only
  repeat' split
  all_goals simp
@[simp] theorem State.reportStandingSag_loader (s : State) : (s.reportStandingSag).loader = s.loader := by
  unfold State.reportStandingSag; try dsimp only
  repeat' split
  all_goals simp
@[simp] theorem State.reportStandingSag_freeIndex (s : State) : (s.reportStandingSag).freeIndex = s.freeIndex := by
  unfold State.reportStandingSag; try dsimp only
  repeat' split
  all_goals simp
@[simp] theorem State.reportStandingSag_pending (s : State) : (s.reportStandingSag).pending = s.pending := by
  unfold State.reportStandingSag; try dsimp only
  repeat' split
  all_goals simp

@[simp] theorem State.startMuteIfPanel_settings (s : State) : (s.startMuteIfPanel).settings = s.settings := by
  unfold State.startMuteIfPanel; try dsimp only
  repeat' split
  all_goals simp
@[simp] theorem State.startMuteIfPanel_table (s : State) : (s.startMuteIfPanel).table = s.table := by
  unfold State.startMuteIfPanel; try dsimp only
  repeat' split
  all_goals simp
@[simp] theorem State.startMuteIfPanel_rails (s : State) : (s.startMuteIfPanel).rails = s.rails := by
  unfold State.startMuteIfPanel; try dsimp only
  repeat' split
  all_goals simp
@[simp] theorem State.startMuteIfPanel_ctl (s : State) : (s.startMuteIfPanel).ctl = s.ctl := by
  unfold State.startMuteIfPanel; try dsimp only
  repeat' split
  all_goals simp
@[simp] theorem State.startMuteIfPanel_front (s : State) : (s.startMuteIfPanel).front = s.front := by
  unfold State.startMuteIfPanel; try dsimp only
  repeat' split
  all_goals simp
@[simp] theorem State.startMuteIfPanel_holdUp (s : State) : (s.startMuteIfPanel).holdUp = s.holdUp := by
  unfold State.startMuteIfPanel; try dsimp only
  repeat' split
  all_goals simp
@[simp] theorem State.startMuteIfPanel_line (s : State) : (s.startMuteIfPanel).line = s.line := by
  unfold State.startMuteIfPanel; try dsimp only
  repeat' split
  all_goals simp
@[simp] theorem State.startMuteIfPanel_notices (s : State) : (s.startMuteIfPanel).notices = s.notices := by
  unfold State.startMuteIfPanel; try dsimp only
  repeat' split
  all_goals simp
@[simp] theorem State.startMuteIfPanel_seq (s : State) : (s.startMuteIfPanel).seq = s.seq := by
  unfold State.startMuteIfPanel; try dsimp only
  repeat' split
  all_goals simp
@[simp] theorem State.startMuteIfPanel_cur (s : State) : (s.startMuteIfPanel).cur = s.cur := by
  unfold State.startMuteIfPanel; try dsimp only
  repeat' split
  all_goals simp
@[simp] theorem State.startMuteIfPanel_last (s : State) : (s.startMuteIfPanel).last = s.last := by
  unfold State.startMuteIfPanel; try dsimp only
  repeat' split
  all_goals simp
@[simp] theorem State.startMuteIfPanel_mute (s : State) :
    (s.startMuteIfPanel).mute =
      (s.mute && !(s.settings.roles.panel && decide (s.settings.unmuteDelay = 0))) := by
  unfold State.startMuteIfPanel
  split <;> simp_all
@[simp] theorem State.startMuteIfPanel_dim (s : State) : (s.startMuteIfPanel).dim = s.dim := by
  unfold State.startMuteIfPanel; try dsimp only
  repeat' split
  all_goals simp
@[simp] theorem State.startMuteIfPanel_port (s : State) : (s.startMuteIfPanel).port = s.port := by
  unfold State.startMuteIfPanel; try dsimp only
  repeat' split
  all_goals simp
@[simp] theorem State.startMuteIfPanel_loader (s : State) : (s.startMuteIfPanel).loader = s.loader := by
  unfold State.startMuteIfPanel; try dsimp only
  repeat' split
  all_goals simp
@[simp] theorem State.startMuteIfPanel_freeIndex (s : State) : (s.startMuteIfPanel).freeIndex = s.freeIndex := by
  unfold State.startMuteIfPanel; try dsimp only
  repeat' split
  all_goals simp
@[simp] theorem State.startMuteIfPanel_pending (s : State) : (s.startMuteIfPanel).pending = s.pending := by
  unfold State.startMuteIfPanel; try dsimp only
  repeat' split
  all_goals simp

@[simp] theorem State.queueTally_settings (s : State) : (s.queueTally).settings = s.settings := by
  unfold State.queueTally; try dsimp only
  repeat' split
  all_goals simp
@[simp] theorem State.queueTally_table (s : State) : (s.queueTally).table = s.table := by
  unfold State.queueTally; try dsimp only
  repeat' split
  all_goals simp
@[simp] theorem State.queueTally_rails (s : State) : (s.queueTally).rails = s.rails := by
  unfold State.queueTally; try dsimp only
  repeat' split
  all_goals simp
@[simp] theorem State.queueTally_ctl (s : State) : (s.queueTally).ctl = s.ctl := by
  unfold State.queueTally; try dsimp only
  repeat' split
  all_goals simp
@[simp] theorem State.queueTally_front (s : State) : (s.queueTally).front = s.front := by
  unfold State.queueTally; try dsimp only
  repeat' split
  all_goals simp
@[simp] theorem State.queueTally_timers (s : State) : (s.queueTally).timers = s.timers := by
  unfold State.queueTally; try dsimp only
  repeat' split
  all_goals simp
@[simp] theorem State.queueTally_holdUp (s : State) : (s.queueTally).holdUp = s.holdUp := by
  unfold State.queueTally; try dsimp only
  repeat' split
  all_goals simp
@[simp] theorem State.queueTally_line (s : State) : (s.queueTally).line = s.line := by
  unfold State.queueTally; try dsimp only
  repeat' split
  all_goals simp
@[simp] theorem State.queueTally_last (s : State) : (s.queueTally).last = s.last := by
  unfold State.queueTally; try dsimp only
  repeat' split
  all_goals simp
@[simp] theorem State.queueTally_mute (s : State) : (s.queueTally).mute = s.mute := by
  unfold State.queueTally; try dsimp only
  repeat' split
  all_goals simp
@[simp] theorem State.queueTally_dim (s : State) : (s.queueTally).dim = s.dim := by
  unfold State.queueTally; try dsimp only
  repeat' split
  all_goals simp
@[simp] theorem State.queueTally_port (s : State) : (s.queueTally).port = s.port := by
  unfold State.queueTally; try dsimp only
  repeat' split
  all_goals simp
@[simp] theorem State.queueTally_loader (s : State) : (s.queueTally).loader = s.loader := by
  unfold State.queueTally; try dsimp only
  repeat' split
  all_goals simp
@[simp] theorem State.queueTally_freeIndex (s : State) : (s.queueTally).freeIndex = s.freeIndex := by
  unfold State.queueTally; try dsimp only
  repeat' split
  all_goals simp
@[simp] theorem State.queueTally_pending (s : State) : (s.queueTally).pending = s.pending := by
  unfold State.queueTally; try dsimp only
  repeat' split
  all_goals simp

@[simp] theorem State.requesterDropped_settings (s : State) (k : Kind) : (s.requesterDropped k).settings = s.settings := by
  unfold State.requesterDropped; try dsimp only
  repeat' split
  all_goals simp
@[simp] theorem State.requesterDropped_table (s : State) (k : Kind) : (s.requesterDropped k).table = s.table := by
  unfold State.requesterDropped; try dsimp only
  repeat' split
  all_goals simp
@[simp] theorem State.requesterDropped_rails (s : State) (k : Kind) : (s.requesterDropped k).rails = s.rails := by
  unfold State.requesterDropped; try dsimp only
  repeat' split
  all_goals simp
@[simp] theorem State.requesterDropped_ctl (s : State) (k : Kind) : (s.requesterDropped k).ctl = s.ctl := by
  unfold State.requesterDropped; try dsimp only
  repeat' split
  all_goals simp
@[simp] theorem State.requesterDropped_front (s : State) (k : Kind) : (s.requesterDropped k).front = s.front := by
  unfold State.requesterDropped; try dsimp only
  repeat' split
  all_goals simp
@[simp] theorem State.requesterDropped_timers (s : State) (k : Kind) : (s.requesterDropped k).timers = s.timers := by
  unfold State.requesterDropped; try dsimp only
  repeat' split
  all_goals simp
@[simp] theorem State.requesterDropped_holdUp (s : State) (k : Kind) : (s.requesterDropped k).holdUp = s.holdUp := by
  unfold State.requesterDropped; try dsimp only
  repeat' split
  all_goals simp
@[simp] theorem State.requesterDropped_line (s : State) (k : Kind) : (s.requesterDropped k).line = s.line := by
  unfold State.requesterDropped; try dsimp only
  repeat' split
  all_goals simp
@[simp] theorem State.requesterDropped_last (s : State) (k : Kind) : (s.requesterDropped k).last = s.last := by
  unfold State.requesterDropped; try dsimp only
  repeat' split
  all_goals simp
@[simp] theorem State.requesterDropped_mute (s : State) (k : Kind) : (s.requesterDropped k).mute = s.mute := by
  unfold State.requesterDropped; try dsimp only
  repeat' split
  all_goals simp
@[simp] theorem State.requesterDropped_dim (s : State) (k : Kind) : (s.requesterDropped k).dim = s.dim := by
  unfold State.requesterDropped; try dsimp only
  repeat' split
  all_goals simp
@[simp] theorem State.requesterDropped_port (s : State) (k : Kind) : (s.requesterDropped k).port = s.port := by
  unfold State.requesterDropped; try dsimp only
  repeat' split
  all_goals simp
@[simp] theorem State.requesterDropped_loader (s : State) (k : Kind) : (s.requesterDropped k).loader = s.loader := by
  unfold State.requesterDropped; try dsimp only
  repeat' split
  all_goals simp
@[simp] theorem State.requesterDropped_freeIndex (s : State) (k : Kind) : (s.requesterDropped k).freeIndex = s.freeIndex := by
  unfold State.requesterDropped; try dsimp only
  repeat' split
  all_goals simp
@[simp] theorem State.requesterDropped_pending (s : State) (k : Kind) : (s.requesterDropped k).pending = s.pending := by
  unfold State.requesterDropped; try dsimp only
  repeat' split
  all_goals simp

@[simp] theorem State.dropNotice_settings (s : State) (k : Kind) : (s.dropNotice k).settings = s.settings := by
  unfold State.dropNotice; try dsimp only
  repeat' split
  all_goals simp
@[simp] theorem State.dropNotice_table (s : State) (k : Kind) : (s.dropNotice k).table = s.table := by
  unfold State.dropNotice; try dsimp only
  repeat' split
  all_goals simp
@[simp] theorem State.dropNotice_rails (s : State) (k : Kind) : (s.dropNotice k).rails = s.rails := by
  unfold State.dropNotice; try dsimp only
  repeat' split
  all_goals simp
@[simp] theorem State.dropNotice_ctl (s : State) (k : Kind) : (s.dropNotice k).ctl = s.ctl := by
  unfold State.dropNotice; try dsimp only
  repeat' split
  all_goals simp
@[simp] theorem State.dropNotice_front (s : State) (k : Kind) : (s.dropNotice k).front = s.front := by
  unfold State.dropNotice; try dsimp only
  repeat' split
  all_goals simp
@[simp] theorem State.dropNotice_timers (s : State) (k : Kind) : (s.dropNotice k).timers = s.timers := by
  unfold State.dropNotice; try dsimp only
  repeat' split
  all_goals simp
@[simp] theorem State.dropNotice_holdUp (s : State) (k : Kind) : (s.dropNotice k).holdUp = s.holdUp := by
  unfold State.dropNotice; try dsimp only
  repeat' split
  all_goals simp
@[simp] theorem State.dropNotice_line (s : State) (k : Kind) : (s.dropNotice k).line = s.line := by
  unfold State.dropNotice; try dsimp only
  repeat' split
  all_goals simp
@[simp] theorem State.dropNotice_last (s : State) (k : Kind) : (s.dropNotice k).last = s.last := by
  unfold State.dropNotice; try dsimp only
  repeat' split
  all_goals simp
@[simp] theorem State.dropNotice_mute (s : State) (k : Kind) : (s.dropNotice k).mute = s.mute := by
  unfold State.dropNotice; try dsimp only
  repeat' split
  all_goals simp
@[simp] theorem State.dropNotice_dim (s : State) (k : Kind) : (s.dropNotice k).dim = s.dim := by
  unfold State.dropNotice; try dsimp only
  repeat' split
  all_goals simp
@[simp] theorem State.dropNotice_port (s : State) (k : Kind) : (s.dropNotice k).port = s.port := by
  unfold State.dropNotice; try dsimp only
  repeat' split
  all_goals simp
@[simp] theorem State.dropNotice_loader (s : State) (k : Kind) : (s.dropNotice k).loader = s.loader := by
  unfold State.dropNotice; try dsimp only
  repeat' split
  all_goals simp
@[simp] theorem State.dropNotice_freeIndex (s : State) (k : Kind) : (s.dropNotice k).freeIndex = s.freeIndex := by
  unfold State.dropNotice; try dsimp only
  repeat' split
  all_goals simp
@[simp] theorem State.dropNotice_pending (s : State) (k : Kind) : (s.dropNotice k).pending = s.pending := by
  unfold State.dropNotice; try dsimp only
  repeat' split
  all_goals simp

@[simp] theorem State.returnInFlight_settings (s : State) (c : Bool) : (s.returnInFlight c).settings = s.settings := by
  unfold State.returnInFlight; try dsimp only
  repeat' split
  all_goals simp
@[simp] theorem State.returnInFlight_table (s : State) (c : Bool) : (s.returnInFlight c).table = s.table := by
  unfold State.returnInFlight; try dsimp only
  repeat' split
  all_goals simp
@[simp] theorem State.returnInFlight_rails (s : State) (c : Bool) : (s.returnInFlight c).rails = s.rails := by
  unfold State.returnInFlight; try dsimp only
  repeat' split
  all_goals simp
@[simp] theorem State.returnInFlight_ctl (s : State) (c : Bool) : (s.returnInFlight c).ctl = s.ctl := by
  unfold State.returnInFlight; try dsimp only
  repeat' split
  all_goals simp
@[simp] theorem State.returnInFlight_front (s : State) (c : Bool) : (s.returnInFlight c).front = s.front := by
  unfold State.returnInFlight; try dsimp only
  repeat' split
  all_goals simp
@[simp] theorem State.returnInFlight_timers (s : State) (c : Bool) : (s.returnInFlight c).timers = s.timers := by
  unfold State.returnInFlight; try dsimp only
  repeat' split
  all_goals simp
@[simp] theorem State.returnInFlight_holdUp (s : State) (c : Bool) : (s.returnInFlight c).holdUp = s.holdUp := by
  unfold State.returnInFlight; try dsimp only
  repeat' split
  all_goals simp
@[simp] theorem State.returnInFlight_line (s : State) (c : Bool) : (s.returnInFlight c).line = s.line := by
  unfold State.returnInFlight; try dsimp only
  repeat' split
  all_goals simp
@[simp] theorem State.returnInFlight_last (s : State) (c : Bool) : (s.returnInFlight c).last = s.last := by
  unfold State.returnInFlight; try dsimp only
  repeat' split
  all_goals simp
@[simp] theorem State.returnInFlight_mute (s : State) (c : Bool) : (s.returnInFlight c).mute = s.mute := by
  unfold State.returnInFlight; try dsimp only
  repeat' split
  all_goals simp
@[simp] theorem State.returnInFlight_dim (s : State) (c : Bool) : (s.returnInFlight c).dim = s.dim := by
  unfold State.returnInFlight; try dsimp only
  repeat' split
  all_goals simp
@[simp] theorem State.returnInFlight_port (s : State) (c : Bool) : (s.returnInFlight c).port = s.port := by
  unfold State.returnInFlight; try dsimp only
  repeat' split
  all_goals simp
@[simp] theorem State.returnInFlight_loader (s : State) (c : Bool) : (s.returnInFlight c).loader = s.loader := by
  unfold State.returnInFlight; try dsimp only
  repeat' split
  all_goals simp
@[simp] theorem State.returnInFlight_freeIndex (s : State) (c : Bool) : (s.returnInFlight c).freeIndex = s.freeIndex := by
  unfold State.returnInFlight; try dsimp only
  repeat' split
  all_goals simp
@[simp] theorem State.returnInFlight_pending (s : State) (c : Bool) : (s.returnInFlight c).pending = s.pending := by
  unfold State.returnInFlight; try dsimp only
  repeat' split
  all_goals simp

@[simp] theorem State.withdrawForTaken_settings (s : State) (k : Kind) (own : Bool) : (s.withdrawForTaken k own).settings = s.settings := by
  unfold State.withdrawForTaken; try dsimp only
  repeat' split
  all_goals simp
@[simp] theorem State.withdrawForTaken_table (s : State) (k : Kind) (own : Bool) : (s.withdrawForTaken k own).table = s.table := by
  unfold State.withdrawForTaken; try dsimp only
  repeat' split
  all_goals simp
@[simp] theorem State.withdrawForTaken_rails (s : State) (k : Kind) (own : Bool) : (s.withdrawForTaken k own).rails = s.rails := by
  unfold State.withdrawForTaken; try dsimp only
  repeat' split
  all_goals simp
@[simp] theorem State.withdrawForTaken_ctl (s : State) (k : Kind) (own : Bool) : (s.withdrawForTaken k own).ctl = s.ctl := by
  unfold State.withdrawForTaken; try dsimp only
  repeat' split
  all_goals simp
@[simp] theorem State.withdrawForTaken_front (s : State) (k : Kind) (own : Bool) : (s.withdrawForTaken k own).front = s.front := by
  unfold State.withdrawForTaken; try dsimp only
  repeat' split
  all_goals simp
@[simp] theorem State.withdrawForTaken_timers (s : State) (k : Kind) (own : Bool) : (s.withdrawForTaken k own).timers = s.timers := by
  unfold State.withdrawForTaken; try dsimp only
  repeat' split
  all_goals simp
@[simp] theorem State.withdrawForTaken_holdUp (s : State) (k : Kind) (own : Bool) : (s.withdrawForTaken k own).holdUp = s.holdUp := by
  unfold State.withdrawForTaken; try dsimp only
  repeat' split
  all_goals simp
@[simp] theorem State.withdrawForTaken_line (s : State) (k : Kind) (own : Bool) : (s.withdrawForTaken k own).line = s.line := by
  unfold State.withdrawForTaken; try dsimp only
  repeat' split
  all_goals simp
@[simp] theorem State.withdrawForTaken_seq (s : State) (k : Kind) (own : Bool) : (s.withdrawForTaken k own).seq = s.seq := by
  unfold State.withdrawForTaken; try dsimp only
  repeat' split
  all_goals simp
@[simp] theorem State.withdrawForTaken_cur (s : State) (k : Kind) (own : Bool) : (s.withdrawForTaken k own).cur = s.cur := by
  unfold State.withdrawForTaken; try dsimp only
  repeat' split
  all_goals simp
@[simp] theorem State.withdrawForTaken_last (s : State) (k : Kind) (own : Bool) : (s.withdrawForTaken k own).last = s.last := by
  unfold State.withdrawForTaken; try dsimp only
  repeat' split
  all_goals simp
@[simp] theorem State.withdrawForTaken_mute (s : State) (k : Kind) (own : Bool) : (s.withdrawForTaken k own).mute = s.mute := by
  unfold State.withdrawForTaken; try dsimp only
  repeat' split
  all_goals simp
@[simp] theorem State.withdrawForTaken_dim (s : State) (k : Kind) (own : Bool) : (s.withdrawForTaken k own).dim = s.dim := by
  unfold State.withdrawForTaken; try dsimp only
  repeat' split
  all_goals simp
@[simp] theorem State.withdrawForTaken_port (s : State) (k : Kind) (own : Bool) : (s.withdrawForTaken k own).port = s.port := by
  unfold State.withdrawForTaken; try dsimp only
  repeat' split
  all_goals simp
@[simp] theorem State.withdrawForTaken_loader (s : State) (k : Kind) (own : Bool) : (s.withdrawForTaken k own).loader = s.loader := by
  unfold State.withdrawForTaken; try dsimp only
  repeat' split
  all_goals simp
@[simp] theorem State.withdrawForTaken_freeIndex (s : State) (k : Kind) (own : Bool) : (s.withdrawForTaken k own).freeIndex = s.freeIndex := by
  unfold State.withdrawForTaken; try dsimp only
  repeat' split
  all_goals simp
@[simp] theorem State.withdrawForTaken_pending (s : State) (k : Kind) (own : Bool) : (s.withdrawForTaken k own).pending = s.pending := by
  unfold State.withdrawForTaken; try dsimp only
  repeat' split
  all_goals simp

@[simp] theorem State.requestAtOff_settings (s : State) : (s.requestAtOff).settings = s.settings := by
  unfold State.requestAtOff; try dsimp only
  repeat' split
  all_goals simp
@[simp] theorem State.requestAtOff_table (s : State) : (s.requestAtOff).table = s.table := by
  unfold State.requestAtOff; try dsimp only
  repeat' split
  all_goals simp
@[simp] theorem State.requestAtOff_rails (s : State) : (s.requestAtOff).rails = s.rails := by
  unfold State.requestAtOff; try dsimp only
  repeat' split
  all_goals simp
@[simp] theorem State.requestAtOff_ctl (s : State) : (s.requestAtOff).ctl = s.ctl := by
  unfold State.requestAtOff; try dsimp only
  repeat' split
  all_goals simp
@[simp] theorem State.requestAtOff_front (s : State) : (s.requestAtOff).front = s.front := by
  unfold State.requestAtOff; try dsimp only
  repeat' split
  all_goals simp
@[simp] theorem State.requestAtOff_holdUp (s : State) : (s.requestAtOff).holdUp = s.holdUp := by
  unfold State.requestAtOff; try dsimp only
  repeat' split
  all_goals simp
@[simp] theorem State.requestAtOff_line (s : State) : (s.requestAtOff).line = s.line := by
  unfold State.requestAtOff; try dsimp only
  repeat' split
  all_goals simp
@[simp] theorem State.requestAtOff_last (s : State) : (s.requestAtOff).last = s.last := by
  unfold State.requestAtOff; try dsimp only
  repeat' split
  all_goals simp
@[simp] theorem State.requestAtOff_mute (s : State) : (s.requestAtOff).mute = s.mute := by
  unfold State.requestAtOff; try dsimp only
  repeat' split
  all_goals simp
@[simp] theorem State.requestAtOff_dim (s : State) : (s.requestAtOff).dim = s.dim := by
  unfold State.requestAtOff; try dsimp only
  repeat' split
  all_goals simp
@[simp] theorem State.requestAtOff_port (s : State) : (s.requestAtOff).port = s.port := by
  unfold State.requestAtOff; try dsimp only
  repeat' split
  all_goals simp
@[simp] theorem State.requestAtOff_loader (s : State) : (s.requestAtOff).loader = s.loader := by
  unfold State.requestAtOff; try dsimp only
  repeat' split
  all_goals simp
@[simp] theorem State.requestAtOff_freeIndex (s : State) : (s.requestAtOff).freeIndex = s.freeIndex := by
  unfold State.requestAtOff; try dsimp only
  repeat' split
  all_goals simp
@[simp] theorem State.requestAtOff_pending (s : State) : (s.requestAtOff).pending = s.pending := by
  unfold State.requestAtOff; try dsimp only
  repeat' split
  all_goals simp

@[simp] theorem State.requesterEntersOff_settings (s : State) : (s.requesterEntersOff).settings = s.settings := by
  unfold State.requesterEntersOff; try dsimp only
  repeat' split
  all_goals simp
@[simp] theorem State.requesterEntersOff_table (s : State) : (s.requesterEntersOff).table = s.table := by
  unfold State.requesterEntersOff; try dsimp only
  repeat' split
  all_goals simp
@[simp] theorem State.requesterEntersOff_rails (s : State) : (s.requesterEntersOff).rails = s.rails := by
  unfold State.requesterEntersOff; try dsimp only
  repeat' split
  all_goals simp
@[simp] theorem State.requesterEntersOff_ctl (s : State) : (s.requesterEntersOff).ctl = s.ctl := by
  unfold State.requesterEntersOff; try dsimp only
  repeat' split
  all_goals simp
@[simp] theorem State.requesterEntersOff_front (s : State) : (s.requesterEntersOff).front = s.front := by
  unfold State.requesterEntersOff; try dsimp only
  repeat' split
  all_goals simp
@[simp] theorem State.requesterEntersOff_holdUp (s : State) : (s.requesterEntersOff).holdUp = s.holdUp := by
  unfold State.requesterEntersOff; try dsimp only
  repeat' split
  all_goals simp
@[simp] theorem State.requesterEntersOff_line (s : State) : (s.requesterEntersOff).line = s.line := by
  unfold State.requesterEntersOff; try dsimp only
  repeat' split
  all_goals simp
@[simp] theorem State.requesterEntersOff_last (s : State) : (s.requesterEntersOff).last = s.last := by
  unfold State.requesterEntersOff; try dsimp only
  repeat' split
  all_goals simp
@[simp] theorem State.requesterEntersOff_mute (s : State) : (s.requesterEntersOff).mute = s.mute := by
  unfold State.requesterEntersOff; try dsimp only
  repeat' split
  all_goals simp
@[simp] theorem State.requesterEntersOff_dim (s : State) : (s.requesterEntersOff).dim = s.dim := by
  unfold State.requesterEntersOff; try dsimp only
  repeat' split
  all_goals simp
@[simp] theorem State.requesterEntersOff_port (s : State) : (s.requesterEntersOff).port = s.port := by
  unfold State.requesterEntersOff; try dsimp only
  repeat' split
  all_goals simp
@[simp] theorem State.requesterEntersOff_loader (s : State) : (s.requesterEntersOff).loader = s.loader := by
  unfold State.requesterEntersOff; try dsimp only
  repeat' split
  all_goals simp
@[simp] theorem State.requesterEntersOff_freeIndex (s : State) : (s.requesterEntersOff).freeIndex = s.freeIndex := by
  unfold State.requesterEntersOff; try dsimp only
  repeat' split
  all_goals simp
@[simp] theorem State.requesterEntersOff_pending (s : State) : (s.requesterEntersOff).pending = s.pending := by
  unfold State.requesterEntersOff; try dsimp only
  repeat' split
  all_goals simp

@[simp] theorem State.countTaken_settings (s : State) (n : Notice) : (s.countTaken n).settings = s.settings := by
  unfold State.countTaken; try dsimp only
  repeat' split
  all_goals simp
@[simp] theorem State.countTaken_table (s : State) (n : Notice) : (s.countTaken n).table = s.table := by
  unfold State.countTaken; try dsimp only
  repeat' split
  all_goals simp
@[simp] theorem State.countTaken_rails (s : State) (n : Notice) : (s.countTaken n).rails = s.rails := by
  unfold State.countTaken; try dsimp only
  repeat' split
  all_goals simp
@[simp] theorem State.countTaken_ctl (s : State) (n : Notice) : (s.countTaken n).ctl = s.ctl := by
  unfold State.countTaken; try dsimp only
  repeat' split
  all_goals simp
@[simp] theorem State.countTaken_front (s : State) (n : Notice) : (s.countTaken n).front = s.front := by
  unfold State.countTaken; try dsimp only
  repeat' split
  all_goals simp
@[simp] theorem State.countTaken_timers (s : State) (n : Notice) : (s.countTaken n).timers = s.timers := by
  unfold State.countTaken; try dsimp only
  repeat' split
  all_goals simp
@[simp] theorem State.countTaken_holdUp (s : State) (n : Notice) : (s.countTaken n).holdUp = s.holdUp := by
  unfold State.countTaken; try dsimp only
  repeat' split
  all_goals simp
@[simp] theorem State.countTaken_line (s : State) (n : Notice) : (s.countTaken n).line = s.line := by
  unfold State.countTaken; try dsimp only
  repeat' split
  all_goals simp
@[simp] theorem State.countTaken_notices (s : State) (n : Notice) : (s.countTaken n).notices = s.notices := by
  unfold State.countTaken; try dsimp only
  repeat' split
  all_goals simp
@[simp] theorem State.countTaken_last (s : State) (n : Notice) : (s.countTaken n).last = s.last := by
  unfold State.countTaken; try dsimp only
  repeat' split
  all_goals simp
@[simp] theorem State.countTaken_mute (s : State) (n : Notice) : (s.countTaken n).mute = s.mute := by
  unfold State.countTaken; try dsimp only
  repeat' split
  all_goals simp
@[simp] theorem State.countTaken_dim (s : State) (n : Notice) : (s.countTaken n).dim = s.dim := by
  unfold State.countTaken; try dsimp only
  repeat' split
  all_goals simp
@[simp] theorem State.countTaken_port (s : State) (n : Notice) : (s.countTaken n).port = s.port := by
  unfold State.countTaken; try dsimp only
  repeat' split
  all_goals simp
@[simp] theorem State.countTaken_loader (s : State) (n : Notice) : (s.countTaken n).loader = s.loader := by
  unfold State.countTaken; try dsimp only
  repeat' split
  all_goals simp
@[simp] theorem State.countTaken_freeIndex (s : State) (n : Notice) : (s.countTaken n).freeIndex = s.freeIndex := by
  unfold State.countTaken; try dsimp only
  repeat' split
  all_goals simp
@[simp] theorem State.countTaken_pending (s : State) (n : Notice) : (s.countTaken n).pending = s.pending := by
  unfold State.countTaken; try dsimp only
  repeat' split
  all_goals simp

@[simp] theorem State.checkClash_settings (s : State) (n : Notice) (own : Bool) : (s.checkClash n own).settings = s.settings := by
  unfold State.checkClash; try dsimp only
  repeat' split
  all_goals simp
@[simp] theorem State.checkClash_table (s : State) (n : Notice) (own : Bool) : (s.checkClash n own).table = s.table := by
  unfold State.checkClash; try dsimp only
  repeat' split
  all_goals simp
@[simp] theorem State.checkClash_rails (s : State) (n : Notice) (own : Bool) : (s.checkClash n own).rails = s.rails := by
  unfold State.checkClash; try dsimp only
  repeat' split
  all_goals simp
@[simp] theorem State.checkClash_ctl (s : State) (n : Notice) (own : Bool) : (s.checkClash n own).ctl = s.ctl := by
  unfold State.checkClash; try dsimp only
  repeat' split
  all_goals simp
@[simp] theorem State.checkClash_front (s : State) (n : Notice) (own : Bool) : (s.checkClash n own).front = s.front := by
  unfold State.checkClash; try dsimp only
  repeat' split
  all_goals simp
@[simp] theorem State.checkClash_timers (s : State) (n : Notice) (own : Bool) : (s.checkClash n own).timers = s.timers := by
  unfold State.checkClash; try dsimp only
  repeat' split
  all_goals simp
@[simp] theorem State.checkClash_holdUp (s : State) (n : Notice) (own : Bool) : (s.checkClash n own).holdUp = s.holdUp := by
  unfold State.checkClash; try dsimp only
  repeat' split
  all_goals simp
@[simp] theorem State.checkClash_line (s : State) (n : Notice) (own : Bool) : (s.checkClash n own).line = s.line := by
  unfold State.checkClash; try dsimp only
  repeat' split
  all_goals simp
@[simp] theorem State.checkClash_last (s : State) (n : Notice) (own : Bool) : (s.checkClash n own).last = s.last := by
  unfold State.checkClash; try dsimp only
  repeat' split
  all_goals simp
@[simp] theorem State.checkClash_mute (s : State) (n : Notice) (own : Bool) : (s.checkClash n own).mute = s.mute := by
  unfold State.checkClash; try dsimp only
  repeat' split
  all_goals simp
@[simp] theorem State.checkClash_dim (s : State) (n : Notice) (own : Bool) : (s.checkClash n own).dim = s.dim := by
  unfold State.checkClash; try dsimp only
  repeat' split
  all_goals simp
@[simp] theorem State.checkClash_port (s : State) (n : Notice) (own : Bool) : (s.checkClash n own).port = s.port := by
  unfold State.checkClash; try dsimp only
  repeat' split
  all_goals simp
@[simp] theorem State.checkClash_loader (s : State) (n : Notice) (own : Bool) : (s.checkClash n own).loader = s.loader := by
  unfold State.checkClash; try dsimp only
  repeat' split
  all_goals simp
@[simp] theorem State.checkClash_freeIndex (s : State) (n : Notice) (own : Bool) : (s.checkClash n own).freeIndex = s.freeIndex := by
  unfold State.checkClash; try dsimp only
  repeat' split
  all_goals simp
@[simp] theorem State.checkClash_pending (s : State) (n : Notice) (own : Bool) : (s.checkClash n own).pending = s.pending := by
  unfold State.checkClash; try dsimp only
  repeat' split
  all_goals simp

@[simp] theorem State.holdUpStopCapture_settings (s : State) : (s.holdUpStopCapture).settings = s.settings := by
  unfold State.holdUpStopCapture; try dsimp only
  repeat' split
  all_goals simp
@[simp] theorem State.holdUpStopCapture_table (s : State) : (s.holdUpStopCapture).table = s.table := by
  unfold State.holdUpStopCapture; try dsimp only
  repeat' split
  all_goals simp
@[simp] theorem State.holdUpStopCapture_rails (s : State) : (s.holdUpStopCapture).rails = s.rails := by
  unfold State.holdUpStopCapture; try dsimp only
  repeat' split
  all_goals simp
@[simp] theorem State.holdUpStopCapture_ctl (s : State) : (s.holdUpStopCapture).ctl = s.ctl := by
  unfold State.holdUpStopCapture; try dsimp only
  repeat' split
  all_goals simp
@[simp] theorem State.holdUpStopCapture_front (s : State) : (s.holdUpStopCapture).front = s.front := by
  unfold State.holdUpStopCapture; try dsimp only
  repeat' split
  all_goals simp
@[simp] theorem State.holdUpStopCapture_timers (s : State) : (s.holdUpStopCapture).timers = s.timers := by
  unfold State.holdUpStopCapture; try dsimp only
  repeat' split
  all_goals simp
@[simp] theorem State.holdUpStopCapture_line (s : State) : (s.holdUpStopCapture).line = s.line := by
  unfold State.holdUpStopCapture; try dsimp only
  repeat' split
  all_goals simp
@[simp] theorem State.holdUpStopCapture_notices (s : State) : (s.holdUpStopCapture).notices = s.notices := by
  unfold State.holdUpStopCapture; try dsimp only
  repeat' split
  all_goals simp
@[simp] theorem State.holdUpStopCapture_last (s : State) : (s.holdUpStopCapture).last = s.last := by
  unfold State.holdUpStopCapture; try dsimp only
  repeat' split
  all_goals simp
@[simp] theorem State.holdUpStopCapture_mute (s : State) : (s.holdUpStopCapture).mute = s.mute := by
  unfold State.holdUpStopCapture; try dsimp only
  repeat' split
  all_goals simp
@[simp] theorem State.holdUpStopCapture_dim (s : State) : (s.holdUpStopCapture).dim = s.dim := by
  unfold State.holdUpStopCapture; try dsimp only
  repeat' split
  all_goals simp
@[simp] theorem State.holdUpStopCapture_port (s : State) : (s.holdUpStopCapture).port = s.port := by
  unfold State.holdUpStopCapture; try dsimp only
  repeat' split
  all_goals simp
@[simp] theorem State.holdUpStopCapture_loader (s : State) : (s.holdUpStopCapture).loader = s.loader := by
  unfold State.holdUpStopCapture; try dsimp only
  repeat' split
  all_goals simp
@[simp] theorem State.holdUpStopCapture_freeIndex (s : State) : (s.holdUpStopCapture).freeIndex = s.freeIndex := by
  unfold State.holdUpStopCapture; try dsimp only
  repeat' split
  all_goals simp
@[simp] theorem State.holdUpStopCapture_pending (s : State) : (s.holdUpStopCapture).pending = s.pending := by
  unfold State.holdUpStopCapture; try dsimp only
  repeat' split
  all_goals simp

@[simp] theorem State.dimZero_settings (s : State) : (s.dimZero).settings = s.settings := by
  unfold State.dimZero; try dsimp only
  repeat' split
  all_goals simp
@[simp] theorem State.dimZero_table (s : State) : (s.dimZero).table = s.table := by
  unfold State.dimZero; try dsimp only
  repeat' split
  all_goals simp
@[simp] theorem State.dimZero_rails (s : State) : (s.dimZero).rails = s.rails := by
  unfold State.dimZero; try dsimp only
  repeat' split
  all_goals simp
@[simp] theorem State.dimZero_ctl (s : State) : (s.dimZero).ctl = s.ctl := by
  unfold State.dimZero; try dsimp only
  repeat' split
  all_goals simp
@[simp] theorem State.dimZero_front (s : State) : (s.dimZero).front = s.front := by
  unfold State.dimZero; try dsimp only
  repeat' split
  all_goals simp
@[simp] theorem State.dimZero_timers (s : State) : (s.dimZero).timers = s.timers := by
  unfold State.dimZero; try dsimp only
  repeat' split
  all_goals simp
@[simp] theorem State.dimZero_holdUp (s : State) : (s.dimZero).holdUp = s.holdUp := by
  unfold State.dimZero; try dsimp only
  repeat' split
  all_goals simp
@[simp] theorem State.dimZero_line (s : State) : (s.dimZero).line = s.line := by
  unfold State.dimZero; try dsimp only
  repeat' split
  all_goals simp
@[simp] theorem State.dimZero_notices (s : State) : (s.dimZero).notices = s.notices := by
  unfold State.dimZero; try dsimp only
  repeat' split
  all_goals simp
@[simp] theorem State.dimZero_seq (s : State) : (s.dimZero).seq = s.seq := by
  unfold State.dimZero; try dsimp only
  repeat' split
  all_goals simp
@[simp] theorem State.dimZero_cur (s : State) : (s.dimZero).cur = s.cur := by
  unfold State.dimZero; try dsimp only
  repeat' split
  all_goals simp
@[simp] theorem State.dimZero_last (s : State) : (s.dimZero).last = s.last := by
  unfold State.dimZero; try dsimp only
  repeat' split
  all_goals simp
@[simp] theorem State.dimZero_mute (s : State) : (s.dimZero).mute = s.mute := by
  unfold State.dimZero; try dsimp only
  repeat' split
  all_goals simp
@[simp] theorem State.dimZero_port (s : State) : (s.dimZero).port = s.port := by
  unfold State.dimZero; try dsimp only
  repeat' split
  all_goals simp
@[simp] theorem State.dimZero_loader (s : State) : (s.dimZero).loader = s.loader := by
  unfold State.dimZero; try dsimp only
  repeat' split
  all_goals simp
@[simp] theorem State.dimZero_freeIndex (s : State) : (s.dimZero).freeIndex = s.freeIndex := by
  unfold State.dimZero; try dsimp only
  repeat' split
  all_goals simp
@[simp] theorem State.dimZero_pending (s : State) : (s.dimZero).pending = s.pending := by
  unfold State.dimZero; try dsimp only
  repeat' split
  all_goals simp

@[simp] theorem State.dimZeroDark_settings (s : State) : (s.dimZeroDark).settings = s.settings := by
  unfold State.dimZeroDark; try dsimp only
  repeat' split
  all_goals simp
@[simp] theorem State.dimZeroDark_table (s : State) : (s.dimZeroDark).table = s.table := by
  unfold State.dimZeroDark; try dsimp only
  repeat' split
  all_goals simp
@[simp] theorem State.dimZeroDark_rails (s : State) : (s.dimZeroDark).rails = s.rails := by
  unfold State.dimZeroDark; try dsimp only
  repeat' split
  all_goals simp
@[simp] theorem State.dimZeroDark_ctl (s : State) : (s.dimZeroDark).ctl = s.ctl := by
  unfold State.dimZeroDark; try dsimp only
  repeat' split
  all_goals simp
@[simp] theorem State.dimZeroDark_front (s : State) : (s.dimZeroDark).front = s.front := by
  unfold State.dimZeroDark; try dsimp only
  repeat' split
  all_goals simp
@[simp] theorem State.dimZeroDark_timers (s : State) : (s.dimZeroDark).timers = s.timers := by
  unfold State.dimZeroDark; try dsimp only
  repeat' split
  all_goals simp
@[simp] theorem State.dimZeroDark_holdUp (s : State) : (s.dimZeroDark).holdUp = s.holdUp := by
  unfold State.dimZeroDark; try dsimp only
  repeat' split
  all_goals simp
@[simp] theorem State.dimZeroDark_line (s : State) : (s.dimZeroDark).line = s.line := by
  unfold State.dimZeroDark; try dsimp only
  repeat' split
  all_goals simp
@[simp] theorem State.dimZeroDark_notices (s : State) : (s.dimZeroDark).notices = s.notices := by
  unfold State.dimZeroDark; try dsimp only
  repeat' split
  all_goals simp
@[simp] theorem State.dimZeroDark_seq (s : State) : (s.dimZeroDark).seq = s.seq := by
  unfold State.dimZeroDark; try dsimp only
  repeat' split
  all_goals simp
@[simp] theorem State.dimZeroDark_cur (s : State) : (s.dimZeroDark).cur = s.cur := by
  unfold State.dimZeroDark; try dsimp only
  repeat' split
  all_goals simp
@[simp] theorem State.dimZeroDark_last (s : State) : (s.dimZeroDark).last = s.last := by
  unfold State.dimZeroDark; try dsimp only
  repeat' split
  all_goals simp
@[simp] theorem State.dimZeroDark_mute (s : State) : (s.dimZeroDark).mute = s.mute := by
  unfold State.dimZeroDark; try dsimp only
  repeat' split
  all_goals simp
@[simp] theorem State.dimZeroDark_port (s : State) : (s.dimZeroDark).port = s.port := by
  unfold State.dimZeroDark; try dsimp only
  repeat' split
  all_goals simp
@[simp] theorem State.dimZeroDark_loader (s : State) : (s.dimZeroDark).loader = s.loader := by
  unfold State.dimZeroDark; try dsimp only
  repeat' split
  all_goals simp
@[simp] theorem State.dimZeroDark_freeIndex (s : State) : (s.dimZeroDark).freeIndex = s.freeIndex := by
  unfold State.dimZeroDark; try dsimp only
  repeat' split
  all_goals simp
@[simp] theorem State.dimZeroDark_pending (s : State) : (s.dimZeroDark).pending = s.pending := by
  unfold State.dimZeroDark; try dsimp only
  repeat' split
  all_goals simp

@[simp] theorem State.dimRamp_settings (s : State) : (s.dimRamp).settings = s.settings := by
  unfold State.dimRamp; try dsimp only
  repeat' split
  all_goals simp
@[simp] theorem State.dimRamp_table (s : State) : (s.dimRamp).table = s.table := by
  unfold State.dimRamp; try dsimp only
  repeat' split
  all_goals simp
@[simp] theorem State.dimRamp_rails (s : State) : (s.dimRamp).rails = s.rails := by
  unfold State.dimRamp; try dsimp only
  repeat' split
  all_goals simp
@[simp] theorem State.dimRamp_ctl (s : State) : (s.dimRamp).ctl = s.ctl := by
  unfold State.dimRamp; try dsimp only
  repeat' split
  all_goals simp
@[simp] theorem State.dimRamp_front (s : State) : (s.dimRamp).front = s.front := by
  unfold State.dimRamp; try dsimp only
  repeat' split
  all_goals simp
@[simp] theorem State.dimRamp_timers (s : State) : (s.dimRamp).timers = s.timers := by
  unfold State.dimRamp; try dsimp only
  repeat' split
  all_goals simp
@[simp] theorem State.dimRamp_holdUp (s : State) : (s.dimRamp).holdUp = s.holdUp := by
  unfold State.dimRamp; try dsimp only
  repeat' split
  all_goals simp
@[simp] theorem State.dimRamp_line (s : State) : (s.dimRamp).line = s.line := by
  unfold State.dimRamp; try dsimp only
  repeat' split
  all_goals simp
@[simp] theorem State.dimRamp_notices (s : State) : (s.dimRamp).notices = s.notices := by
  unfold State.dimRamp; try dsimp only
  repeat' split
  all_goals simp
@[simp] theorem State.dimRamp_seq (s : State) : (s.dimRamp).seq = s.seq := by
  unfold State.dimRamp; try dsimp only
  repeat' split
  all_goals simp
@[simp] theorem State.dimRamp_cur (s : State) : (s.dimRamp).cur = s.cur := by
  unfold State.dimRamp; try dsimp only
  repeat' split
  all_goals simp
@[simp] theorem State.dimRamp_last (s : State) : (s.dimRamp).last = s.last := by
  unfold State.dimRamp; try dsimp only
  repeat' split
  all_goals simp
@[simp] theorem State.dimRamp_mute (s : State) : (s.dimRamp).mute = s.mute := by
  unfold State.dimRamp; try dsimp only
  repeat' split
  all_goals simp
@[simp] theorem State.dimRamp_port (s : State) : (s.dimRamp).port = s.port := by
  unfold State.dimRamp; try dsimp only
  repeat' split
  all_goals simp
@[simp] theorem State.dimRamp_loader (s : State) : (s.dimRamp).loader = s.loader := by
  unfold State.dimRamp; try dsimp only
  repeat' split
  all_goals simp
@[simp] theorem State.dimRamp_freeIndex (s : State) : (s.dimRamp).freeIndex = s.freeIndex := by
  unfold State.dimRamp; try dsimp only
  repeat' split
  all_goals simp
@[simp] theorem State.dimRamp_pending (s : State) : (s.dimRamp).pending = s.pending := by
  unfold State.dimRamp; try dsimp only
  repeat' split
  all_goals simp

@[simp] theorem State.dimCap_settings (s : State) : (s.dimCap).settings = s.settings := by
  unfold State.dimCap; try dsimp only
  repeat' split
  all_goals simp
@[simp] theorem State.dimCap_table (s : State) : (s.dimCap).table = s.table := by
  unfold State.dimCap; try dsimp only
  repeat' split
  all_goals simp
@[simp] theorem State.dimCap_rails (s : State) : (s.dimCap).rails = s.rails := by
  unfold State.dimCap; try dsimp only
  repeat' split
  all_goals simp
@[simp] theorem State.dimCap_ctl (s : State) : (s.dimCap).ctl = s.ctl := by
  unfold State.dimCap; try dsimp only
  repeat' split
  all_goals simp
@[simp] theorem State.dimCap_front (s : State) : (s.dimCap).front = s.front := by
  unfold State.dimCap; try dsimp only
  repeat' split
  all_goals simp
@[simp] theorem State.dimCap_timers (s : State) : (s.dimCap).timers = s.timers := by
  unfold State.dimCap; try dsimp only
  repeat' split
  all_goals simp
@[simp] theorem State.dimCap_holdUp (s : State) : (s.dimCap).holdUp = s.holdUp := by
  unfold State.dimCap; try dsimp only
  repeat' split
  all_goals simp
@[simp] theorem State.dimCap_line (s : State) : (s.dimCap).line = s.line := by
  unfold State.dimCap; try dsimp only
  repeat' split
  all_goals simp
@[simp] theorem State.dimCap_notices (s : State) : (s.dimCap).notices = s.notices := by
  unfold State.dimCap; try dsimp only
  repeat' split
  all_goals simp
@[simp] theorem State.dimCap_seq (s : State) : (s.dimCap).seq = s.seq := by
  unfold State.dimCap; try dsimp only
  repeat' split
  all_goals simp
@[simp] theorem State.dimCap_cur (s : State) : (s.dimCap).cur = s.cur := by
  unfold State.dimCap; try dsimp only
  repeat' split
  all_goals simp
@[simp] theorem State.dimCap_last (s : State) : (s.dimCap).last = s.last := by
  unfold State.dimCap; try dsimp only
  repeat' split
  all_goals simp
@[simp] theorem State.dimCap_mute (s : State) : (s.dimCap).mute = s.mute := by
  unfold State.dimCap; try dsimp only
  repeat' split
  all_goals simp
@[simp] theorem State.dimCap_port (s : State) : (s.dimCap).port = s.port := by
  unfold State.dimCap; try dsimp only
  repeat' split
  all_goals simp
@[simp] theorem State.dimCap_loader (s : State) : (s.dimCap).loader = s.loader := by
  unfold State.dimCap; try dsimp only
  repeat' split
  all_goals simp
@[simp] theorem State.dimCap_freeIndex (s : State) : (s.dimCap).freeIndex = s.freeIndex := by
  unfold State.dimCap; try dsimp only
  repeat' split
  all_goals simp
@[simp] theorem State.dimCap_pending (s : State) : (s.dimCap).pending = s.pending := by
  unfold State.dimCap; try dsimp only
  repeat' split
  all_goals simp

@[simp] theorem State.dimLift_settings (s : State) : (s.dimLift).settings = s.settings := by
  unfold State.dimLift; try dsimp only
  repeat' split
  all_goals simp
@[simp] theorem State.dimLift_table (s : State) : (s.dimLift).table = s.table := by
  unfold State.dimLift; try dsimp only
  repeat' split
  all_goals simp
@[simp] theorem State.dimLift_rails (s : State) : (s.dimLift).rails = s.rails := by
  unfold State.dimLift; try dsimp only
  repeat' split
  all_goals simp
@[simp] theorem State.dimLift_ctl (s : State) : (s.dimLift).ctl = s.ctl := by
  unfold State.dimLift; try dsimp only
  repeat' split
  all_goals simp
@[simp] theorem State.dimLift_front (s : State) : (s.dimLift).front = s.front := by
  unfold State.dimLift; try dsimp only
  repeat' split
  all_goals simp
@[simp] theorem State.dimLift_timers (s : State) : (s.dimLift).timers = s.timers := by
  unfold State.dimLift; try dsimp only
  repeat' split
  all_goals simp
@[simp] theorem State.dimLift_holdUp (s : State) : (s.dimLift).holdUp = s.holdUp := by
  unfold State.dimLift; try dsimp only
  repeat' split
  all_goals simp
@[simp] theorem State.dimLift_line (s : State) : (s.dimLift).line = s.line := by
  unfold State.dimLift; try dsimp only
  repeat' split
  all_goals simp
@[simp] theorem State.dimLift_notices (s : State) : (s.dimLift).notices = s.notices := by
  unfold State.dimLift; try dsimp only
  repeat' split
  all_goals simp
@[simp] theorem State.dimLift_seq (s : State) : (s.dimLift).seq = s.seq := by
  unfold State.dimLift; try dsimp only
  repeat' split
  all_goals simp
@[simp] theorem State.dimLift_cur (s : State) : (s.dimLift).cur = s.cur := by
  unfold State.dimLift; try dsimp only
  repeat' split
  all_goals simp
@[simp] theorem State.dimLift_last (s : State) : (s.dimLift).last = s.last := by
  unfold State.dimLift; try dsimp only
  repeat' split
  all_goals simp
@[simp] theorem State.dimLift_mute (s : State) : (s.dimLift).mute = s.mute := by
  unfold State.dimLift; try dsimp only
  repeat' split
  all_goals simp
@[simp] theorem State.dimLift_port (s : State) : (s.dimLift).port = s.port := by
  unfold State.dimLift; try dsimp only
  repeat' split
  all_goals simp
@[simp] theorem State.dimLift_loader (s : State) : (s.dimLift).loader = s.loader := by
  unfold State.dimLift; try dsimp only
  repeat' split
  all_goals simp
@[simp] theorem State.dimLift_freeIndex (s : State) : (s.dimLift).freeIndex = s.freeIndex := by
  unfold State.dimLift; try dsimp only
  repeat' split
  all_goals simp
@[simp] theorem State.dimLift_pending (s : State) : (s.dimLift).pending = s.pending := by
  unfold State.dimLift; try dsimp only
  repeat' split
  all_goals simp

@[simp] theorem State.checkChatter_settings (s : State) : (s.checkChatter).settings = s.settings := by
  unfold State.checkChatter; try dsimp only
  repeat' split
  all_goals simp
@[simp] theorem State.checkChatter_table (s : State) : (s.checkChatter).table = s.table := by
  unfold State.checkChatter; try dsimp only
  repeat' split
  all_goals simp
@[simp] theorem State.checkChatter_rails (s : State) : (s.checkChatter).rails = s.rails := by
  unfold State.checkChatter; try dsimp only
  repeat' split
  all_goals simp
@[simp] theorem State.checkChatter_ctl (s : State) : (s.checkChatter).ctl = s.ctl := by
  unfold State.checkChatter; try dsimp only
  repeat' split
  all_goals simp
@[simp] theorem State.checkChatter_front (s : State) : (s.checkChatter).front = s.front := by
  unfold State.checkChatter; try dsimp only
  repeat' split
  all_goals simp
@[simp] theorem State.checkChatter_timers (s : State) : (s.checkChatter).timers = s.timers := by
  unfold State.checkChatter; try dsimp only
  repeat' split
  all_goals simp
@[simp] theorem State.checkChatter_holdUp (s : State) : (s.checkChatter).holdUp = s.holdUp := by
  unfold State.checkChatter; try dsimp only
  repeat' split
  all_goals simp
@[simp] theorem State.checkChatter_line (s : State) : (s.checkChatter).line = s.line := by
  unfold State.checkChatter; try dsimp only
  repeat' split
  all_goals simp
@[simp] theorem State.checkChatter_seq (s : State) : (s.checkChatter).seq = s.seq := by
  unfold State.checkChatter; try dsimp only
  repeat' split
  all_goals simp
@[simp] theorem State.checkChatter_last (s : State) : (s.checkChatter).last = s.last := by
  unfold State.checkChatter; try dsimp only
  repeat' split
  all_goals simp
@[simp] theorem State.checkChatter_mute (s : State) : (s.checkChatter).mute = s.mute := by
  unfold State.checkChatter; try dsimp only
  repeat' split
  all_goals simp
@[simp] theorem State.checkChatter_dim (s : State) : (s.checkChatter).dim = s.dim := by
  unfold State.checkChatter; try dsimp only
  repeat' split
  all_goals simp
@[simp] theorem State.checkChatter_port (s : State) : (s.checkChatter).port = s.port := by
  unfold State.checkChatter; try dsimp only
  repeat' split
  all_goals simp
@[simp] theorem State.checkChatter_loader (s : State) : (s.checkChatter).loader = s.loader := by
  unfold State.checkChatter; try dsimp only
  repeat' split
  all_goals simp
@[simp] theorem State.checkChatter_freeIndex (s : State) : (s.checkChatter).freeIndex = s.freeIndex := by
  unfold State.checkChatter; try dsimp only
  repeat' split
  all_goals simp
@[simp] theorem State.checkChatter_pending (s : State) : (s.checkChatter).pending = s.pending := by
  unfold State.checkChatter; try dsimp only
  repeat' split
  all_goals simp

@[simp] theorem State.leadAlreadyHeld_settings (s : State) (own : Bool) : (s.leadAlreadyHeld own).settings = s.settings := by
  unfold State.leadAlreadyHeld; try dsimp only
  repeat' split
  all_goals simp
@[simp] theorem State.leadAlreadyHeld_table (s : State) (own : Bool) : (s.leadAlreadyHeld own).table = s.table := by
  unfold State.leadAlreadyHeld; try dsimp only
  repeat' split
  all_goals simp
@[simp] theorem State.leadAlreadyHeld_rails (s : State) (own : Bool) : (s.leadAlreadyHeld own).rails = s.rails := by
  unfold State.leadAlreadyHeld; try dsimp only
  repeat' split
  all_goals simp
@[simp] theorem State.leadAlreadyHeld_ctl (s : State) (own : Bool) : (s.leadAlreadyHeld own).ctl = s.ctl := by
  unfold State.leadAlreadyHeld; try dsimp only
  repeat' split
  all_goals simp
@[simp] theorem State.leadAlreadyHeld_front (s : State) (own : Bool) : (s.leadAlreadyHeld own).front = s.front := by
  unfold State.leadAlreadyHeld; try dsimp only
  repeat' split
  all_goals simp
@[simp] theorem State.leadAlreadyHeld_timers (s : State) (own : Bool) : (s.leadAlreadyHeld own).timers = s.timers := by
  unfold State.leadAlreadyHeld; try dsimp only
  repeat' split
  all_goals simp
@[simp] theorem State.leadAlreadyHeld_holdUp (s : State) (own : Bool) : (s.leadAlreadyHeld own).holdUp = s.holdUp := by
  unfold State.leadAlreadyHeld; try dsimp only
  repeat' split
  all_goals simp
@[simp] theorem State.leadAlreadyHeld_line (s : State) (own : Bool) : (s.leadAlreadyHeld own).line = s.line := by
  unfold State.leadAlreadyHeld; try dsimp only
  repeat' split
  all_goals simp
@[simp] theorem State.leadAlreadyHeld_seq (s : State) (own : Bool) : (s.leadAlreadyHeld own).seq = s.seq := by
  unfold State.leadAlreadyHeld; try dsimp only
  repeat' split
  all_goals simp
@[simp] theorem State.leadAlreadyHeld_last (s : State) (own : Bool) : (s.leadAlreadyHeld own).last = s.last := by
  unfold State.leadAlreadyHeld; try dsimp only
  repeat' split
  all_goals simp
@[simp] theorem State.leadAlreadyHeld_mute (s : State) (own : Bool) : (s.leadAlreadyHeld own).mute = s.mute := by
  unfold State.leadAlreadyHeld; try dsimp only
  repeat' split
  all_goals simp
@[simp] theorem State.leadAlreadyHeld_dim (s : State) (own : Bool) : (s.leadAlreadyHeld own).dim = s.dim := by
  unfold State.leadAlreadyHeld; try dsimp only
  repeat' split
  all_goals simp
@[simp] theorem State.leadAlreadyHeld_port (s : State) (own : Bool) : (s.leadAlreadyHeld own).port = s.port := by
  unfold State.leadAlreadyHeld; try dsimp only
  repeat' split
  all_goals simp
@[simp] theorem State.leadAlreadyHeld_loader (s : State) (own : Bool) : (s.leadAlreadyHeld own).loader = s.loader := by
  unfold State.leadAlreadyHeld; try dsimp only
  repeat' split
  all_goals simp
@[simp] theorem State.leadAlreadyHeld_freeIndex (s : State) (own : Bool) : (s.leadAlreadyHeld own).freeIndex = s.freeIndex := by
  unfold State.leadAlreadyHeld; try dsimp only
  repeat' split
  all_goals simp
@[simp] theorem State.leadAlreadyHeld_pending (s : State) (own : Bool) : (s.leadAlreadyHeld own).pending = s.pending := by
  unfold State.leadAlreadyHeld; try dsimp only
  repeat' split
  all_goals simp

@[simp] theorem State.mainsReturnedToRequester_settings (s : State) : (s.mainsReturnedToRequester).settings = s.settings := by
  unfold State.mainsReturnedToRequester; try dsimp only
  repeat' split
  all_goals simp
@[simp] theorem State.mainsReturnedToRequester_table (s : State) : (s.mainsReturnedToRequester).table = s.table := by
  unfold State.mainsReturnedToRequester; try dsimp only
  repeat' split
  all_goals simp
@[simp] theorem State.mainsReturnedToRequester_rails (s : State) : (s.mainsReturnedToRequester).rails = s.rails := by
  unfold State.mainsReturnedToRequester; try dsimp only
  repeat' split
  all_goals simp
@[simp] theorem State.mainsReturnedToRequester_ctl (s : State) : (s.mainsReturnedToRequester).ctl = s.ctl := by
  unfold State.mainsReturnedToRequester; try dsimp only
  repeat' split
  all_goals simp
@[simp] theorem State.mainsReturnedToRequester_front (s : State) : (s.mainsReturnedToRequester).front = s.front := by
  unfold State.mainsReturnedToRequester; try dsimp only
  repeat' split
  all_goals simp
@[simp] theorem State.mainsReturnedToRequester_timers (s : State) : (s.mainsReturnedToRequester).timers = s.timers := by
  unfold State.mainsReturnedToRequester; try dsimp only
  repeat' split
  all_goals simp
@[simp] theorem State.mainsReturnedToRequester_holdUp (s : State) : (s.mainsReturnedToRequester).holdUp = s.holdUp := by
  unfold State.mainsReturnedToRequester; try dsimp only
  repeat' split
  all_goals simp
@[simp] theorem State.mainsReturnedToRequester_line (s : State) : (s.mainsReturnedToRequester).line = s.line := by
  unfold State.mainsReturnedToRequester; try dsimp only
  repeat' split
  all_goals simp
@[simp] theorem State.mainsReturnedToRequester_last (s : State) : (s.mainsReturnedToRequester).last = s.last := by
  unfold State.mainsReturnedToRequester; try dsimp only
  repeat' split
  all_goals simp
@[simp] theorem State.mainsReturnedToRequester_mute (s : State) : (s.mainsReturnedToRequester).mute = s.mute := by
  unfold State.mainsReturnedToRequester; try dsimp only
  repeat' split
  all_goals simp
@[simp] theorem State.mainsReturnedToRequester_dim (s : State) : (s.mainsReturnedToRequester).dim = s.dim := by
  unfold State.mainsReturnedToRequester; try dsimp only
  repeat' split
  all_goals simp
@[simp] theorem State.mainsReturnedToRequester_port (s : State) : (s.mainsReturnedToRequester).port = s.port := by
  unfold State.mainsReturnedToRequester; try dsimp only
  repeat' split
  all_goals simp
@[simp] theorem State.mainsReturnedToRequester_loader (s : State) : (s.mainsReturnedToRequester).loader = s.loader := by
  unfold State.mainsReturnedToRequester; try dsimp only
  repeat' split
  all_goals simp
@[simp] theorem State.mainsReturnedToRequester_freeIndex (s : State) : (s.mainsReturnedToRequester).freeIndex = s.freeIndex := by
  unfold State.mainsReturnedToRequester; try dsimp only
  repeat' split
  all_goals simp
@[simp] theorem State.mainsReturnedToRequester_pending (s : State) : (s.mainsReturnedToRequester).pending = s.pending := by
  unfold State.mainsReturnedToRequester; try dsimp only
  repeat' split
  all_goals simp

@[simp] theorem State.markReturned_settings (s : State) : (s.markReturned).settings = s.settings := by
  unfold State.markReturned; try dsimp only
  repeat' split
  all_goals simp
@[simp] theorem State.markReturned_table (s : State) : (s.markReturned).table = s.table := by
  unfold State.markReturned; try dsimp only
  repeat' split
  all_goals simp
@[simp] theorem State.markReturned_rails (s : State) : (s.markReturned).rails = s.rails := by
  unfold State.markReturned; try dsimp only
  repeat' split
  all_goals simp
@[simp] theorem State.markReturned_ctl (s : State) : (s.markReturned).ctl = s.ctl := by
  unfold State.markReturned; try dsimp only
  repeat' split
  all_goals simp
@[simp] theorem State.markReturned_front (s : State) : (s.markReturned).front = s.front := by
  unfold State.markReturned; try dsimp only
  repeat' split
  all_goals simp
@[simp] theorem State.markReturned_timers (s : State) : (s.markReturned).timers = s.timers := by
  unfold State.markReturned; try dsimp only
  repeat' split
  all_goals simp
@[simp] theorem State.markReturned_holdUp (s : State) : (s.markReturned).holdUp = s.holdUp := by
  unfold State.markReturned; try dsimp only
  repeat' split
  all_goals simp
@[simp] theorem State.markReturned_line (s : State) : (s.markReturned).line = s.line := by
  unfold State.markReturned; try dsimp only
  repeat' split
  all_goals simp
@[simp] theorem State.markReturned_last (s : State) : (s.markReturned).last = s.last := by
  unfold State.markReturned; try dsimp only
  repeat' split
  all_goals simp
@[simp] theorem State.markReturned_mute (s : State) : (s.markReturned).mute = s.mute := by
  unfold State.markReturned; try dsimp only
  repeat' split
  all_goals simp
@[simp] theorem State.markReturned_dim (s : State) : (s.markReturned).dim = s.dim := by
  unfold State.markReturned; try dsimp only
  repeat' split
  all_goals simp
@[simp] theorem State.markReturned_port (s : State) : (s.markReturned).port = s.port := by
  unfold State.markReturned; try dsimp only
  repeat' split
  all_goals simp
@[simp] theorem State.markReturned_loader (s : State) : (s.markReturned).loader = s.loader := by
  unfold State.markReturned; try dsimp only
  repeat' split
  all_goals simp
@[simp] theorem State.markReturned_freeIndex (s : State) : (s.markReturned).freeIndex = s.freeIndex := by
  unfold State.markReturned; try dsimp only
  repeat' split
  all_goals simp
@[simp] theorem State.markReturned_pending (s : State) : (s.markReturned).pending = s.pending := by
  unfold State.markReturned; try dsimp only
  repeat' split
  all_goals simp

@[simp] theorem State.answerRoll_settings (s : State) (m : Bool) : (s.answerRoll m).settings = s.settings := by
  unfold State.answerRoll; try dsimp only
  repeat' split
  all_goals simp
@[simp] theorem State.answerRoll_table (s : State) (m : Bool) : (s.answerRoll m).table = s.table := by
  unfold State.answerRoll; try dsimp only
  repeat' split
  all_goals simp
@[simp] theorem State.answerRoll_rails (s : State) (m : Bool) : (s.answerRoll m).rails = s.rails := by
  unfold State.answerRoll; try dsimp only
  repeat' split
  all_goals simp
@[simp] theorem State.answerRoll_ctl (s : State) (m : Bool) : (s.answerRoll m).ctl = s.ctl := by
  unfold State.answerRoll; try dsimp only
  repeat' split
  all_goals simp
@[simp] theorem State.answerRoll_front (s : State) (m : Bool) : (s.answerRoll m).front = s.front := by
  unfold State.answerRoll; try dsimp only
  repeat' split
  all_goals simp
@[simp] theorem State.answerRoll_timers (s : State) (m : Bool) : (s.answerRoll m).timers = s.timers := by
  unfold State.answerRoll; try dsimp only
  repeat' split
  all_goals simp
@[simp] theorem State.answerRoll_holdUp (s : State) (m : Bool) : (s.answerRoll m).holdUp = s.holdUp := by
  unfold State.answerRoll; try dsimp only
  repeat' split
  all_goals simp
@[simp] theorem State.answerRoll_line (s : State) (m : Bool) : (s.answerRoll m).line = s.line := by
  unfold State.answerRoll; try dsimp only
  repeat' split
  all_goals simp
@[simp] theorem State.answerRoll_seq (s : State) (m : Bool) : (s.answerRoll m).seq = s.seq := by
  unfold State.answerRoll; try dsimp only
  repeat' split
  all_goals simp
@[simp] theorem State.answerRoll_last (s : State) (m : Bool) : (s.answerRoll m).last = s.last := by
  unfold State.answerRoll; try dsimp only
  repeat' split
  all_goals simp
@[simp] theorem State.answerRoll_mute (s : State) (m : Bool) : (s.answerRoll m).mute = s.mute := by
  unfold State.answerRoll; try dsimp only
  repeat' split
  all_goals simp
@[simp] theorem State.answerRoll_dim (s : State) (m : Bool) : (s.answerRoll m).dim = s.dim := by
  unfold State.answerRoll; try dsimp only
  repeat' split
  all_goals simp
@[simp] theorem State.answerRoll_port (s : State) (m : Bool) : (s.answerRoll m).port = s.port := by
  unfold State.answerRoll; try dsimp only
  repeat' split
  all_goals simp
@[simp] theorem State.answerRoll_loader (s : State) (m : Bool) : (s.answerRoll m).loader = s.loader := by
  unfold State.answerRoll; try dsimp only
  repeat' split
  all_goals simp
@[simp] theorem State.answerRoll_freeIndex (s : State) (m : Bool) : (s.answerRoll m).freeIndex = s.freeIndex := by
  unfold State.answerRoll; try dsimp only
  repeat' split
  all_goals simp
@[simp] theorem State.answerRoll_pending (s : State) (m : Bool) : (s.answerRoll m).pending = s.pending := by
  unfold State.answerRoll; try dsimp only
  repeat' split
  all_goals simp

@[simp] theorem State.onRoll_settings (s : State) (n : Notice) (own : Bool) : (s.onRoll n own).settings = s.settings := by
  unfold State.onRoll; try dsimp only
  repeat' split
  all_goals simp
@[simp] theorem State.onRoll_table (s : State) (n : Notice) (own : Bool) : (s.onRoll n own).table = s.table := by
  unfold State.onRoll; try dsimp only
  repeat' split
  all_goals simp
@[simp] theorem State.onRoll_rails (s : State) (n : Notice) (own : Bool) : (s.onRoll n own).rails = s.rails := by
  unfold State.onRoll; try dsimp only
  repeat' split
  all_goals simp
@[simp] theorem State.onRoll_ctl (s : State) (n : Notice) (own : Bool) : (s.onRoll n own).ctl = s.ctl := by
  unfold State.onRoll; try dsimp only
  repeat' split
  all_goals simp
@[simp] theorem State.onRoll_front (s : State) (n : Notice) (own : Bool) : (s.onRoll n own).front = s.front := by
  unfold State.onRoll; try dsimp only
  repeat' split
  all_goals simp
@[simp] theorem State.onRoll_timers (s : State) (n : Notice) (own : Bool) : (s.onRoll n own).timers = s.timers := by
  unfold State.onRoll; try dsimp only
  repeat' split
  all_goals simp
@[simp] theorem State.onRoll_holdUp (s : State) (n : Notice) (own : Bool) : (s.onRoll n own).holdUp = s.holdUp := by
  unfold State.onRoll; try dsimp only
  repeat' split
  all_goals simp
@[simp] theorem State.onRoll_line (s : State) (n : Notice) (own : Bool) : (s.onRoll n own).line = s.line := by
  unfold State.onRoll; try dsimp only
  repeat' split
  all_goals simp
@[simp] theorem State.onRoll_last (s : State) (n : Notice) (own : Bool) : (s.onRoll n own).last = s.last := by
  unfold State.onRoll; try dsimp only
  repeat' split
  all_goals simp
@[simp] theorem State.onRoll_mute (s : State) (n : Notice) (own : Bool) : (s.onRoll n own).mute = s.mute := by
  unfold State.onRoll; try dsimp only
  repeat' split
  all_goals simp
@[simp] theorem State.onRoll_dim (s : State) (n : Notice) (own : Bool) : (s.onRoll n own).dim = s.dim := by
  unfold State.onRoll; try dsimp only
  repeat' split
  all_goals simp
@[simp] theorem State.onRoll_port (s : State) (n : Notice) (own : Bool) : (s.onRoll n own).port = s.port := by
  unfold State.onRoll; try dsimp only
  repeat' split
  all_goals simp
@[simp] theorem State.onRoll_loader (s : State) (n : Notice) (own : Bool) : (s.onRoll n own).loader = s.loader := by
  unfold State.onRoll; try dsimp only
  repeat' split
  all_goals simp
@[simp] theorem State.onRoll_freeIndex (s : State) (n : Notice) (own : Bool) : (s.onRoll n own).freeIndex = s.freeIndex := by
  unfold State.onRoll; try dsimp only
  repeat' split
  all_goals simp
@[simp] theorem State.onRoll_pending (s : State) (n : Notice) (own : Bool) : (s.onRoll n own).pending = s.pending := by
  unfold State.onRoll; try dsimp only
  repeat' split
  all_goals simp

@[simp] theorem State.onTally_settings (s : State) (n : Notice) (own : Bool) : (s.onTally n own).settings = s.settings := by
  unfold State.onTally; try dsimp only
  repeat' split
  all_goals simp
@[simp] theorem State.onTally_table (s : State) (n : Notice) (own : Bool) : (s.onTally n own).table = s.table := by
  unfold State.onTally; try dsimp only
  repeat' split
  all_goals simp
@[simp] theorem State.onTally_rails (s : State) (n : Notice) (own : Bool) : (s.onTally n own).rails = s.rails := by
  unfold State.onTally; try dsimp only
  repeat' split
  all_goals simp
@[simp] theorem State.onTally_ctl (s : State) (n : Notice) (own : Bool) : (s.onTally n own).ctl = s.ctl := by
  unfold State.onTally; try dsimp only
  repeat' split
  all_goals simp
@[simp] theorem State.onTally_front (s : State) (n : Notice) (own : Bool) : (s.onTally n own).front = s.front := by
  unfold State.onTally; try dsimp only
  repeat' split
  all_goals simp
@[simp] theorem State.onTally_timers (s : State) (n : Notice) (own : Bool) : (s.onTally n own).timers = s.timers := by
  unfold State.onTally; try dsimp only
  repeat' split
  all_goals simp
@[simp] theorem State.onTally_holdUp (s : State) (n : Notice) (own : Bool) : (s.onTally n own).holdUp = s.holdUp := by
  unfold State.onTally; try dsimp only
  repeat' split
  all_goals simp
@[simp] theorem State.onTally_line (s : State) (n : Notice) (own : Bool) : (s.onTally n own).line = s.line := by
  unfold State.onTally; try dsimp only
  repeat' split
  all_goals simp
@[simp] theorem State.onTally_last (s : State) (n : Notice) (own : Bool) : (s.onTally n own).last = s.last := by
  unfold State.onTally; try dsimp only
  repeat' split
  all_goals simp
@[simp] theorem State.onTally_mute (s : State) (n : Notice) (own : Bool) : (s.onTally n own).mute = s.mute := by
  unfold State.onTally; try dsimp only
  repeat' split
  all_goals simp
@[simp] theorem State.onTally_dim (s : State) (n : Notice) (own : Bool) : (s.onTally n own).dim = s.dim := by
  unfold State.onTally; try dsimp only
  repeat' split
  all_goals simp
@[simp] theorem State.onTally_port (s : State) (n : Notice) (own : Bool) : (s.onTally n own).port = s.port := by
  unfold State.onTally; try dsimp only
  repeat' split
  all_goals simp
@[simp] theorem State.onTally_loader (s : State) (n : Notice) (own : Bool) : (s.onTally n own).loader = s.loader := by
  unfold State.onTally; try dsimp only
  repeat' split
  all_goals simp
@[simp] theorem State.onTally_freeIndex (s : State) (n : Notice) (own : Bool) : (s.onTally n own).freeIndex = s.freeIndex := by
  unfold State.onTally; try dsimp only
  repeat' split
  all_goals simp
@[simp] theorem State.onTally_pending (s : State) (n : Notice) (own : Bool) : (s.onTally n own).pending = s.pending := by
  unfold State.onTally; try dsimp only
  repeat' split
  all_goals simp

@[simp] theorem State.mainsSagEvent_settings (s : State) : (s.mainsSagEvent).settings = s.settings := by
  unfold State.mainsSagEvent; try dsimp only
  repeat' split
  all_goals simp
@[simp] theorem State.mainsSagEvent_table (s : State) : (s.mainsSagEvent).table = s.table := by
  unfold State.mainsSagEvent; try dsimp only
  repeat' split
  all_goals simp
@[simp] theorem State.mainsSagEvent_rails (s : State) : (s.mainsSagEvent).rails = s.rails := by
  unfold State.mainsSagEvent; try dsimp only
  repeat' split
  all_goals simp
@[simp] theorem State.mainsSagEvent_ctl (s : State) : (s.mainsSagEvent).ctl = s.ctl := by
  unfold State.mainsSagEvent; try dsimp only
  repeat' split
  all_goals simp
@[simp] theorem State.mainsSagEvent_timers (s : State) : (s.mainsSagEvent).timers = s.timers := by
  unfold State.mainsSagEvent; try dsimp only
  repeat' split
  all_goals simp
@[simp] theorem State.mainsSagEvent_holdUp (s : State) : (s.mainsSagEvent).holdUp = s.holdUp := by
  unfold State.mainsSagEvent; try dsimp only
  repeat' split
  all_goals simp
@[simp] theorem State.mainsSagEvent_line (s : State) : (s.mainsSagEvent).line = s.line := by
  unfold State.mainsSagEvent; try dsimp only
  repeat' split
  all_goals simp
@[simp] theorem State.mainsSagEvent_seq (s : State) : (s.mainsSagEvent).seq = s.seq := by
  unfold State.mainsSagEvent; try dsimp only
  repeat' split
  all_goals simp
@[simp] theorem State.mainsSagEvent_last (s : State) : (s.mainsSagEvent).last = s.last := by
  unfold State.mainsSagEvent; try dsimp only
  repeat' split
  all_goals simp
@[simp] theorem State.mainsSagEvent_mute (s : State) : (s.mainsSagEvent).mute = s.mute := by
  unfold State.mainsSagEvent; try dsimp only
  repeat' split
  all_goals simp
@[simp] theorem State.mainsSagEvent_dim (s : State) : (s.mainsSagEvent).dim = s.dim := by
  unfold State.mainsSagEvent; try dsimp only
  repeat' split
  all_goals simp
@[simp] theorem State.mainsSagEvent_port (s : State) : (s.mainsSagEvent).port = s.port := by
  unfold State.mainsSagEvent; try dsimp only
  repeat' split
  all_goals simp
@[simp] theorem State.mainsSagEvent_loader (s : State) : (s.mainsSagEvent).loader = s.loader := by
  unfold State.mainsSagEvent; try dsimp only
  repeat' split
  all_goals simp
@[simp] theorem State.mainsSagEvent_freeIndex (s : State) : (s.mainsSagEvent).freeIndex = s.freeIndex := by
  unfold State.mainsSagEvent; try dsimp only
  repeat' split
  all_goals simp
@[simp] theorem State.mainsSagEvent_pending (s : State) : (s.mainsSagEvent).pending = s.pending := by
  unfold State.mainsSagEvent; try dsimp only
  repeat' split
  all_goals simp

@[simp] theorem State.requestInOff_settings (s : State) : (s.requestInOff).settings = s.settings := by
  unfold State.requestInOff; try dsimp only
  repeat' split
  all_goals simp
@[simp] theorem State.requestInOff_table (s : State) : (s.requestInOff).table = s.table := by
  unfold State.requestInOff; try dsimp only
  repeat' split
  all_goals simp
@[simp] theorem State.requestInOff_rails (s : State) : (s.requestInOff).rails = s.rails := by
  unfold State.requestInOff; try dsimp only
  repeat' split
  all_goals simp
@[simp] theorem State.requestInOff_ctl (s : State) : (s.requestInOff).ctl = s.ctl := by
  unfold State.requestInOff; try dsimp only
  repeat' split
  all_goals simp
@[simp] theorem State.requestInOff_front (s : State) : (s.requestInOff).front = s.front := by
  unfold State.requestInOff; try dsimp only
  repeat' split
  all_goals simp
@[simp] theorem State.requestInOff_holdUp (s : State) : (s.requestInOff).holdUp = s.holdUp := by
  unfold State.requestInOff; try dsimp only
  repeat' split
  all_goals simp
@[simp] theorem State.requestInOff_line (s : State) : (s.requestInOff).line = s.line := by
  unfold State.requestInOff; try dsimp only
  repeat' split
  all_goals simp
@[simp] theorem State.requestInOff_last (s : State) : (s.requestInOff).last = s.last := by
  unfold State.requestInOff; try dsimp only
  repeat' split
  all_goals simp
@[simp] theorem State.requestInOff_mute (s : State) : (s.requestInOff).mute = s.mute := by
  unfold State.requestInOff; try dsimp only
  repeat' split
  all_goals simp
@[simp] theorem State.requestInOff_dim (s : State) : (s.requestInOff).dim = s.dim := by
  unfold State.requestInOff; try dsimp only
  repeat' split
  all_goals simp
@[simp] theorem State.requestInOff_port (s : State) : (s.requestInOff).port = s.port := by
  unfold State.requestInOff; try dsimp only
  repeat' split
  all_goals simp
@[simp] theorem State.requestInOff_loader (s : State) : (s.requestInOff).loader = s.loader := by
  unfold State.requestInOff; try dsimp only
  repeat' split
  all_goals simp
@[simp] theorem State.requestInOff_freeIndex (s : State) : (s.requestInOff).freeIndex = s.freeIndex := by
  unfold State.requestInOff; try dsimp only
  repeat' split
  all_goals simp
@[simp] theorem State.requestInOff_pending (s : State) : (s.requestInOff).pending = s.pending := by
  unfold State.requestInOff; try dsimp only
  repeat' split
  all_goals simp

@[simp] theorem State.pwrReqAsserted_settings (s : State) : (s.pwrReqAsserted).settings = s.settings := by
  unfold State.pwrReqAsserted; try dsimp only
  repeat' split
  all_goals simp
@[simp] theorem State.pwrReqAsserted_table (s : State) : (s.pwrReqAsserted).table = s.table := by
  unfold State.pwrReqAsserted; try dsimp only
  repeat' split
  all_goals simp
@[simp] theorem State.pwrReqAsserted_rails (s : State) : (s.pwrReqAsserted).rails = s.rails := by
  unfold State.pwrReqAsserted; try dsimp only
  repeat' split
  all_goals simp
@[simp] theorem State.pwrReqAsserted_ctl (s : State) : (s.pwrReqAsserted).ctl = s.ctl := by
  unfold State.pwrReqAsserted; try dsimp only
  repeat' split
  all_goals simp
@[simp] theorem State.pwrReqAsserted_front (s : State) : (s.pwrReqAsserted).front = s.front := by
  unfold State.pwrReqAsserted; try dsimp only
  repeat' split
  all_goals simp
@[simp] theorem State.pwrReqAsserted_holdUp (s : State) : (s.pwrReqAsserted).holdUp = s.holdUp := by
  unfold State.pwrReqAsserted; try dsimp only
  repeat' split
  all_goals simp
@[simp] theorem State.pwrReqAsserted_line (s : State) : (s.pwrReqAsserted).line = s.line := by
  unfold State.pwrReqAsserted; try dsimp only
  repeat' split
  all_goals simp
@[simp] theorem State.pwrReqAsserted_last (s : State) : (s.pwrReqAsserted).last = s.last := by
  unfold State.pwrReqAsserted; try dsimp only
  repeat' split
  all_goals simp
@[simp] theorem State.pwrReqAsserted_mute (s : State) : (s.pwrReqAsserted).mute = s.mute := by
  unfold State.pwrReqAsserted; try dsimp only
  repeat' split
  all_goals simp
@[simp] theorem State.pwrReqAsserted_dim (s : State) : (s.pwrReqAsserted).dim = s.dim := by
  unfold State.pwrReqAsserted; try dsimp only
  repeat' split
  all_goals simp
@[simp] theorem State.pwrReqAsserted_port (s : State) : (s.pwrReqAsserted).port = s.port := by
  unfold State.pwrReqAsserted; try dsimp only
  repeat' split
  all_goals simp
@[simp] theorem State.pwrReqAsserted_loader (s : State) : (s.pwrReqAsserted).loader = s.loader := by
  unfold State.pwrReqAsserted; try dsimp only
  repeat' split
  all_goals simp
@[simp] theorem State.pwrReqAsserted_freeIndex (s : State) : (s.pwrReqAsserted).freeIndex = s.freeIndex := by
  unfold State.pwrReqAsserted; try dsimp only
  repeat' split
  all_goals simp
@[simp] theorem State.pwrReqAsserted_pending (s : State) : (s.pwrReqAsserted).pending = s.pending := by
  unfold State.pwrReqAsserted; try dsimp only
  repeat' split
  all_goals simp

@[simp] theorem State.pwrReqDeasserted_settings (s : State) : (s.pwrReqDeasserted).settings = s.settings := by
  unfold State.pwrReqDeasserted; try dsimp only
  repeat' split
  all_goals simp
@[simp] theorem State.pwrReqDeasserted_table (s : State) : (s.pwrReqDeasserted).table = s.table := by
  unfold State.pwrReqDeasserted; try dsimp only
  repeat' split
  all_goals simp
@[simp] theorem State.pwrReqDeasserted_rails (s : State) : (s.pwrReqDeasserted).rails = s.rails := by
  unfold State.pwrReqDeasserted; try dsimp only
  repeat' split
  all_goals simp
@[simp] theorem State.pwrReqDeasserted_ctl (s : State) : (s.pwrReqDeasserted).ctl = s.ctl := by
  unfold State.pwrReqDeasserted; try dsimp only
  repeat' split
  all_goals simp
@[simp] theorem State.pwrReqDeasserted_front (s : State) : (s.pwrReqDeasserted).front = s.front := by
  unfold State.pwrReqDeasserted; try dsimp only
  repeat' split
  all_goals simp
@[simp] theorem State.pwrReqDeasserted_holdUp (s : State) : (s.pwrReqDeasserted).holdUp = s.holdUp := by
  unfold State.pwrReqDeasserted; try dsimp only
  repeat' split
  all_goals simp
@[simp] theorem State.pwrReqDeasserted_line (s : State) : (s.pwrReqDeasserted).line = s.line := by
  unfold State.pwrReqDeasserted; try dsimp only
  repeat' split
  all_goals simp
@[simp] theorem State.pwrReqDeasserted_last (s : State) : (s.pwrReqDeasserted).last = s.last := by
  unfold State.pwrReqDeasserted; try dsimp only
  repeat' split
  all_goals simp
@[simp] theorem State.pwrReqDeasserted_mute (s : State) : (s.pwrReqDeasserted).mute = s.mute := by
  unfold State.pwrReqDeasserted; try dsimp only
  repeat' split
  all_goals simp
@[simp] theorem State.pwrReqDeasserted_dim (s : State) : (s.pwrReqDeasserted).dim = s.dim := by
  unfold State.pwrReqDeasserted; try dsimp only
  repeat' split
  all_goals simp
@[simp] theorem State.pwrReqDeasserted_port (s : State) : (s.pwrReqDeasserted).port = s.port := by
  unfold State.pwrReqDeasserted; try dsimp only
  repeat' split
  all_goals simp
@[simp] theorem State.pwrReqDeasserted_loader (s : State) : (s.pwrReqDeasserted).loader = s.loader := by
  unfold State.pwrReqDeasserted; try dsimp only
  repeat' split
  all_goals simp
@[simp] theorem State.pwrReqDeasserted_freeIndex (s : State) : (s.pwrReqDeasserted).freeIndex = s.freeIndex := by
  unfold State.pwrReqDeasserted; try dsimp only
  repeat' split
  all_goals simp
@[simp] theorem State.pwrReqDeasserted_pending (s : State) : (s.pwrReqDeasserted).pending = s.pending := by
  unfold State.pwrReqDeasserted; try dsimp only
  repeat' split
  all_goals simp

@[simp] theorem State.answerHoldFault_settings (s : State) : (s.answerHoldFault).settings = s.settings := by
  unfold State.answerHoldFault; try dsimp only
  repeat' split
  all_goals simp
@[simp] theorem State.answerHoldFault_table (s : State) : (s.answerHoldFault).table = s.table := by
  unfold State.answerHoldFault; try dsimp only
  repeat' split
  all_goals simp
@[simp] theorem State.answerHoldFault_rails (s : State) : (s.answerHoldFault).rails = s.rails := by
  unfold State.answerHoldFault; try dsimp only
  repeat' split
  all_goals simp
@[simp] theorem State.answerHoldFault_ctl (s : State) : (s.answerHoldFault).ctl = s.ctl := by
  unfold State.answerHoldFault; try dsimp only
  repeat' split
  all_goals simp
@[simp] theorem State.answerHoldFault_front (s : State) : (s.answerHoldFault).front = s.front := by
  unfold State.answerHoldFault; try dsimp only
  repeat' split
  all_goals simp
@[simp] theorem State.answerHoldFault_timers (s : State) : (s.answerHoldFault).timers = s.timers := by
  unfold State.answerHoldFault; try dsimp only
  repeat' split
  all_goals simp
@[simp] theorem State.answerHoldFault_holdUp (s : State) : (s.answerHoldFault).holdUp = s.holdUp := by
  unfold State.answerHoldFault; try dsimp only
  repeat' split
  all_goals simp
@[simp] theorem State.answerHoldFault_line (s : State) : (s.answerHoldFault).line = s.line := by
  unfold State.answerHoldFault; try dsimp only
  repeat' split
  all_goals simp
@[simp] theorem State.answerHoldFault_seq (s : State) : (s.answerHoldFault).seq = s.seq := by
  unfold State.answerHoldFault; try dsimp only
  repeat' split
  all_goals simp
@[simp] theorem State.answerHoldFault_last (s : State) : (s.answerHoldFault).last = s.last := by
  unfold State.answerHoldFault; try dsimp only
  repeat' split
  all_goals simp
@[simp] theorem State.answerHoldFault_mute (s : State) : (s.answerHoldFault).mute = s.mute := by
  unfold State.answerHoldFault; try dsimp only
  repeat' split
  all_goals simp
@[simp] theorem State.answerHoldFault_dim (s : State) : (s.answerHoldFault).dim = s.dim := by
  unfold State.answerHoldFault; try dsimp only
  repeat' split
  all_goals simp
@[simp] theorem State.answerHoldFault_port (s : State) : (s.answerHoldFault).port = s.port := by
  unfold State.answerHoldFault; try dsimp only
  repeat' split
  all_goals simp
@[simp] theorem State.answerHoldFault_loader (s : State) : (s.answerHoldFault).loader = s.loader := by
  unfold State.answerHoldFault; try dsimp only
  repeat' split
  all_goals simp
@[simp] theorem State.answerHoldFault_freeIndex (s : State) : (s.answerHoldFault).freeIndex = s.freeIndex := by
  unfold State.answerHoldFault; try dsimp only
  repeat' split
  all_goals simp
@[simp] theorem State.answerHoldFault_pending (s : State) : (s.answerHoldFault).pending = s.pending := by
  unfold State.answerHoldFault; try dsimp only
  repeat' split
  all_goals simp

@[simp] theorem State.judgeRollTimeout_settings (s : State) : (s.judgeRollTimeout).settings = s.settings := by
  unfold State.judgeRollTimeout; try dsimp only
  repeat' split
  all_goals simp
@[simp] theorem State.judgeRollTimeout_table (s : State) : (s.judgeRollTimeout).table = s.table := by
  unfold State.judgeRollTimeout; try dsimp only
  repeat' split
  all_goals simp
@[simp] theorem State.judgeRollTimeout_rails (s : State) : (s.judgeRollTimeout).rails = s.rails := by
  unfold State.judgeRollTimeout; try dsimp only
  repeat' split
  all_goals simp
@[simp] theorem State.judgeRollTimeout_ctl (s : State) : (s.judgeRollTimeout).ctl = s.ctl := by
  unfold State.judgeRollTimeout; try dsimp only
  repeat' split
  all_goals simp
@[simp] theorem State.judgeRollTimeout_front (s : State) : (s.judgeRollTimeout).front = s.front := by
  unfold State.judgeRollTimeout; try dsimp only
  repeat' split
  all_goals simp
@[simp] theorem State.judgeRollTimeout_timers (s : State) : (s.judgeRollTimeout).timers = s.timers := by
  unfold State.judgeRollTimeout; try dsimp only
  repeat' split
  all_goals simp
@[simp] theorem State.judgeRollTimeout_holdUp (s : State) : (s.judgeRollTimeout).holdUp = s.holdUp := by
  unfold State.judgeRollTimeout; try dsimp only
  repeat' split
  all_goals simp
@[simp] theorem State.judgeRollTimeout_line (s : State) : (s.judgeRollTimeout).line = s.line := by
  unfold State.judgeRollTimeout; try dsimp only
  repeat' split
  all_goals simp
@[simp] theorem State.judgeRollTimeout_seq (s : State) : (s.judgeRollTimeout).seq = s.seq := by
  unfold State.judgeRollTimeout; try dsimp only
  repeat' split
  all_goals simp
@[simp] theorem State.judgeRollTimeout_last (s : State) : (s.judgeRollTimeout).last = s.last := by
  unfold State.judgeRollTimeout; try dsimp only
  repeat' split
  all_goals simp
@[simp] theorem State.judgeRollTimeout_mute (s : State) : (s.judgeRollTimeout).mute = s.mute := by
  unfold State.judgeRollTimeout; try dsimp only
  repeat' split
  all_goals simp
@[simp] theorem State.judgeRollTimeout_dim (s : State) : (s.judgeRollTimeout).dim = s.dim := by
  unfold State.judgeRollTimeout; try dsimp only
  repeat' split
  all_goals simp
@[simp] theorem State.judgeRollTimeout_port (s : State) : (s.judgeRollTimeout).port = s.port := by
  unfold State.judgeRollTimeout; try dsimp only
  repeat' split
  all_goals simp
@[simp] theorem State.judgeRollTimeout_loader (s : State) : (s.judgeRollTimeout).loader = s.loader := by
  unfold State.judgeRollTimeout; try dsimp only
  repeat' split
  all_goals simp
@[simp] theorem State.judgeRollTimeout_freeIndex (s : State) : (s.judgeRollTimeout).freeIndex = s.freeIndex := by
  unfold State.judgeRollTimeout; try dsimp only
  repeat' split
  all_goals simp
@[simp] theorem State.judgeRollTimeout_pending (s : State) : (s.judgeRollTimeout).pending = s.pending := by
  unfold State.judgeRollTimeout; try dsimp only
  repeat' split
  all_goals simp

@[simp] theorem State.judgePhaseLimit_settings (s : State) : (s.judgePhaseLimit).settings = s.settings := by
  unfold State.judgePhaseLimit; try dsimp only
  repeat' split
  all_goals simp
@[simp] theorem State.judgePhaseLimit_table (s : State) : (s.judgePhaseLimit).table = s.table := by
  unfold State.judgePhaseLimit; try dsimp only
  repeat' split
  all_goals simp
@[simp] theorem State.judgePhaseLimit_rails (s : State) : (s.judgePhaseLimit).rails = s.rails := by
  unfold State.judgePhaseLimit; try dsimp only
  repeat' split
  all_goals simp
@[simp] theorem State.judgePhaseLimit_ctl (s : State) : (s.judgePhaseLimit).ctl = s.ctl := by
  unfold State.judgePhaseLimit; try dsimp only
  repeat' split
  all_goals simp
@[simp] theorem State.judgePhaseLimit_front (s : State) : (s.judgePhaseLimit).front = s.front := by
  unfold State.judgePhaseLimit; try dsimp only
  repeat' split
  all_goals simp
@[simp] theorem State.judgePhaseLimit_timers (s : State) : (s.judgePhaseLimit).timers = s.timers := by
  unfold State.judgePhaseLimit; try dsimp only
  repeat' split
  all_goals simp
@[simp] theorem State.judgePhaseLimit_holdUp (s : State) : (s.judgePhaseLimit).holdUp = s.holdUp := by
  unfold State.judgePhaseLimit; try dsimp only
  repeat' split
  all_goals simp
@[simp] theorem State.judgePhaseLimit_line (s : State) : (s.judgePhaseLimit).line = s.line := by
  unfold State.judgePhaseLimit; try dsimp only
  repeat' split
  all_goals simp
@[simp] theorem State.judgePhaseLimit_seq (s : State) : (s.judgePhaseLimit).seq = s.seq := by
  unfold State.judgePhaseLimit; try dsimp only
  repeat' split
  all_goals simp
@[simp] theorem State.judgePhaseLimit_last (s : State) : (s.judgePhaseLimit).last = s.last := by
  unfold State.judgePhaseLimit; try dsimp only
  repeat' split
  all_goals simp
@[simp] theorem State.judgePhaseLimit_mute (s : State) : (s.judgePhaseLimit).mute = s.mute := by
  unfold State.judgePhaseLimit; try dsimp only
  repeat' split
  all_goals simp
@[simp] theorem State.judgePhaseLimit_dim (s : State) : (s.judgePhaseLimit).dim = s.dim := by
  unfold State.judgePhaseLimit; try dsimp only
  repeat' split
  all_goals simp
@[simp] theorem State.judgePhaseLimit_port (s : State) : (s.judgePhaseLimit).port = s.port := by
  unfold State.judgePhaseLimit; try dsimp only
  repeat' split
  all_goals simp
@[simp] theorem State.judgePhaseLimit_loader (s : State) : (s.judgePhaseLimit).loader = s.loader := by
  unfold State.judgePhaseLimit; try dsimp only
  repeat' split
  all_goals simp
@[simp] theorem State.judgePhaseLimit_freeIndex (s : State) : (s.judgePhaseLimit).freeIndex = s.freeIndex := by
  unfold State.judgePhaseLimit; try dsimp only
  repeat' split
  all_goals simp
@[simp] theorem State.judgePhaseLimit_pending (s : State) : (s.judgePhaseLimit).pending = s.pending := by
  unfold State.judgePhaseLimit; try dsimp only
  repeat' split
  all_goals simp

@[simp] theorem State.meetFate_settings (s : State) (f : SendFate) : (s.meetFate f).settings = s.settings := by
  unfold State.meetFate; try dsimp only
  repeat' split
  all_goals simp
@[simp] theorem State.meetFate_table (s : State) (f : SendFate) : (s.meetFate f).table = s.table := by
  unfold State.meetFate; try dsimp only
  repeat' split
  all_goals simp
@[simp] theorem State.meetFate_rails (s : State) (f : SendFate) : (s.meetFate f).rails = s.rails := by
  unfold State.meetFate; try dsimp only
  repeat' split
  all_goals simp
@[simp] theorem State.meetFate_ctl (s : State) (f : SendFate) : (s.meetFate f).ctl = s.ctl := by
  unfold State.meetFate; try dsimp only
  repeat' split
  all_goals simp
@[simp] theorem State.meetFate_front (s : State) (f : SendFate) : (s.meetFate f).front = s.front := by
  unfold State.meetFate; try dsimp only
  repeat' split
  all_goals simp
@[simp] theorem State.meetFate_timers (s : State) (f : SendFate) : (s.meetFate f).timers = s.timers := by
  unfold State.meetFate; try dsimp only
  repeat' split
  all_goals simp
@[simp] theorem State.meetFate_holdUp (s : State) (f : SendFate) : (s.meetFate f).holdUp = s.holdUp := by
  unfold State.meetFate; try dsimp only
  repeat' split
  all_goals simp
@[simp] theorem State.meetFate_line (s : State) (f : SendFate) : (s.meetFate f).line = s.line := by
  unfold State.meetFate; try dsimp only
  repeat' split
  all_goals simp
@[simp] theorem State.meetFate_last (s : State) (f : SendFate) : (s.meetFate f).last = s.last := by
  unfold State.meetFate; try dsimp only
  repeat' split
  all_goals simp
@[simp] theorem State.meetFate_mute (s : State) (f : SendFate) : (s.meetFate f).mute = s.mute := by
  unfold State.meetFate; try dsimp only
  repeat' split
  all_goals simp
@[simp] theorem State.meetFate_dim (s : State) (f : SendFate) : (s.meetFate f).dim = s.dim := by
  unfold State.meetFate; try dsimp only
  repeat' split
  all_goals simp
@[simp] theorem State.meetFate_port (s : State) (f : SendFate) : (s.meetFate f).port = s.port := by
  unfold State.meetFate; try dsimp only
  repeat' split
  all_goals simp
@[simp] theorem State.meetFate_loader (s : State) (f : SendFate) : (s.meetFate f).loader = s.loader := by
  unfold State.meetFate; try dsimp only
  repeat' split
  all_goals simp
@[simp] theorem State.meetFate_freeIndex (s : State) (f : SendFate) : (s.meetFate f).freeIndex = s.freeIndex := by
  unfold State.meetFate; try dsimp only
  repeat' split
  all_goals simp
@[simp] theorem State.meetFate_pending (s : State) (f : SendFate) : (s.meetFate f).pending = s.pending := by
  unfold State.meetFate; try dsimp only
  repeat' split
  all_goals simp

@[simp] theorem State.pausePhase_settings (s : State) : (s.pausePhase).settings = s.settings := by
  unfold State.pausePhase; repeat' split
  all_goals simp

@[simp] theorem State.pausePhase_table (s : State) : (s.pausePhase).table = s.table := by
  unfold State.pausePhase; repeat' split
  all_goals simp

@[simp] theorem State.pausePhase_rails (s : State) : (s.pausePhase).rails = s.rails := by
  unfold State.pausePhase; repeat' split
  all_goals simp

@[simp] theorem State.pausePhase_ctl (s : State) : (s.pausePhase).ctl = s.ctl := by
  unfold State.pausePhase; repeat' split
  all_goals simp

@[simp] theorem State.pausePhase_front (s : State) : (s.pausePhase).front = s.front := by
  unfold State.pausePhase; repeat' split
  all_goals simp

@[simp] theorem State.pausePhase_holdUp (s : State) : (s.pausePhase).holdUp = s.holdUp := by
  unfold State.pausePhase; repeat' split
  all_goals simp

@[simp] theorem State.pausePhase_line (s : State) : (s.pausePhase).line = s.line := by
  unfold State.pausePhase; repeat' split
  all_goals simp

@[simp] theorem State.pausePhase_notices (s : State) : (s.pausePhase).notices = s.notices := by
  unfold State.pausePhase; repeat' split
  all_goals simp

@[simp] theorem State.pausePhase_seq (s : State) : (s.pausePhase).seq = s.seq := by
  unfold State.pausePhase; repeat' split
  all_goals simp

@[simp] theorem State.pausePhase_cur (s : State) : (s.pausePhase).cur = s.cur := by
  unfold State.pausePhase; repeat' split
  all_goals simp

@[simp] theorem State.pausePhase_last (s : State) : (s.pausePhase).last = s.last := by
  unfold State.pausePhase; repeat' split
  all_goals simp

@[simp] theorem State.pausePhase_mute (s : State) : (s.pausePhase).mute = s.mute := by
  unfold State.pausePhase; repeat' split
  all_goals simp

@[simp] theorem State.pausePhase_dim (s : State) : (s.pausePhase).dim = s.dim := by
  unfold State.pausePhase; repeat' split
  all_goals simp

@[simp] theorem State.pausePhase_port (s : State) : (s.pausePhase).port = s.port := by
  unfold State.pausePhase; repeat' split
  all_goals simp

@[simp] theorem State.pausePhase_loader (s : State) : (s.pausePhase).loader = s.loader := by
  unfold State.pausePhase; repeat' split
  all_goals simp

@[simp] theorem State.pausePhase_pending (s : State) : (s.pausePhase).pending = s.pending := by
  unfold State.pausePhase; repeat' split
  all_goals simp

/-- Everything that a pause can do away from the tick of an expiry (R37). -/
theorem State.pausePhase_of_not_due (s : State) (h : s.timers.phase.due = false) :
    s.pausePhase = { s with timers := { s.timers with phase := s.timers.phase.pause } } := by
  unfold State.pausePhase; simp [h]

/-- Everything that a pause can do at the tick of an expiry (R38, R60). -/
theorem State.pausePhase_of_due (s : State) (h : s.timers.phase.due = true) :
    s.pausePhase = s.nextFree ∨
      s.pausePhase =
        ({ s with timers := { s.timers with phase := s.timers.phase.pause } }).nextFree := by
  unfold State.pausePhase; simp only [h, if_true]
  split
  · exact Or.inl rfl
  · exact Or.inr rfl

end Sys2Proof.Machine
end

