-- ==== Sys2Proof/Laws/HoldUp.lean ====
section
/-! SUPPORT. When the compares of the hold-up timer deliver their events (R44). -/

namespace Sys2Proof.Machine

/-- A compare is reached where the timer runs, it is armed and loaded, and the count is there. -/
theorem HoldUp.reached_iff (h : HoldUp) (armed : Bool) (compare : Option Half) :
    h.reached armed compare = true ↔
      h.running = true ∧ armed = true ∧ ∃ v, compare = some v ∧ v ≤ h.count := by
  cases compare <;> simp [HoldUp.reached, and_assoc]

/-- The window expiry is due where compare A is reached. -/
theorem HoldUp.windowDue_iff (h : HoldUp) :
    h.windowDue = true ↔
      h.running = true ∧ h.armedA = true ∧ ∃ v, h.compareA = some v ∧ v ≤ h.count :=
  h.reached_iff h.armedA h.compareA

/-- The budget expiry is due where compare P is reached and no window expiry is due. -/
theorem HoldUp.budgetDue_iff (h : HoldUp) :
    h.budgetDue = true ↔
      (h.running = true ∧ h.armedP = true ∧ ∃ v, h.compareP = some v ∧ v ≤ h.count) ∧
        ¬(h.running = true ∧ h.armedA = true ∧ ∃ v, h.compareA = some v ∧ v ≤ h.count) := by
  rw [HoldUp.budgetDue, Bool.and_eq_true, Bool.not_eq_true', HoldUp.reached_iff,
    ← HoldUp.windowDue_iff, Bool.not_eq_true]

end Sys2Proof.Machine
end

