-- ==== Sys2Proof/Laws/Image.lean ====
section
/-! SUPPORT. What each check of an image compares, from the bytes of the image (R163, R164), and the settings and rail entries that the bytes give. -/

namespace Sys2Proof.Machine

/-- Bit `j` of byte `k` of an image. -/
theorem natBit_imageByte (image : List Byte) (k j : Nat) :
    natBit (imageByte image k) j = (image.getD k 0).getLsbD j := by
  rw [natBit, imageByte, BitVec.getLsbD, Nat.testBit_eq_decide_div_mod_eq]
  exact beq_eq_decide ..

@[simp] theorem imageEntry_present (image : List Byte) (p : BitVec 2) (i : Fin 8) :
    (imageEntry image p i).present = (image.getD (entryOffset p i) 0).getLsbD 7 := by
  rw [imageEntry, ← natBit_imageByte]
  split <;> simp_all [RailEntry.absent]

/-- The entry of a rail that is present, from its bytes (R163). -/
theorem imageEntry_of_present {image : List Byte} {p : BitVec 2} {i : Fin 8}
    (h : (image.getD (entryOffset p i) 0).getLsbD 7 = true) :
    let o := entryOffset p i
    let bit := (image.getD o 0).getLsbD
    imageEntry image p i =
      { present := true
        upPhase := imageByte image (o + 1) / 16
        downPhase := imageByte image (o + 1) % 16
        activeLow := bit 5
        drive := DriveMode.ofCode (imageByte image o / 8 % 4)
        sense := bit 6
        offThreshold := imageByte image (o + 2)
        goodLow := imageByte image (o + 3)
        goodHigh := imageByte image (o + 4)
        riseLimit := imageHalf image (o + 5)
        settleTime := imageByte image (o + 7)
        fallLimit := imageHalf image (o + 8)
        urgentFallLimit := imageByte image (o + 10)
        discharge := dischargeOf (imageByte image (o + 11))
        sheddable := bit 2
        blankAligned := bit 1
        dimGated := bit 0 } := by
  simp only [imageEntry, natBit_imageByte, h, if_true]

/-- ROLL's first argument from the byte of the roles, whose low bits are 0, and the profile
index (R67). -/
theorem rollArg1_ofByte (roles : Byte) (p : BitVec 2) (h : roles.toNat % 16 = 0) :
    rollArg1 (Roles.ofByte roles) p = BitVec.ofNat 8 (roles.toNat + p.toNat) := by
  revert h p roles
  decide

/-- Check 5, byte by byte. -/
theorem stationInRange_iff (image : List Byte) :
    let b := imageByte image
    stationInRange image = true ↔
      b 3 ≤ 15 ∧ b 4 % 16 = 0 ∧ 1 ≤ b 5 ∧ b 5 ≤ 15 ∧ 1 ≤ b 6 ∧ b 6 ≤ 16 ∧ b 7 ≤ 3 ∧
        b 8 ≠ 0 ∧ b 9 ≠ 0 ∧ 1 ≤ b 10 ∧ b 10 ≤ 15 ∧ b 11 ≠ 0 ∧ b 12 ≠ 0 ∧ b 13 ≠ 0 ∧
        b 14 ≤ 1 ∧ b 15 ≤ 15 := by
  simp only [stationInRange, Bool.and_eq_true, decide_eq_true_eq]
  tauto

/-- Check 6, byte by byte. -/
theorem profileInRange_iff (image : List Byte) (p : BitVec 2) :
    let b := imageByte image
    let half := imageHalf image
    let o := profileOffset p
    profileInRange image p = true ↔
      b o ≠ 0 ∧ half (o + 5) ≠ 0 ∧ half (o + 7) ≠ 0 ∧ half (o + 5) ≤ half (o + 7) ∧
        50 ≤ half (o + 9) ∧ b (o + 11) ≤ 100 ∧ b (o + 13) ≤ 100 ∧ b (o + 14) < 32 ∧
        b (o + 15) = p.toNat ∧
        ((image.getD 4 0).getLsbD 6 = true → b (o + 3) < b (o + 4)) := by
  simp only [profileInRange, Bool.and_eq_true, Bool.or_eq_true, Bool.not_eq_true',
    decide_eq_true_eq, ← Bool.not_eq_true]
  simp only [imageSettings, Roles.ofByte]
  tauto

/-- Check 7 for one rail, byte by byte. -/
theorem railConsistent_iff (image : List Byte) (p : BitVec 2) (i : Fin 8) :
    let b := imageByte image
    let half := imageHalf image
    let bit : Nat → Nat → Prop := fun k j => (image.getD k 0).getLsbD j = true
    let r := entryOffset p i
    railConsistent image p i = true ↔
      (bit r 7 →
        1 ≤ b (r + 1) / 16 ∧ b (r + 1) / 16 ≤ b 5 ∧ 1 ≤ b (r + 1) % 16 ∧
          b (r + 1) % 16 ≤ b 5 ∧ b r / 8 % 4 ≤ 2 ∧ b (r + 11) ≤ 4 ∧
          half (r + 5) ≠ 0 ∧ half (r + 8) ≠ 0 ∧ b (r + 10) ≠ 0 ∧
          (bit r 6 → b (r + 2) < b (r + 3) ∧ b (r + 3) < b (r + 4)) ∧
          (bit r 1 → bit 4 5) ∧ (bit r 0 → bit 4 4) ∧
          ¬(bit r 1 ∧ bit r 2) ∧ ¬(bit r 1 ∧ bit r 0)) := by
  intro b half bit r
  by_cases h : bit r 7
  · simp only [railConsistent, imageEntry_of_present h, imageSettings, Roles.ofByte,
      Bool.and_eq_true, Bool.or_eq_true, Bool.not_eq_true', decide_eq_true_eq,
      ← Bool.not_eq_true, b, half, bit, r] at h ⊢
    tauto
  · have h' : (image.getD (entryOffset p i) 0).getLsbD 7 = false := 
      Bool.eq_false_iff.mpr h
    simp only [railConsistent, imageEntry_present, h', Bool.not_false, Bool.true_or, true_iff]
    exact fun c => absurd c h

/-- Check 8 for one rail, byte by byte. -/
theorem ascentBound_iff (image : List Byte) (p : BitVec 2) (i : Fin 8) :
    let b := imageByte image
    let bit : Nat → Nat → Prop := fun k j => (image.getD k 0).getLsbD j = true
    let r := entryOffset p i
    let o := profileOffset p
    ascentBound (imageSettings image p) (imageEntry image p i) = true ↔
      (bit r 7 →
        (if (image.getD r 0).getLsbD 6 then imageHalf image (r + 5) else 0) + b (r + 7) +
            (if (image.getD r 0).getLsbD 1 then 10 * b o else 0) <
          100 * b 8) := by
  intro b bit r o
  by_cases h : bit r 7
  · simp only [ascentBound, imageEntry_of_present h, imageSettings, Bool.not_true,
      Bool.false_or, decide_eq_true_eq, b, bit, r, o] at h ⊢
    tauto
  · have h' : (image.getD (entryOffset p i) 0).getLsbD 7 = false := 
      Bool.eq_false_iff.mpr h
    simp only [ascentBound, imageEntry_present, h', Bool.not_false, Bool.true_or, true_iff]
    exact fun c => absurd c h

/-- Check 9 for one rail, byte by byte. -/
theorem descentBound_iff (image : List Byte) (p : BitVec 2) (i : Fin 8) :
    let b := imageByte image
    let r := entryOffset p i
    descentBound (imageSettings image p) (imageEntry image p i) = true ↔
      ((image.getD r 0).getLsbD 7 = true →
        2 * imageHalf image (r + 8) + 10 * b (profileOffset p) + 655 < 100 * b 8) := by
  intro b r
  by_cases h : (image.getD r 0).getLsbD 7 = true
  · simp only [descentBound, imageEntry_of_present h, imageSettings, Bool.not_true,
      Bool.false_or, decide_eq_true_eq, b, r] at h ⊢
    tauto
  · have h' : (image.getD (entryOffset p i) 0).getLsbD 7 = false := 
      Bool.eq_false_iff.mpr h
    simp only [descentBound, imageEntry_present, h', Bool.not_false, Bool.true_or, true_iff]
    exact fun c => absurd c h

/-! ### The first failing rail -/

/-- The first failing rail fails, and every rail before it passes. -/
theorem firstFailing_eq_some {check : Fin 8 → Bool} {i : Fin 8} :
    firstFailing check = some i ↔ check i = false ∧ ∀ j, j < i → check j = true := by
  unfold firstFailing railIndices
  constructor
  · intro h
    revert h
    simp only [List.find?]
    repeat' split
    all_goals
      intro h
      cases h
      try (constructor; simp_all; intro j hj; fin_cases j <;> simp_all)
  · rintro ⟨h, g⟩
    fin_cases i <;> simp_all [List.find?, Fin.forall_fin_succ]

/-- Where no rail fails first, every rail passes. -/
theorem firstFailing_eq_none {check : Fin 8 → Bool} :
    firstFailing check = none ↔ ∀ j, check j = true := by
  unfold firstFailing railIndices
  simp [Fin.forall_fin_succ]

end Sys2Proof.Machine
end

