-- ==== Sys2Proof/Laws/Link.lean ====
section
/-! SUPPORT. What a sender finds in the slots it reads: where they are its own, and where they first differ (R69, R74). -/

namespace Sys2Proof.Machine

/-- Slots that begin what was sent all agree with it. -/
theorem agreedSlots_of_prefix {sent slots : List Bool} (h : slots <+: sent) :
    agreedSlots sent slots = slots.length := by
  induction slots generalizing sent with
  | nil => cases sent <;> rfl
  | cons b l ih =>
    cases sent with
    | nil => simp at h
    | cons c m =>
      obtain ⟨rfl, tail⟩ := List.cons_prefix_cons.mp h
      simp [agreedSlots, ih tail]

/-- A sender whose slots read as it sent them goes on sending. -/
theorem sendFate_of_prefix {sent slots : List Bool} (k : Nat) (h : slots <+: sent) :
    sendFate k sent slots = .sending := by
  induction slots generalizing sent k with
  | nil => cases sent <;> rfl
  | cons b l ih =>
    cases sent with
    | nil => simp at h
    | cons c m =>
      obtain ⟨rfl, tail⟩ := List.cons_prefix_cons.mp h
      simp [sendFate, ih _ tail]

/-- Slots that first differ from what was sent after `j` of them agree in those `j`. -/
theorem agreedSlots_of_differ {sent slots : List Bool} {j : Nat} {b : Bool}
    (same : slots.take j = sent.take j) (hs : sent[j]? = some b) (hr : slots[j]? = some !b) :
    agreedSlots sent slots = j := by
  induction j generalizing sent slots with
  | zero =>
    cases sent <;> cases slots <;> simp_all [agreedSlots]
  | succ j ih =>
    cases sent <;> cases slots <;> simp_all [agreedSlots]

/-- The first slot that differs, after `j` that agree, decides a sender's fate: a recessive
reading is a drive fault, and a dominant one a lost arbitration up to slot 8 and a collision
after it. -/
theorem sendFate_of_differ {sent slots : List Bool} {k j : Nat} {b : Bool}
    (same : slots.take j = sent.take j) (hs : sent[j]? = some b) (hr : slots[j]? = some !b) :
    sendFate k sent slots =
      if b then if k + j ≤ 8 then .lostArbitration else .collided else .driveFault := by
  induction j generalizing sent slots k with
  | zero =>
    cases sent <;> cases slots <;> cases b <;> simp_all [sendFate]
  | succ j ih =>
    cases sent <;> cases slots <;> simp_all [sendFate]
    simp only [Nat.add_assoc, Nat.add_comm 1 j]

end Sys2Proof.Machine
end

