-- ==== Sys2Proof/Laws/Rails.lean ====
section
/-! SUPPORT. What every operation of the rail controller can do: rails, the rail conditions, the FAULT and COMMIT places of the outbound set and the later-fault count; nothing else. -/

namespace Sys2Proof.Machine

/-! ### Queueing -/

theorem Outbound.get_set_self (o : Outbound) (k : Kind) (p : Option Pending) :
    (o.set k p).get k = p := by cases k <;> rfl

theorem Outbound.get_set_other (o : Outbound) {k j : Kind} (p : Option Pending) (h : j ≠ k) :
    (o.set k p).get j = o.get j := by cases k <;> cases j <;> first | rfl | exact absurd rfl h

@[simp] theorem State.pendingOf_setPending_self (s : State) (k : Kind) (p : Option Pending) :
    (s.setPending k p).pendingOf k = p := Outbound.get_set_self _ _ _

theorem State.pendingOf_setPending_other (s : State) {k j : Kind} (p : Option Pending)
    (h : j ≠ k) : (s.setPending k p).pendingOf j = s.pendingOf j := Outbound.get_set_other _ _ h

@[simp] theorem State.queueNotice_link (s : State) (k : Kind) (a b : Byte) :
    (s.queueNotice k a b).notices.link = s.notices.link := by
  unfold State.queueNotice; split <;> rfl

@[simp] theorem State.queueNotice_inFlight (s : State) (k : Kind) (a b : Byte) :
    (s.queueNotice k a b).notices.inFlight = s.notices.inFlight := by
  unfold State.queueNotice; split <;> rfl

@[simp] theorem State.queueNotice_breakDrive (s : State) (k : Kind) (a b : Byte) :
    (s.queueNotice k a b).notices.breakDrive = s.notices.breakDrive := by
  unfold State.queueNotice; split <;> rfl

@[simp] theorem State.queueNotice_stuck (s : State) (k : Kind) (a b : Byte) :
    (s.queueNotice k a b).notices.stuck = s.notices.stuck := by
  unfold State.queueNotice; split <;> rfl

theorem State.queueNotice_pendingOf_other (s : State) {k j : Kind} (a b : Byte) (h : j ≠ k) :
    (s.queueNotice k a b).pendingOf j = s.pendingOf j := by
  unfold State.queueNotice; split
  · rfl
  · exact s.pendingOf_setPending_other _ h

theorem State.queueNotice_pendingOf (s : State) (k : Kind) (a b : Byte) (h : k ≠ .fault) :
    (s.queueNotice k a b).pendingOf k = some ⟨a, b, 0⟩ := by
  unfold State.queueNotice; simp [h]

theorem State.queueNotice_fresh (s : State) (k : Kind) (a b : Byte) {j : Kind} {p : Pending}
    (h : (s.queueNotice k a b).pendingOf j = some p) : s.pendingOf j = some p ∨ p.resend = 0 := by
  unfold State.queueNotice at h; split at h
  · exact .inl h
  · by_cases hj : j = k
    · subst hj; simp at h; exact .inr (by rw [← h])
    · rw [s.pendingOf_setPending_other _ hj] at h; exact .inl h

/-! ### The frame of a rail operation -/

/-- `t` differs from `s` only where the rail controller and its reports reach. -/
structure RailFrame (s t : State) : Prop where
  settings : t.settings = s.settings
  table : t.table = s.table
  front : t.front = s.front
  timers : t.timers = s.timers
  holdUp : t.holdUp = s.holdUp
  line : t.line = s.line
  seq : t.seq = s.seq
  last : t.last = s.last
  mute : t.mute = s.mute
  dim : t.dim = s.dim
  port : t.port = s.port
  loader : t.loader = s.loader
  freeIndex : t.freeIndex = s.freeIndex
  pending : t.pending = s.pending
  link : t.notices.link = s.notices.link
  inFlight : t.notices.inFlight = s.notices.inFlight
  breakDrive : t.notices.breakDrive = s.notices.breakDrive
  stuck : t.notices.stuck = s.notices.stuck
  cur : ∃ n, t.cur = { s.cur with laterFaults := n }
  others : ∀ k, k ≠ .fault → k ≠ .commit → t.pendingOf k = s.pendingOf k
  fresh : ∀ k p, t.pendingOf k = some p → s.pendingOf k = some p ∨ p.resend = 0

theorem RailFrame.refl (s : State) : RailFrame s s := by
  constructor <;> first | rfl | exact ⟨_, rfl⟩ | exact fun _ _ _ => rfl | exact fun _ _ h => .inl h

theorem RailFrame.trans {s t u : State} (a : RailFrame s t) (b : RailFrame t u) :
    RailFrame s u where
  settings := b.settings.trans a.settings
  table := b.table.trans a.table
  front := b.front.trans a.front
  timers := b.timers.trans a.timers
  holdUp := b.holdUp.trans a.holdUp
  line := b.line.trans a.line
  seq := b.seq.trans a.seq
  last := b.last.trans a.last
  mute := b.mute.trans a.mute
  dim := b.dim.trans a.dim
  port := b.port.trans a.port
  loader := b.loader.trans a.loader
  freeIndex := b.freeIndex.trans a.freeIndex
  pending := b.pending.trans a.pending
  link := b.link.trans a.link
  inFlight := b.inFlight.trans a.inFlight
  breakDrive := b.breakDrive.trans a.breakDrive
  stuck := b.stuck.trans a.stuck
  cur := by
    obtain ⟨m, hm⟩ := a.cur
    obtain ⟨n, hn⟩ := b.cur
    exact ⟨n, by rw [hn, hm]⟩
  others := fun k h h' => (b.others k h h').trans (a.others k h h')
  fresh := fun k p h => (b.fresh k p h).elim (a.fresh k p) .inr

/-- A change of rails and rail conditions alone. -/
theorem RailFrame.of_rails_ctl (s : State) (r : Vector Rail 8) (c : RailControl) :
    RailFrame s { s with rails := r, ctl := c } := by
  constructor <;> first | rfl | exact ⟨_, rfl⟩ | exact fun _ _ _ => rfl | exact fun _ _ h => .inl h

theorem RailFrame.ctl (s : State) (c : RailControl) : RailFrame s { s with ctl := c } :=
  .of_rails_ctl s s.rails c

theorem RailFrame.setRail (i : Fin 8) (r : Rail) (s : State) : RailFrame s (s.setRail i r) :=
  .of_rails_ctl s _ s.ctl

theorem RailFrame.modifyRail (i : Fin 8) (f : Rail → Rail) (s : State) :
    RailFrame s (s.modifyRail i f) :=
  .of_rails_ctl s _ s.ctl

theorem RailFrame.countLaterFault (s : State) : RailFrame s s.countLaterFault := by
  constructor <;> first | rfl | exact ⟨_, rfl⟩ | exact fun _ _ _ => rfl | exact fun _ _ h => .inl h

theorem RailFrame.queueNotice (k : Kind) (a b : Byte) (s : State) (h : k = .fault ∨ k = .commit) :
    RailFrame s (s.queueNotice k a b) where
  settings := by simp
  table := by simp
  front := by simp
  timers := by simp
  holdUp := by simp
  line := by simp
  seq := by simp
  last := by simp
  mute := by simp
  dim := by simp
  port := by simp
  loader := by simp
  freeIndex := by simp
  pending := by simp
  link := by simp
  inFlight := by simp
  breakDrive := by simp
  stuck := by simp
  cur := by unfold State.queueNotice; split <;> exact ⟨_, rfl⟩
  others := fun j hf hc => s.queueNotice_pendingOf_other a b (by rcases h with rfl | rfl <;> assumption)
  fresh := fun _ _ hp => s.queueNotice_fresh k a b hp

/-- The loop over the rails keeps what each turn keeps. -/
theorem RailFrame.forEachRail {f : Fin 8 → State → State} (h : ∀ i u, RailFrame u (f i u))
    (s : State) : RailFrame s (s.forEachRail f) := by
  have go : ∀ (l : List (Fin 8)) (u : State), RailFrame u (l.foldl (fun t i => f i t) u) := by
    intro l
    induction l with
    | nil => exact RailFrame.refl
    | cons i l ih => exact fun u => (h i u).trans (ih _)
  exact go railIndices s

/-! ### One lemma for each operation -/

theorem RailFrame.enterFalling (i : Fin 8) (forced : Bool) (s : State) :
    RailFrame s (s.enterFalling i forced) := .setRail ..

theorem RailFrame.joinBlankWait (s : State) : RailFrame s s.joinBlankWait := by
  unfold State.joinBlankWait; split
  · exact .ctl ..
  · exact .refl s
  · exact .refl s

theorem RailFrame.tidyBlankWait (s : State) : RailFrame s s.tidyBlankWait := by
  unfold State.tidyBlankWait; split
  · exact .refl s
  · exact .ctl ..

theorem RailFrame.reportRailFault (i : Fin 8) (reason : RailReason) (s : State) :
    RailFrame s (s.reportRailFault i reason) := by
  unfold State.reportRailFault; split
  · exact .queueNotice _ _ _ _ (.inl rfl)
  · exact .countLaterFault s

theorem RailFrame.reportRailSag (s : State) : RailFrame s s.reportRailSag := by
  unfold State.reportRailSag; split
  · exact .queueNotice _ _ _ _ (.inr rfl)
  · exact .refl s

theorem RailFrame.railFault (i : Fin 8) (reason : RailReason) (s : State) :
    RailFrame s (s.railFault i reason) :=
  (((RailFrame.modifyRail i _ s).trans (.enterFalling i true _)).trans (.tidyBlankWait _)).trans
    (.reportRailFault i reason _)

theorem RailFrame.enterSettling (i : Fin 8) (s : State) : RailFrame s (s.enterSettling i) :=
  .modifyRail ..

theorem RailFrame.rampedUp (i : Fin 8) (s : State) : RailFrame s (s.rampedUp i) :=
  (RailFrame.modifyRail i _ s).trans (.enterSettling i _)

theorem RailFrame.enterRamping (i : Fin 8) (s : State) : RailFrame s (s.enterRamping i) := by
  unfold State.enterRamping; dsimp only; split
  · exact (RailFrame.modifyRail i _ s).trans (.rampedUp i _)
  · exact (RailFrame.modifyRail i _ s).trans (.railFault i _ _)
  · exact .modifyRail ..
  · exact .modifyRail ..
  · exact .modifyRail ..

theorem RailFrame.bringUp (i : Fin 8) (s : State) : RailFrame s (s.bringUp i) := by
  unfold State.bringUp; split
  · exact .enterRamping i s
  · exact .enterSettling i s

theorem RailFrame.applyArmed (i : Fin 8) (s : State) : RailFrame s (s.applyArmed i) := by
  unfold State.applyArmed; split
  · exact .bringUp i s
  · exact .enterFalling i false s
  all_goals exact .refl s

theorem RailFrame.endBlankWait (s : State) : RailFrame s s.endBlankWait :=
  (RailFrame.ctl s _).trans (.forEachRail (fun i u => .applyArmed i u) _)

theorem RailFrame.vblankEdge (s : State) : RailFrame s s.vblankEdge := by
  unfold State.vblankEdge; split
  · exact .endBlankWait s
  · exact .refl s

theorem RailFrame.switchOn (i : Fin 8) (s : State) : RailFrame s (s.switchOn i) := by
  unfold State.switchOn; dsimp only; split
  · split
    · exact ((RailFrame.modifyRail i _ s).trans (.modifyRail i _ _)).trans (.joinBlankWait _)
    · exact (RailFrame.modifyRail i _ s).trans (.bringUp i _)
  · exact .refl s

theorem RailFrame.switchOffServing (i : Fin 8) (s : State) :
    RailFrame s (s.switchOffServing i) := by
  unfold State.switchOffServing; dsimp only; split
  · exact (RailFrame.modifyRail i _ s).trans (.joinBlankWait _)
  · split
    · exact .modifyRail ..
    · exact .enterFalling i false s

theorem RailFrame.switchOff (i : Fin 8) (s : State) : RailFrame s (s.switchOff i) := by
  unfold State.switchOff; split
  · split
    · exact (RailFrame.modifyRail i _ s).trans (.tidyBlankWait _)
    · exact .switchOffServing i s
    · exact .switchOffServing i s
    · exact .switchOffServing i s
    · exact .modifyRail ..
    all_goals exact .refl s
  · exact .refl s

theorem RailFrame.shed (i : Fin 8) (s : State) : RailFrame s (s.shed i) := by
  unfold State.shed; split
  · exact .modifyRail ..
  · exact .refl s

theorem RailFrame.restore (i : Fin 8) (s : State) : RailFrame s (s.restore i) := by
  unfold State.restore; split
  · exact (RailFrame.modifyRail i _ s).trans (.bringUp i _)
  · exact .refl s

theorem RailFrame.hurryFall (i : Fin 8) (s : State) : RailFrame s (s.hurryFall i) :=
  .modifyRail ..

theorem RailFrame.forceRailOff (i : Fin 8) (s : State) : RailFrame s (s.forceRailOff i) := by
  unfold State.forceRailOff; split
  · split
    · exact .modifyRail ..
    · exact .modifyRail ..
    · exact .enterFalling i true s
    · exact .enterFalling i true s
    · exact .enterFalling i true s
    · exact .enterFalling i true s
    · exact .enterFalling i true s
    · exact .hurryFall i s
    all_goals exact .refl s
  · exact .refl s

theorem RailFrame.forceOff (s : State) : RailFrame s s.forceOff :=
  (RailFrame.forEachRail (fun i u => .forceRailOff i u) s).trans (.tidyBlankWait _)

theorem RailFrame.hold (s : State) : RailFrame s s.hold :=
  (RailFrame.ctl s _).trans (.forEachRail (fun i u => .modifyRail i _ u) _)

theorem RailFrame.resume (s : State) : RailFrame s s.resume :=
  (RailFrame.ctl s _).trans (.forEachRail (fun i u => .modifyRail i _ u) _)

theorem RailFrame.switchOnPhase (k : Nat) (s : State) : RailFrame s (s.switchOnPhase k) :=
  .forEachRail (fun i u => by split; exacts [.switchOn i u, .refl u]) s

theorem RailFrame.switchOffPhase (d : Nat) (s : State) : RailFrame s (s.switchOffPhase d) :=
  .forEachRail (fun i u => by split; exacts [.switchOff i u, .refl u]) s

theorem RailFrame.dipSettling (i : Fin 8) (s : State) : RailFrame s (s.dipSettling i) :=
  (RailFrame.modifyRail i _ s).trans (.reportRailSag _)

theorem RailFrame.dipGood (i : Fin 8) (s : State) : RailFrame s (s.dipGood i) :=
  (RailFrame.modifyRail i _ s).trans (.reportRailSag _)

theorem RailFrame.zoneGood (i : Fin 8) (s : State) : RailFrame s (s.zoneGood i) := by
  unfold State.zoneGood; split
  · exact .rampedUp i s
  all_goals exact .refl s

theorem RailFrame.zoneHigh (i : Fin 8) (s : State) : RailFrame s (s.zoneHigh i) := by
  unfold State.zoneHigh; split
  all_goals first | exact .railFault i _ s | exact .refl s

theorem RailFrame.zoneLow (i : Fin 8) (off : Bool) (s : State) : RailFrame s (s.zoneLow i off) := by
  unfold State.zoneLow; repeat' split
  all_goals
    first
    | exact .dipSettling i s
    | exact .dipGood i s
    | exact .railFault i _ s
    | exact .modifyRail ..
    | exact .refl s

theorem RailFrame.zoneEvent (i : Fin 8) (z : Zone) (s : State) : RailFrame s (s.zoneEvent i z) := by
  cases z
  · exact .zoneLow i true s
  · exact .zoneLow i false s
  · exact .zoneGood i s
  · exact .zoneHigh i s

theorem RailFrame.urgentRail (i : Fin 8) (s : State) : RailFrame s (s.urgentRail i) := by
  unfold State.urgentRail; repeat' split
  all_goals first | exact .enterFalling i true s | exact .hurryFall i s | exact .refl s

theorem RailFrame.urgentRails (s : State) : RailFrame s s.urgentRails :=
  (RailFrame.forEachRail (fun i u => .urgentRail i u) s).trans (.tidyBlankWait _)

theorem RailFrame.soloRail (i : Fin 8) (s : State) : RailFrame s (s.soloRail i) := by
  unfold State.soloRail; split
  all_goals first | exact .enterFalling i false s | exact .modifyRail .. | exact .refl s

theorem RailFrame.setSolo (s : State) : RailFrame s s.setSolo :=
  ((RailFrame.ctl s _).trans (.forEachRail (fun i u => .soloRail i u) _)).trans (.tidyBlankWait _)

theorem RailFrame.rideEndRail (i : Fin 8) (s : State) : RailFrame s (s.rideEndRail i) := by
  unfold State.rideEndRail; split
  · exact .railFault i _ s
  · exact .refl s

theorem RailFrame.clearRide (s : State) : RailFrame s s.clearRide := by
  unfold State.clearRide; split
  · exact (RailFrame.ctl s _).trans (.forEachRail (fun i u => .rideEndRail i u) _)
  · exact .refl s

theorem RailFrame.endRide (s : State) : RailFrame s s.endRide := by
  unfold State.endRide; split
  · exact (RailFrame.resume s).trans (.clearRide _)
  · exact .clearRide s

theorem RailFrame.dimWaitEnds (i : Fin 8) (s : State) : RailFrame s (s.dimWaitEnds i) := by
  unfold State.dimWaitEnds; split
  · exact .enterFalling i false s
  · exact .refl s

theorem RailFrame.riseLimitExpired (i : Fin 8) (s : State) : RailFrame s (s.riseLimitExpired i) :=
  (RailFrame.modifyRail i _ s).trans (.railFault i _ _)

theorem RailFrame.settleExpired (i : Fin 8) (s : State) : RailFrame s (s.settleExpired i) :=
  .modifyRail ..

theorem RailFrame.fallExpired (i : Fin 8) (s : State) : RailFrame s (s.fallExpired i) := by
  unfold State.fallExpired; dsimp only; repeat' split
  all_goals exact .modifyRail ..

theorem RailFrame.dischargeExpired (i : Fin 8) (s : State) :
    RailFrame s (s.dischargeExpired i) := .modifyRail ..

end Sys2Proof.Machine
end

