-- ==== Sys2Proof/Laws/RailFields.lean ====
section
/-! SUPPORT. The components that each operation of the rail controller leaves alone, one simp lemma each. -/

namespace Sys2Proof.Machine

@[simp] theorem State.enterFalling_settings (s : State) (i : Fin 8) (b : Bool) : (s.enterFalling i b).settings = s.settings := (RailFrame.enterFalling i b s).settings
@[simp] theorem State.enterFalling_table (s : State) (i : Fin 8) (b : Bool) : (s.enterFalling i b).table = s.table := (RailFrame.enterFalling i b s).table
@[simp] theorem State.enterFalling_front (s : State) (i : Fin 8) (b : Bool) : (s.enterFalling i b).front = s.front := (RailFrame.enterFalling i b s).front
@[simp] theorem State.enterFalling_timers (s : State) (i : Fin 8) (b : Bool) : (s.enterFalling i b).timers = s.timers := (RailFrame.enterFalling i b s).timers
@[simp] theorem State.enterFalling_holdUp (s : State) (i : Fin 8) (b : Bool) : (s.enterFalling i b).holdUp = s.holdUp := (RailFrame.enterFalling i b s).holdUp
@[simp] theorem State.enterFalling_line (s : State) (i : Fin 8) (b : Bool) : (s.enterFalling i b).line = s.line := (RailFrame.enterFalling i b s).line
@[simp] theorem State.enterFalling_seq (s : State) (i : Fin 8) (b : Bool) : (s.enterFalling i b).seq = s.seq := (RailFrame.enterFalling i b s).seq
@[simp] theorem State.enterFalling_last (s : State) (i : Fin 8) (b : Bool) : (s.enterFalling i b).last = s.last := (RailFrame.enterFalling i b s).last
@[simp] theorem State.enterFalling_mute (s : State) (i : Fin 8) (b : Bool) : (s.enterFalling i b).mute = s.mute := (RailFrame.enterFalling i b s).mute
@[simp] theorem State.enterFalling_dim (s : State) (i : Fin 8) (b : Bool) : (s.enterFalling i b).dim = s.dim := (RailFrame.enterFalling i b s).dim
@[simp] theorem State.enterFalling_port (s : State) (i : Fin 8) (b : Bool) : (s.enterFalling i b).port = s.port := (RailFrame.enterFalling i b s).port
@[simp] theorem State.enterFalling_loader (s : State) (i : Fin 8) (b : Bool) : (s.enterFalling i b).loader = s.loader := (RailFrame.enterFalling i b s).loader
@[simp] theorem State.enterFalling_freeIndex (s : State) (i : Fin 8) (b : Bool) : (s.enterFalling i b).freeIndex = s.freeIndex := (RailFrame.enterFalling i b s).freeIndex
@[simp] theorem State.enterFalling_pending (s : State) (i : Fin 8) (b : Bool) : (s.enterFalling i b).pending = s.pending := (RailFrame.enterFalling i b s).pending
@[simp] theorem State.enterFalling_link (s : State) (i : Fin 8) (b : Bool) : (s.enterFalling i b).notices.link = s.notices.link := (RailFrame.enterFalling i b s).link
@[simp] theorem State.enterFalling_inFlight (s : State) (i : Fin 8) (b : Bool) : (s.enterFalling i b).notices.inFlight = s.notices.inFlight := (RailFrame.enterFalling i b s).inFlight
@[simp] theorem State.enterFalling_breakDrive (s : State) (i : Fin 8) (b : Bool) : (s.enterFalling i b).notices.breakDrive = s.notices.breakDrive := (RailFrame.enterFalling i b s).breakDrive
@[simp] theorem State.enterFalling_stuck (s : State) (i : Fin 8) (b : Bool) : (s.enterFalling i b).notices.stuck = s.notices.stuck := (RailFrame.enterFalling i b s).stuck

@[simp] theorem State.railFault_settings (s : State) (i : Fin 8) (r : RailReason) : (s.railFault i r).settings = s.settings := (RailFrame.railFault i r s).settings
@[simp] theorem State.railFault_table (s : State) (i : Fin 8) (r : RailReason) : (s.railFault i r).table = s.table := (RailFrame.railFault i r s).table
@[simp] theorem State.railFault_front (s : State) (i : Fin 8) (r : RailReason) : (s.railFault i r).front = s.front := (RailFrame.railFault i r s).front
@[simp] theorem State.railFault_timers (s : State) (i : Fin 8) (r : RailReason) : (s.railFault i r).timers = s.timers := (RailFrame.railFault i r s).timers
@[simp] theorem State.railFault_holdUp (s : State) (i : Fin 8) (r : RailReason) : (s.railFault i r).holdUp = s.holdUp := (RailFrame.railFault i r s).holdUp
@[simp] theorem State.railFault_line (s : State) (i : Fin 8) (r : RailReason) : (s.railFault i r).line = s.line := (RailFrame.railFault i r s).line
@[simp] theorem State.railFault_seq (s : State) (i : Fin 8) (r : RailReason) : (s.railFault i r).seq = s.seq := (RailFrame.railFault i r s).seq
@[simp] theorem State.railFault_last (s : State) (i : Fin 8) (r : RailReason) : (s.railFault i r).last = s.last := (RailFrame.railFault i r s).last
@[simp] theorem State.railFault_mute (s : State) (i : Fin 8) (r : RailReason) : (s.railFault i r).mute = s.mute := (RailFrame.railFault i r s).mute
@[simp] theorem State.railFault_dim (s : State) (i : Fin 8) (r : RailReason) : (s.railFault i r).dim = s.dim := (RailFrame.railFault i r s).dim
@[simp] theorem State.railFault_port (s : State) (i : Fin 8) (r : RailReason) : (s.railFault i r).port = s.port := (RailFrame.railFault i r s).port
@[simp] theorem State.railFault_loader (s : State) (i : Fin 8) (r : RailReason) : (s.railFault i r).loader = s.loader := (RailFrame.railFault i r s).loader
@[simp] theorem State.railFault_freeIndex (s : State) (i : Fin 8) (r : RailReason) : (s.railFault i r).freeIndex = s.freeIndex := (RailFrame.railFault i r s).freeIndex
@[simp] theorem State.railFault_pending (s : State) (i : Fin 8) (r : RailReason) : (s.railFault i r).pending = s.pending := (RailFrame.railFault i r s).pending
@[simp] theorem State.railFault_link (s : State) (i : Fin 8) (r : RailReason) : (s.railFault i r).notices.link = s.notices.link := (RailFrame.railFault i r s).link
@[simp] theorem State.railFault_inFlight (s : State) (i : Fin 8) (r : RailReason) : (s.railFault i r).notices.inFlight = s.notices.inFlight := (RailFrame.railFault i r s).inFlight
@[simp] theorem State.railFault_breakDrive (s : State) (i : Fin 8) (r : RailReason) : (s.railFault i r).notices.breakDrive = s.notices.breakDrive := (RailFrame.railFault i r s).breakDrive
@[simp] theorem State.railFault_stuck (s : State) (i : Fin 8) (r : RailReason) : (s.railFault i r).notices.stuck = s.notices.stuck := (RailFrame.railFault i r s).stuck

@[simp] theorem State.bringUp_settings (s : State) (i : Fin 8) : (s.bringUp i).settings = s.settings := (RailFrame.bringUp i s).settings
@[simp] theorem State.bringUp_table (s : State) (i : Fin 8) : (s.bringUp i).table = s.table := (RailFrame.bringUp i s).table
@[simp] theorem State.bringUp_front (s : State) (i : Fin 8) : (s.bringUp i).front = s.front := (RailFrame.bringUp i s).front
@[simp] theorem State.bringUp_timers (s : State) (i : Fin 8) : (s.bringUp i).timers = s.timers := (RailFrame.bringUp i s).timers
@[simp] theorem State.bringUp_holdUp (s : State) (i : Fin 8) : (s.bringUp i).holdUp = s.holdUp := (RailFrame.bringUp i s).holdUp
@[simp] theorem State.bringUp_line (s : State) (i : Fin 8) : (s.bringUp i).line = s.line := (RailFrame.bringUp i s).line
@[simp] theorem State.bringUp_seq (s : State) (i : Fin 8) : (s.bringUp i).seq = s.seq := (RailFrame.bringUp i s).seq
@[simp] theorem State.bringUp_last (s : State) (i : Fin 8) : (s.bringUp i).last = s.last := (RailFrame.bringUp i s).last
@[simp] theorem State.bringUp_mute (s : State) (i : Fin 8) : (s.bringUp i).mute = s.mute := (RailFrame.bringUp i s).mute
@[simp] theorem State.bringUp_dim (s : State) (i : Fin 8) : (s.bringUp i).dim = s.dim := (RailFrame.bringUp i s).dim
@[simp] theorem State.bringUp_port (s : State) (i : Fin 8) : (s.bringUp i).port = s.port := (RailFrame.bringUp i s).port
@[simp] theorem State.bringUp_loader (s : State) (i : Fin 8) : (s.bringUp i).loader = s.loader := (RailFrame.bringUp i s).loader
@[simp] theorem State.bringUp_freeIndex (s : State) (i : Fin 8) : (s.bringUp i).freeIndex = s.freeIndex := (RailFrame.bringUp i s).freeIndex
@[simp] theorem State.bringUp_pending (s : State) (i : Fin 8) : (s.bringUp i).pending = s.pending := (RailFrame.bringUp i s).pending
@[simp] theorem State.bringUp_link (s : State) (i : Fin 8) : (s.bringUp i).notices.link = s.notices.link := (RailFrame.bringUp i s).link
@[simp] theorem State.bringUp_inFlight (s : State) (i : Fin 8) : (s.bringUp i).notices.inFlight = s.notices.inFlight := (RailFrame.bringUp i s).inFlight
@[simp] theorem State.bringUp_breakDrive (s : State) (i : Fin 8) : (s.bringUp i).notices.breakDrive = s.notices.breakDrive := (RailFrame.bringUp i s).breakDrive
@[simp] theorem State.bringUp_stuck (s : State) (i : Fin 8) : (s.bringUp i).notices.stuck = s.notices.stuck := (RailFrame.bringUp i s).stuck

@[simp] theorem State.applyArmed_settings (s : State) (i : Fin 8) : (s.applyArmed i).settings = s.settings := (RailFrame.applyArmed i s).settings
@[simp] theorem State.applyArmed_table (s : State) (i : Fin 8) : (s.applyArmed i).table = s.table := (RailFrame.applyArmed i s).table
@[simp] theorem State.applyArmed_front (s : State) (i : Fin 8) : (s.applyArmed i).front = s.front := (RailFrame.applyArmed i s).front
@[simp] theorem State.applyArmed_timers (s : State) (i : Fin 8) : (s.applyArmed i).timers = s.timers := (RailFrame.applyArmed i s).timers
@[simp] theorem State.applyArmed_holdUp (s : State) (i : Fin 8) : (s.applyArmed i).holdUp = s.holdUp := (RailFrame.applyArmed i s).holdUp
@[simp] theorem State.applyArmed_line (s : State) (i : Fin 8) : (s.applyArmed i).line = s.line := (RailFrame.applyArmed i s).line
@[simp] theorem State.applyArmed_seq (s : State) (i : Fin 8) : (s.applyArmed i).seq = s.seq := (RailFrame.applyArmed i s).seq
@[simp] theorem State.applyArmed_last (s : State) (i : Fin 8) : (s.applyArmed i).last = s.last := (RailFrame.applyArmed i s).last
@[simp] theorem State.applyArmed_mute (s : State) (i : Fin 8) : (s.applyArmed i).mute = s.mute := (RailFrame.applyArmed i s).mute
@[simp] theorem State.applyArmed_dim (s : State) (i : Fin 8) : (s.applyArmed i).dim = s.dim := (RailFrame.applyArmed i s).dim
@[simp] theorem State.applyArmed_port (s : State) (i : Fin 8) : (s.applyArmed i).port = s.port := (RailFrame.applyArmed i s).port
@[simp] theorem State.applyArmed_loader (s : State) (i : Fin 8) : (s.applyArmed i).loader = s.loader := (RailFrame.applyArmed i s).loader
@[simp] theorem State.applyArmed_freeIndex (s : State) (i : Fin 8) : (s.applyArmed i).freeIndex = s.freeIndex := (RailFrame.applyArmed i s).freeIndex
@[simp] theorem State.applyArmed_pending (s : State) (i : Fin 8) : (s.applyArmed i).pending = s.pending := (RailFrame.applyArmed i s).pending
@[simp] theorem State.applyArmed_link (s : State) (i : Fin 8) : (s.applyArmed i).notices.link = s.notices.link := (RailFrame.applyArmed i s).link
@[simp] theorem State.applyArmed_inFlight (s : State) (i : Fin 8) : (s.applyArmed i).notices.inFlight = s.notices.inFlight := (RailFrame.applyArmed i s).inFlight
@[simp] theorem State.applyArmed_breakDrive (s : State) (i : Fin 8) : (s.applyArmed i).notices.breakDrive = s.notices.breakDrive := (RailFrame.applyArmed i s).breakDrive
@[simp] theorem State.applyArmed_stuck (s : State) (i : Fin 8) : (s.applyArmed i).notices.stuck = s.notices.stuck := (RailFrame.applyArmed i s).stuck

@[simp] theorem State.endBlankWait_settings (s : State) : (s.endBlankWait).settings = s.settings := (RailFrame.endBlankWait s).settings
@[simp] theorem State.endBlankWait_table (s : State) : (s.endBlankWait).table = s.table := (RailFrame.endBlankWait s).table
@[simp] theorem State.endBlankWait_front (s : State) : (s.endBlankWait).front = s.front := (RailFrame.endBlankWait s).front
@[simp] theorem State.endBlankWait_timers (s : State) : (s.endBlankWait).timers = s.timers := (RailFrame.endBlankWait s).timers
@[simp] theorem State.endBlankWait_holdUp (s : State) : (s.endBlankWait).holdUp = s.holdUp := (RailFrame.endBlankWait s).holdUp
@[simp] theorem State.endBlankWait_line (s : State) : (s.endBlankWait).line = s.line := (RailFrame.endBlankWait s).line
@[simp] theorem State.endBlankWait_seq (s : State) : (s.endBlankWait).seq = s.seq := (RailFrame.endBlankWait s).seq
@[simp] theorem State.endBlankWait_last (s : State) : (s.endBlankWait).last = s.last := (RailFrame.endBlankWait s).last
@[simp] theorem State.endBlankWait_mute (s : State) : (s.endBlankWait).mute = s.mute := (RailFrame.endBlankWait s).mute
@[simp] theorem State.endBlankWait_dim (s : State) : (s.endBlankWait).dim = s.dim := (RailFrame.endBlankWait s).dim
@[simp] theorem State.endBlankWait_port (s : State) : (s.endBlankWait).port = s.port := (RailFrame.endBlankWait s).port
@[simp] theorem State.endBlankWait_loader (s : State) : (s.endBlankWait).loader = s.loader := (RailFrame.endBlankWait s).loader
@[simp] theorem State.endBlankWait_freeIndex (s : State) : (s.endBlankWait).freeIndex = s.freeIndex := (RailFrame.endBlankWait s).freeIndex
@[simp] theorem State.endBlankWait_pending (s : State) : (s.endBlankWait).pending = s.pending := (RailFrame.endBlankWait s).pending
@[simp] theorem State.endBlankWait_link (s : State) : (s.endBlankWait).notices.link = s.notices.link := (RailFrame.endBlankWait s).link
@[simp] theorem State.endBlankWait_inFlight (s : State) : (s.endBlankWait).notices.inFlight = s.notices.inFlight := (RailFrame.endBlankWait s).inFlight
@[simp] theorem State.endBlankWait_breakDrive (s : State) : (s.endBlankWait).notices.breakDrive = s.notices.breakDrive := (RailFrame.endBlankWait s).breakDrive
@[simp] theorem State.endBlankWait_stuck (s : State) : (s.endBlankWait).notices.stuck = s.notices.stuck := (RailFrame.endBlankWait s).stuck

@[simp] theorem State.vblankEdge_settings (s : State) : (s.vblankEdge).settings = s.settings := (RailFrame.vblankEdge s).settings
@[simp] theorem State.vblankEdge_table (s : State) : (s.vblankEdge).table = s.table := (RailFrame.vblankEdge s).table
@[simp] theorem State.vblankEdge_front (s : State) : (s.vblankEdge).front = s.front := (RailFrame.vblankEdge s).front
@[simp] theorem State.vblankEdge_timers (s : State) : (s.vblankEdge).timers = s.timers := (RailFrame.vblankEdge s).timers
@[simp] theorem State.vblankEdge_holdUp (s : State) : (s.vblankEdge).holdUp = s.holdUp := (RailFrame.vblankEdge s).holdUp
@[simp] theorem State.vblankEdge_line (s : State) : (s.vblankEdge).line = s.line := (RailFrame.vblankEdge s).line
@[simp] theorem State.vblankEdge_seq (s : State) : (s.vblankEdge).seq = s.seq := (RailFrame.vblankEdge s).seq
@[simp] theorem State.vblankEdge_last (s : State) : (s.vblankEdge).last = s.last := (RailFrame.vblankEdge s).last
@[simp] theorem State.vblankEdge_mute (s : State) : (s.vblankEdge).mute = s.mute := (RailFrame.vblankEdge s).mute
@[simp] theorem State.vblankEdge_dim (s : State) : (s.vblankEdge).dim = s.dim := (RailFrame.vblankEdge s).dim
@[simp] theorem State.vblankEdge_port (s : State) : (s.vblankEdge).port = s.port := (RailFrame.vblankEdge s).port
@[simp] theorem State.vblankEdge_loader (s : State) : (s.vblankEdge).loader = s.loader := (RailFrame.vblankEdge s).loader
@[simp] theorem State.vblankEdge_freeIndex (s : State) : (s.vblankEdge).freeIndex = s.freeIndex := (RailFrame.vblankEdge s).freeIndex
@[simp] theorem State.vblankEdge_pending (s : State) : (s.vblankEdge).pending = s.pending := (RailFrame.vblankEdge s).pending
@[simp] theorem State.vblankEdge_link (s : State) : (s.vblankEdge).notices.link = s.notices.link := (RailFrame.vblankEdge s).link
@[simp] theorem State.vblankEdge_inFlight (s : State) : (s.vblankEdge).notices.inFlight = s.notices.inFlight := (RailFrame.vblankEdge s).inFlight
@[simp] theorem State.vblankEdge_breakDrive (s : State) : (s.vblankEdge).notices.breakDrive = s.notices.breakDrive := (RailFrame.vblankEdge s).breakDrive
@[simp] theorem State.vblankEdge_stuck (s : State) : (s.vblankEdge).notices.stuck = s.notices.stuck := (RailFrame.vblankEdge s).stuck

@[simp] theorem State.switchOn_settings (s : State) (i : Fin 8) : (s.switchOn i).settings = s.settings := (RailFrame.switchOn i s).settings
@[simp] theorem State.switchOn_table (s : State) (i : Fin 8) : (s.switchOn i).table = s.table := (RailFrame.switchOn i s).table
@[simp] theorem State.switchOn_front (s : State) (i : Fin 8) : (s.switchOn i).front = s.front := (RailFrame.switchOn i s).front
@[simp] theorem State.switchOn_timers (s : State) (i : Fin 8) : (s.switchOn i).timers = s.timers := (RailFrame.switchOn i s).timers
@[simp] theorem State.switchOn_holdUp (s : State) (i : Fin 8) : (s.switchOn i).holdUp = s.holdUp := (RailFrame.switchOn i s).holdUp
@[simp] theorem State.switchOn_line (s : State) (i : Fin 8) : (s.switchOn i).line = s.line := (RailFrame.switchOn i s).line
@[simp] theorem State.switchOn_seq (s : State) (i : Fin 8) : (s.switchOn i).seq = s.seq := (RailFrame.switchOn i s).seq
@[simp] theorem State.switchOn_last (s : State) (i : Fin 8) : (s.switchOn i).last = s.last := (RailFrame.switchOn i s).last
@[simp] theorem State.switchOn_mute (s : State) (i : Fin 8) : (s.switchOn i).mute = s.mute := (RailFrame.switchOn i s).mute
@[simp] theorem State.switchOn_dim (s : State) (i : Fin 8) : (s.switchOn i).dim = s.dim := (RailFrame.switchOn i s).dim
@[simp] theorem State.switchOn_port (s : State) (i : Fin 8) : (s.switchOn i).port = s.port := (RailFrame.switchOn i s).port
@[simp] theorem State.switchOn_loader (s : State) (i : Fin 8) : (s.switchOn i).loader = s.loader := (RailFrame.switchOn i s).loader
@[simp] theorem State.switchOn_freeIndex (s : State) (i : Fin 8) : (s.switchOn i).freeIndex = s.freeIndex := (RailFrame.switchOn i s).freeIndex
@[simp] theorem State.switchOn_pending (s : State) (i : Fin 8) : (s.switchOn i).pending = s.pending := (RailFrame.switchOn i s).pending
@[simp] theorem State.switchOn_link (s : State) (i : Fin 8) : (s.switchOn i).notices.link = s.notices.link := (RailFrame.switchOn i s).link
@[simp] theorem State.switchOn_inFlight (s : State) (i : Fin 8) : (s.switchOn i).notices.inFlight = s.notices.inFlight := (RailFrame.switchOn i s).inFlight
@[simp] theorem State.switchOn_breakDrive (s : State) (i : Fin 8) : (s.switchOn i).notices.breakDrive = s.notices.breakDrive := (RailFrame.switchOn i s).breakDrive
@[simp] theorem State.switchOn_stuck (s : State) (i : Fin 8) : (s.switchOn i).notices.stuck = s.notices.stuck := (RailFrame.switchOn i s).stuck

@[simp] theorem State.switchOff_settings (s : State) (i : Fin 8) : (s.switchOff i).settings = s.settings := (RailFrame.switchOff i s).settings
@[simp] theorem State.switchOff_table (s : State) (i : Fin 8) : (s.switchOff i).table = s.table := (RailFrame.switchOff i s).table
@[simp] theorem State.switchOff_front (s : State) (i : Fin 8) : (s.switchOff i).front = s.front := (RailFrame.switchOff i s).front
@[simp] theorem State.switchOff_timers (s : State) (i : Fin 8) : (s.switchOff i).timers = s.timers := (RailFrame.switchOff i s).timers
@[simp] theorem State.switchOff_holdUp (s : State) (i : Fin 8) : (s.switchOff i).holdUp = s.holdUp := (RailFrame.switchOff i s).holdUp
@[simp] theorem State.switchOff_line (s : State) (i : Fin 8) : (s.switchOff i).line = s.line := (RailFrame.switchOff i s).line
@[simp] theorem State.switchOff_seq (s : State) (i : Fin 8) : (s.switchOff i).seq = s.seq := (RailFrame.switchOff i s).seq
@[simp] theorem State.switchOff_last (s : State) (i : Fin 8) : (s.switchOff i).last = s.last := (RailFrame.switchOff i s).last
@[simp] theorem State.switchOff_mute (s : State) (i : Fin 8) : (s.switchOff i).mute = s.mute := (RailFrame.switchOff i s).mute
@[simp] theorem State.switchOff_dim (s : State) (i : Fin 8) : (s.switchOff i).dim = s.dim := (RailFrame.switchOff i s).dim
@[simp] theorem State.switchOff_port (s : State) (i : Fin 8) : (s.switchOff i).port = s.port := (RailFrame.switchOff i s).port
@[simp] theorem State.switchOff_loader (s : State) (i : Fin 8) : (s.switchOff i).loader = s.loader := (RailFrame.switchOff i s).loader
@[simp] theorem State.switchOff_freeIndex (s : State) (i : Fin 8) : (s.switchOff i).freeIndex = s.freeIndex := (RailFrame.switchOff i s).freeIndex
@[simp] theorem State.switchOff_pending (s : State) (i : Fin 8) : (s.switchOff i).pending = s.pending := (RailFrame.switchOff i s).pending
@[simp] theorem State.switchOff_link (s : State) (i : Fin 8) : (s.switchOff i).notices.link = s.notices.link := (RailFrame.switchOff i s).link
@[simp] theorem State.switchOff_inFlight (s : State) (i : Fin 8) : (s.switchOff i).notices.inFlight = s.notices.inFlight := (RailFrame.switchOff i s).inFlight
@[simp] theorem State.switchOff_breakDrive (s : State) (i : Fin 8) : (s.switchOff i).notices.breakDrive = s.notices.breakDrive := (RailFrame.switchOff i s).breakDrive
@[simp] theorem State.switchOff_stuck (s : State) (i : Fin 8) : (s.switchOff i).notices.stuck = s.notices.stuck := (RailFrame.switchOff i s).stuck

@[simp] theorem State.shed_settings (s : State) (i : Fin 8) : (s.shed i).settings = s.settings := (RailFrame.shed i s).settings
@[simp] theorem State.shed_table (s : State) (i : Fin 8) : (s.shed i).table = s.table := (RailFrame.shed i s).table
@[simp] theorem State.shed_front (s : State) (i : Fin 8) : (s.shed i).front = s.front := (RailFrame.shed i s).front
@[simp] theorem State.shed_timers (s : State) (i : Fin 8) : (s.shed i).timers = s.timers := (RailFrame.shed i s).timers
@[simp] theorem State.shed_holdUp (s : State) (i : Fin 8) : (s.shed i).holdUp = s.holdUp := (RailFrame.shed i s).holdUp
@[simp] theorem State.shed_line (s : State) (i : Fin 8) : (s.shed i).line = s.line := (RailFrame.shed i s).line
@[simp] theorem State.shed_seq (s : State) (i : Fin 8) : (s.shed i).seq = s.seq := (RailFrame.shed i s).seq
@[simp] theorem State.shed_last (s : State) (i : Fin 8) : (s.shed i).last = s.last := (RailFrame.shed i s).last
@[simp] theorem State.shed_mute (s : State) (i : Fin 8) : (s.shed i).mute = s.mute := (RailFrame.shed i s).mute
@[simp] theorem State.shed_dim (s : State) (i : Fin 8) : (s.shed i).dim = s.dim := (RailFrame.shed i s).dim
@[simp] theorem State.shed_port (s : State) (i : Fin 8) : (s.shed i).port = s.port := (RailFrame.shed i s).port
@[simp] theorem State.shed_loader (s : State) (i : Fin 8) : (s.shed i).loader = s.loader := (RailFrame.shed i s).loader
@[simp] theorem State.shed_freeIndex (s : State) (i : Fin 8) : (s.shed i).freeIndex = s.freeIndex := (RailFrame.shed i s).freeIndex
@[simp] theorem State.shed_pending (s : State) (i : Fin 8) : (s.shed i).pending = s.pending := (RailFrame.shed i s).pending
@[simp] theorem State.shed_link (s : State) (i : Fin 8) : (s.shed i).notices.link = s.notices.link := (RailFrame.shed i s).link
@[simp] theorem State.shed_inFlight (s : State) (i : Fin 8) : (s.shed i).notices.inFlight = s.notices.inFlight := (RailFrame.shed i s).inFlight
@[simp] theorem State.shed_breakDrive (s : State) (i : Fin 8) : (s.shed i).notices.breakDrive = s.notices.breakDrive := (RailFrame.shed i s).breakDrive
@[simp] theorem State.shed_stuck (s : State) (i : Fin 8) : (s.shed i).notices.stuck = s.notices.stuck := (RailFrame.shed i s).stuck

@[simp] theorem State.restore_settings (s : State) (i : Fin 8) : (s.restore i).settings = s.settings := (RailFrame.restore i s).settings
@[simp] theorem State.restore_table (s : State) (i : Fin 8) : (s.restore i).table = s.table := (RailFrame.restore i s).table
@[simp] theorem State.restore_front (s : State) (i : Fin 8) : (s.restore i).front = s.front := (RailFrame.restore i s).front
@[simp] theorem State.restore_timers (s : State) (i : Fin 8) : (s.restore i).timers = s.timers := (RailFrame.restore i s).timers
@[simp] theorem State.restore_holdUp (s : State) (i : Fin 8) : (s.restore i).holdUp = s.holdUp := (RailFrame.restore i s).holdUp
@[simp] theorem State.restore_line (s : State) (i : Fin 8) : (s.restore i).line = s.line := (RailFrame.restore i s).line
@[simp] theorem State.restore_seq (s : State) (i : Fin 8) : (s.restore i).seq = s.seq := (RailFrame.restore i s).seq
@[simp] theorem State.restore_last (s : State) (i : Fin 8) : (s.restore i).last = s.last := (RailFrame.restore i s).last
@[simp] theorem State.restore_mute (s : State) (i : Fin 8) : (s.restore i).mute = s.mute := (RailFrame.restore i s).mute
@[simp] theorem State.restore_dim (s : State) (i : Fin 8) : (s.restore i).dim = s.dim := (RailFrame.restore i s).dim
@[simp] theorem State.restore_port (s : State) (i : Fin 8) : (s.restore i).port = s.port := (RailFrame.restore i s).port
@[simp] theorem State.restore_loader (s : State) (i : Fin 8) : (s.restore i).loader = s.loader := (RailFrame.restore i s).loader
@[simp] theorem State.restore_freeIndex (s : State) (i : Fin 8) : (s.restore i).freeIndex = s.freeIndex := (RailFrame.restore i s).freeIndex
@[simp] theorem State.restore_pending (s : State) (i : Fin 8) : (s.restore i).pending = s.pending := (RailFrame.restore i s).pending
@[simp] theorem State.restore_link (s : State) (i : Fin 8) : (s.restore i).notices.link = s.notices.link := (RailFrame.restore i s).link
@[simp] theorem State.restore_inFlight (s : State) (i : Fin 8) : (s.restore i).notices.inFlight = s.notices.inFlight := (RailFrame.restore i s).inFlight
@[simp] theorem State.restore_breakDrive (s : State) (i : Fin 8) : (s.restore i).notices.breakDrive = s.notices.breakDrive := (RailFrame.restore i s).breakDrive
@[simp] theorem State.restore_stuck (s : State) (i : Fin 8) : (s.restore i).notices.stuck = s.notices.stuck := (RailFrame.restore i s).stuck

@[simp] theorem State.forceOff_settings (s : State) : (s.forceOff).settings = s.settings := (RailFrame.forceOff s).settings
@[simp] theorem State.forceOff_table (s : State) : (s.forceOff).table = s.table := (RailFrame.forceOff s).table
@[simp] theorem State.forceOff_front (s : State) : (s.forceOff).front = s.front := (RailFrame.forceOff s).front
@[simp] theorem State.forceOff_timers (s : State) : (s.forceOff).timers = s.timers := (RailFrame.forceOff s).timers
@[simp] theorem State.forceOff_holdUp (s : State) : (s.forceOff).holdUp = s.holdUp := (RailFrame.forceOff s).holdUp
@[simp] theorem State.forceOff_line (s : State) : (s.forceOff).line = s.line := (RailFrame.forceOff s).line
@[simp] theorem State.forceOff_seq (s : State) : (s.forceOff).seq = s.seq := (RailFrame.forceOff s).seq
@[simp] theorem State.forceOff_last (s : State) : (s.forceOff).last = s.last := (RailFrame.forceOff s).last
@[simp] theorem State.forceOff_mute (s : State) : (s.forceOff).mute = s.mute := (RailFrame.forceOff s).mute
@[simp] theorem State.forceOff_dim (s : State) : (s.forceOff).dim = s.dim := (RailFrame.forceOff s).dim
@[simp] theorem State.forceOff_port (s : State) : (s.forceOff).port = s.port := (RailFrame.forceOff s).port
@[simp] theorem State.forceOff_loader (s : State) : (s.forceOff).loader = s.loader := (RailFrame.forceOff s).loader
@[simp] theorem State.forceOff_freeIndex (s : State) : (s.forceOff).freeIndex = s.freeIndex := (RailFrame.forceOff s).freeIndex
@[simp] theorem State.forceOff_pending (s : State) : (s.forceOff).pending = s.pending := (RailFrame.forceOff s).pending
@[simp] theorem State.forceOff_link (s : State) : (s.forceOff).notices.link = s.notices.link := (RailFrame.forceOff s).link
@[simp] theorem State.forceOff_inFlight (s : State) : (s.forceOff).notices.inFlight = s.notices.inFlight := (RailFrame.forceOff s).inFlight
@[simp] theorem State.forceOff_breakDrive (s : State) : (s.forceOff).notices.breakDrive = s.notices.breakDrive := (RailFrame.forceOff s).breakDrive
@[simp] theorem State.forceOff_stuck (s : State) : (s.forceOff).notices.stuck = s.notices.stuck := (RailFrame.forceOff s).stuck

@[simp] theorem State.hold_settings (s : State) : (s.hold).settings = s.settings := (RailFrame.hold s).settings
@[simp] theorem State.hold_table (s : State) : (s.hold).table = s.table := (RailFrame.hold s).table
@[simp] theorem State.hold_front (s : State) : (s.hold).front = s.front := (RailFrame.hold s).front
@[simp] theorem State.hold_timers (s : State) : (s.hold).timers = s.timers := (RailFrame.hold s).timers
@[simp] theorem State.hold_holdUp (s : State) : (s.hold).holdUp = s.holdUp := (RailFrame.hold s).holdUp
@[simp] theorem State.hold_line (s : State) : (s.hold).line = s.line := (RailFrame.hold s).line
@[simp] theorem State.hold_seq (s : State) : (s.hold).seq = s.seq := (RailFrame.hold s).seq
@[simp] theorem State.hold_last (s : State) : (s.hold).last = s.last := (RailFrame.hold s).last
@[simp] theorem State.hold_mute (s : State) : (s.hold).mute = s.mute := (RailFrame.hold s).mute
@[simp] theorem State.hold_dim (s : State) : (s.hold).dim = s.dim := (RailFrame.hold s).dim
@[simp] theorem State.hold_port (s : State) : (s.hold).port = s.port := (RailFrame.hold s).port
@[simp] theorem State.hold_loader (s : State) : (s.hold).loader = s.loader := (RailFrame.hold s).loader
@[simp] theorem State.hold_freeIndex (s : State) : (s.hold).freeIndex = s.freeIndex := (RailFrame.hold s).freeIndex
@[simp] theorem State.hold_pending (s : State) : (s.hold).pending = s.pending := (RailFrame.hold s).pending
@[simp] theorem State.hold_link (s : State) : (s.hold).notices.link = s.notices.link := (RailFrame.hold s).link
@[simp] theorem State.hold_inFlight (s : State) : (s.hold).notices.inFlight = s.notices.inFlight := (RailFrame.hold s).inFlight
@[simp] theorem State.hold_breakDrive (s : State) : (s.hold).notices.breakDrive = s.notices.breakDrive := (RailFrame.hold s).breakDrive
@[simp] theorem State.hold_stuck (s : State) : (s.hold).notices.stuck = s.notices.stuck := (RailFrame.hold s).stuck

@[simp] theorem State.resume_settings (s : State) : (s.resume).settings = s.settings := (RailFrame.resume s).settings
@[simp] theorem State.resume_table (s : State) : (s.resume).table = s.table := (RailFrame.resume s).table
@[simp] theorem State.resume_front (s : State) : (s.resume).front = s.front := (RailFrame.resume s).front
@[simp] theorem State.resume_timers (s : State) : (s.resume).timers = s.timers := (RailFrame.resume s).timers
@[simp] theorem State.resume_holdUp (s : State) : (s.resume).holdUp = s.holdUp := (RailFrame.resume s).holdUp
@[simp] theorem State.resume_line (s : State) : (s.resume).line = s.line := (RailFrame.resume s).line
@[simp] theorem State.resume_seq (s : State) : (s.resume).seq = s.seq := (RailFrame.resume s).seq
@[simp] theorem State.resume_last (s : State) : (s.resume).last = s.last := (RailFrame.resume s).last
@[simp] theorem State.resume_mute (s : State) : (s.resume).mute = s.mute := (RailFrame.resume s).mute
@[simp] theorem State.resume_dim (s : State) : (s.resume).dim = s.dim := (RailFrame.resume s).dim
@[simp] theorem State.resume_port (s : State) : (s.resume).port = s.port := (RailFrame.resume s).port
@[simp] theorem State.resume_loader (s : State) : (s.resume).loader = s.loader := (RailFrame.resume s).loader
@[simp] theorem State.resume_freeIndex (s : State) : (s.resume).freeIndex = s.freeIndex := (RailFrame.resume s).freeIndex
@[simp] theorem State.resume_pending (s : State) : (s.resume).pending = s.pending := (RailFrame.resume s).pending
@[simp] theorem State.resume_link (s : State) : (s.resume).notices.link = s.notices.link := (RailFrame.resume s).link
@[simp] theorem State.resume_inFlight (s : State) : (s.resume).notices.inFlight = s.notices.inFlight := (RailFrame.resume s).inFlight
@[simp] theorem State.resume_breakDrive (s : State) : (s.resume).notices.breakDrive = s.notices.breakDrive := (RailFrame.resume s).breakDrive
@[simp] theorem State.resume_stuck (s : State) : (s.resume).notices.stuck = s.notices.stuck := (RailFrame.resume s).stuck

@[simp] theorem State.switchOnPhase_settings (s : State) (k : Nat) : (s.switchOnPhase k).settings = s.settings := (RailFrame.switchOnPhase k s).settings
@[simp] theorem State.switchOnPhase_table (s : State) (k : Nat) : (s.switchOnPhase k).table = s.table := (RailFrame.switchOnPhase k s).table
@[simp] theorem State.switchOnPhase_front (s : State) (k : Nat) : (s.switchOnPhase k).front = s.front := (RailFrame.switchOnPhase k s).front
@[simp] theorem State.switchOnPhase_timers (s : State) (k : Nat) : (s.switchOnPhase k).timers = s.timers := (RailFrame.switchOnPhase k s).timers
@[simp] theorem State.switchOnPhase_holdUp (s : State) (k : Nat) : (s.switchOnPhase k).holdUp = s.holdUp := (RailFrame.switchOnPhase k s).holdUp
@[simp] theorem State.switchOnPhase_line (s : State) (k : Nat) : (s.switchOnPhase k).line = s.line := (RailFrame.switchOnPhase k s).line
@[simp] theorem State.switchOnPhase_seq (s : State) (k : Nat) : (s.switchOnPhase k).seq = s.seq := (RailFrame.switchOnPhase k s).seq
@[simp] theorem State.switchOnPhase_last (s : State) (k : Nat) : (s.switchOnPhase k).last = s.last := (RailFrame.switchOnPhase k s).last
@[simp] theorem State.switchOnPhase_mute (s : State) (k : Nat) : (s.switchOnPhase k).mute = s.mute := (RailFrame.switchOnPhase k s).mute
@[simp] theorem State.switchOnPhase_dim (s : State) (k : Nat) : (s.switchOnPhase k).dim = s.dim := (RailFrame.switchOnPhase k s).dim
@[simp] theorem State.switchOnPhase_port (s : State) (k : Nat) : (s.switchOnPhase k).port = s.port := (RailFrame.switchOnPhase k s).port
@[simp] theorem State.switchOnPhase_loader (s : State) (k : Nat) : (s.switchOnPhase k).loader = s.loader := (RailFrame.switchOnPhase k s).loader
@[simp] theorem State.switchOnPhase_freeIndex (s : State) (k : Nat) : (s.switchOnPhase k).freeIndex = s.freeIndex := (RailFrame.switchOnPhase k s).freeIndex
@[simp] theorem State.switchOnPhase_pending (s : State) (k : Nat) : (s.switchOnPhase k).pending = s.pending := (RailFrame.switchOnPhase k s).pending
@[simp] theorem State.switchOnPhase_link (s : State) (k : Nat) : (s.switchOnPhase k).notices.link = s.notices.link := (RailFrame.switchOnPhase k s).link
@[simp] theorem State.switchOnPhase_inFlight (s : State) (k : Nat) : (s.switchOnPhase k).notices.inFlight = s.notices.inFlight := (RailFrame.switchOnPhase k s).inFlight
@[simp] theorem State.switchOnPhase_breakDrive (s : State) (k : Nat) : (s.switchOnPhase k).notices.breakDrive = s.notices.breakDrive := (RailFrame.switchOnPhase k s).breakDrive
@[simp] theorem State.switchOnPhase_stuck (s : State) (k : Nat) : (s.switchOnPhase k).notices.stuck = s.notices.stuck := (RailFrame.switchOnPhase k s).stuck

@[simp] theorem State.switchOffPhase_settings (s : State) (d : Nat) : (s.switchOffPhase d).settings = s.settings := (RailFrame.switchOffPhase d s).settings
@[simp] theorem State.switchOffPhase_table (s : State) (d : Nat) : (s.switchOffPhase d).table = s.table := (RailFrame.switchOffPhase d s).table
@[simp] theorem State.switchOffPhase_front (s : State) (d : Nat) : (s.switchOffPhase d).front = s.front := (RailFrame.switchOffPhase d s).front
@[simp] theorem State.switchOffPhase_timers (s : State) (d : Nat) : (s.switchOffPhase d).timers = s.timers := (RailFrame.switchOffPhase d s).timers
@[simp] theorem State.switchOffPhase_holdUp (s : State) (d : Nat) : (s.switchOffPhase d).holdUp = s.holdUp := (RailFrame.switchOffPhase d s).holdUp
@[simp] theorem State.switchOffPhase_line (s : State) (d : Nat) : (s.switchOffPhase d).line = s.line := (RailFrame.switchOffPhase d s).line
@[simp] theorem State.switchOffPhase_seq (s : State) (d : Nat) : (s.switchOffPhase d).seq = s.seq := (RailFrame.switchOffPhase d s).seq
@[simp] theorem State.switchOffPhase_last (s : State) (d : Nat) : (s.switchOffPhase d).last = s.last := (RailFrame.switchOffPhase d s).last
@[simp] theorem State.switchOffPhase_mute (s : State) (d : Nat) : (s.switchOffPhase d).mute = s.mute := (RailFrame.switchOffPhase d s).mute
@[simp] theorem State.switchOffPhase_dim (s : State) (d : Nat) : (s.switchOffPhase d).dim = s.dim := (RailFrame.switchOffPhase d s).dim
@[simp] theorem State.switchOffPhase_port (s : State) (d : Nat) : (s.switchOffPhase d).port = s.port := (RailFrame.switchOffPhase d s).port
@[simp] theorem State.switchOffPhase_loader (s : State) (d : Nat) : (s.switchOffPhase d).loader = s.loader := (RailFrame.switchOffPhase d s).loader
@[simp] theorem State.switchOffPhase_freeIndex (s : State) (d : Nat) : (s.switchOffPhase d).freeIndex = s.freeIndex := (RailFrame.switchOffPhase d s).freeIndex
@[simp] theorem State.switchOffPhase_pending (s : State) (d : Nat) : (s.switchOffPhase d).pending = s.pending := (RailFrame.switchOffPhase d s).pending
@[simp] theorem State.switchOffPhase_link (s : State) (d : Nat) : (s.switchOffPhase d).notices.link = s.notices.link := (RailFrame.switchOffPhase d s).link
@[simp] theorem State.switchOffPhase_inFlight (s : State) (d : Nat) : (s.switchOffPhase d).notices.inFlight = s.notices.inFlight := (RailFrame.switchOffPhase d s).inFlight
@[simp] theorem State.switchOffPhase_breakDrive (s : State) (d : Nat) : (s.switchOffPhase d).notices.breakDrive = s.notices.breakDrive := (RailFrame.switchOffPhase d s).breakDrive
@[simp] theorem State.switchOffPhase_stuck (s : State) (d : Nat) : (s.switchOffPhase d).notices.stuck = s.notices.stuck := (RailFrame.switchOffPhase d s).stuck

@[simp] theorem State.zoneEvent_settings (s : State) (i : Fin 8) (z : Zone) : (s.zoneEvent i z).settings = s.settings := (RailFrame.zoneEvent i z s).settings
@[simp] theorem State.zoneEvent_table (s : State) (i : Fin 8) (z : Zone) : (s.zoneEvent i z).table = s.table := (RailFrame.zoneEvent i z s).table
@[simp] theorem State.zoneEvent_front (s : State) (i : Fin 8) (z : Zone) : (s.zoneEvent i z).front = s.front := (RailFrame.zoneEvent i z s).front
@[simp] theorem State.zoneEvent_timers (s : State) (i : Fin 8) (z : Zone) : (s.zoneEvent i z).timers = s.timers := (RailFrame.zoneEvent i z s).timers
@[simp] theorem State.zoneEvent_holdUp (s : State) (i : Fin 8) (z : Zone) : (s.zoneEvent i z).holdUp = s.holdUp := (RailFrame.zoneEvent i z s).holdUp
@[simp] theorem State.zoneEvent_line (s : State) (i : Fin 8) (z : Zone) : (s.zoneEvent i z).line = s.line := (RailFrame.zoneEvent i z s).line
@[simp] theorem State.zoneEvent_seq (s : State) (i : Fin 8) (z : Zone) : (s.zoneEvent i z).seq = s.seq := (RailFrame.zoneEvent i z s).seq
@[simp] theorem State.zoneEvent_last (s : State) (i : Fin 8) (z : Zone) : (s.zoneEvent i z).last = s.last := (RailFrame.zoneEvent i z s).last
@[simp] theorem State.zoneEvent_mute (s : State) (i : Fin 8) (z : Zone) : (s.zoneEvent i z).mute = s.mute := (RailFrame.zoneEvent i z s).mute
@[simp] theorem State.zoneEvent_dim (s : State) (i : Fin 8) (z : Zone) : (s.zoneEvent i z).dim = s.dim := (RailFrame.zoneEvent i z s).dim
@[simp] theorem State.zoneEvent_port (s : State) (i : Fin 8) (z : Zone) : (s.zoneEvent i z).port = s.port := (RailFrame.zoneEvent i z s).port
@[simp] theorem State.zoneEvent_loader (s : State) (i : Fin 8) (z : Zone) : (s.zoneEvent i z).loader = s.loader := (RailFrame.zoneEvent i z s).loader
@[simp] theorem State.zoneEvent_freeIndex (s : State) (i : Fin 8) (z : Zone) : (s.zoneEvent i z).freeIndex = s.freeIndex := (RailFrame.zoneEvent i z s).freeIndex
@[simp] theorem State.zoneEvent_pending (s : State) (i : Fin 8) (z : Zone) : (s.zoneEvent i z).pending = s.pending := (RailFrame.zoneEvent i z s).pending
@[simp] theorem State.zoneEvent_link (s : State) (i : Fin 8) (z : Zone) : (s.zoneEvent i z).notices.link = s.notices.link := (RailFrame.zoneEvent i z s).link
@[simp] theorem State.zoneEvent_inFlight (s : State) (i : Fin 8) (z : Zone) : (s.zoneEvent i z).notices.inFlight = s.notices.inFlight := (RailFrame.zoneEvent i z s).inFlight
@[simp] theorem State.zoneEvent_breakDrive (s : State) (i : Fin 8) (z : Zone) : (s.zoneEvent i z).notices.breakDrive = s.notices.breakDrive := (RailFrame.zoneEvent i z s).breakDrive
@[simp] theorem State.zoneEvent_stuck (s : State) (i : Fin 8) (z : Zone) : (s.zoneEvent i z).notices.stuck = s.notices.stuck := (RailFrame.zoneEvent i z s).stuck

@[simp] theorem State.urgentRails_settings (s : State) : (s.urgentRails).settings = s.settings := (RailFrame.urgentRails s).settings
@[simp] theorem State.urgentRails_table (s : State) : (s.urgentRails).table = s.table := (RailFrame.urgentRails s).table
@[simp] theorem State.urgentRails_front (s : State) : (s.urgentRails).front = s.front := (RailFrame.urgentRails s).front
@[simp] theorem State.urgentRails_timers (s : State) : (s.urgentRails).timers = s.timers := (RailFrame.urgentRails s).timers
@[simp] theorem State.urgentRails_holdUp (s : State) : (s.urgentRails).holdUp = s.holdUp := (RailFrame.urgentRails s).holdUp
@[simp] theorem State.urgentRails_line (s : State) : (s.urgentRails).line = s.line := (RailFrame.urgentRails s).line
@[simp] theorem State.urgentRails_seq (s : State) : (s.urgentRails).seq = s.seq := (RailFrame.urgentRails s).seq
@[simp] theorem State.urgentRails_last (s : State) : (s.urgentRails).last = s.last := (RailFrame.urgentRails s).last
@[simp] theorem State.urgentRails_mute (s : State) : (s.urgentRails).mute = s.mute := (RailFrame.urgentRails s).mute
@[simp] theorem State.urgentRails_dim (s : State) : (s.urgentRails).dim = s.dim := (RailFrame.urgentRails s).dim
@[simp] theorem State.urgentRails_port (s : State) : (s.urgentRails).port = s.port := (RailFrame.urgentRails s).port
@[simp] theorem State.urgentRails_loader (s : State) : (s.urgentRails).loader = s.loader := (RailFrame.urgentRails s).loader
@[simp] theorem State.urgentRails_freeIndex (s : State) : (s.urgentRails).freeIndex = s.freeIndex := (RailFrame.urgentRails s).freeIndex
@[simp] theorem State.urgentRails_pending (s : State) : (s.urgentRails).pending = s.pending := (RailFrame.urgentRails s).pending
@[simp] theorem State.urgentRails_link (s : State) : (s.urgentRails).notices.link = s.notices.link := (RailFrame.urgentRails s).link
@[simp] theorem State.urgentRails_inFlight (s : State) : (s.urgentRails).notices.inFlight = s.notices.inFlight := (RailFrame.urgentRails s).inFlight
@[simp] theorem State.urgentRails_breakDrive (s : State) : (s.urgentRails).notices.breakDrive = s.notices.breakDrive := (RailFrame.urgentRails s).breakDrive
@[simp] theorem State.urgentRails_stuck (s : State) : (s.urgentRails).notices.stuck = s.notices.stuck := (RailFrame.urgentRails s).stuck

@[simp] theorem State.setSolo_settings (s : State) : (s.setSolo).settings = s.settings := (RailFrame.setSolo s).settings
@[simp] theorem State.setSolo_table (s : State) : (s.setSolo).table = s.table := (RailFrame.setSolo s).table
@[simp] theorem State.setSolo_front (s : State) : (s.setSolo).front = s.front := (RailFrame.setSolo s).front
@[simp] theorem State.setSolo_timers (s : State) : (s.setSolo).timers = s.timers := (RailFrame.setSolo s).timers
@[simp] theorem State.setSolo_holdUp (s : State) : (s.setSolo).holdUp = s.holdUp := (RailFrame.setSolo s).holdUp
@[simp] theorem State.setSolo_line (s : State) : (s.setSolo).line = s.line := (RailFrame.setSolo s).line
@[simp] theorem State.setSolo_seq (s : State) : (s.setSolo).seq = s.seq := (RailFrame.setSolo s).seq
@[simp] theorem State.setSolo_last (s : State) : (s.setSolo).last = s.last := (RailFrame.setSolo s).last
@[simp] theorem State.setSolo_mute (s : State) : (s.setSolo).mute = s.mute := (RailFrame.setSolo s).mute
@[simp] theorem State.setSolo_dim (s : State) : (s.setSolo).dim = s.dim := (RailFrame.setSolo s).dim
@[simp] theorem State.setSolo_port (s : State) : (s.setSolo).port = s.port := (RailFrame.setSolo s).port
@[simp] theorem State.setSolo_loader (s : State) : (s.setSolo).loader = s.loader := (RailFrame.setSolo s).loader
@[simp] theorem State.setSolo_freeIndex (s : State) : (s.setSolo).freeIndex = s.freeIndex := (RailFrame.setSolo s).freeIndex
@[simp] theorem State.setSolo_pending (s : State) : (s.setSolo).pending = s.pending := (RailFrame.setSolo s).pending
@[simp] theorem State.setSolo_link (s : State) : (s.setSolo).notices.link = s.notices.link := (RailFrame.setSolo s).link
@[simp] theorem State.setSolo_inFlight (s : State) : (s.setSolo).notices.inFlight = s.notices.inFlight := (RailFrame.setSolo s).inFlight
@[simp] theorem State.setSolo_breakDrive (s : State) : (s.setSolo).notices.breakDrive = s.notices.breakDrive := (RailFrame.setSolo s).breakDrive
@[simp] theorem State.setSolo_stuck (s : State) : (s.setSolo).notices.stuck = s.notices.stuck := (RailFrame.setSolo s).stuck

@[simp] theorem State.clearRide_settings (s : State) : (s.clearRide).settings = s.settings := (RailFrame.clearRide s).settings
@[simp] theorem State.clearRide_table (s : State) : (s.clearRide).table = s.table := (RailFrame.clearRide s).table
@[simp] theorem State.clearRide_front (s : State) : (s.clearRide).front = s.front := (RailFrame.clearRide s).front
@[simp] theorem State.clearRide_timers (s : State) : (s.clearRide).timers = s.timers := (RailFrame.clearRide s).timers
@[simp] theorem State.clearRide_holdUp (s : State) : (s.clearRide).holdUp = s.holdUp := (RailFrame.clearRide s).holdUp
@[simp] theorem State.clearRide_line (s : State) : (s.clearRide).line = s.line := (RailFrame.clearRide s).line
@[simp] theorem State.clearRide_seq (s : State) : (s.clearRide).seq = s.seq := (RailFrame.clearRide s).seq
@[simp] theorem State.clearRide_last (s : State) : (s.clearRide).last = s.last := (RailFrame.clearRide s).last
@[simp] theorem State.clearRide_mute (s : State) : (s.clearRide).mute = s.mute := (RailFrame.clearRide s).mute
@[simp] theorem State.clearRide_dim (s : State) : (s.clearRide).dim = s.dim := (RailFrame.clearRide s).dim
@[simp] theorem State.clearRide_port (s : State) : (s.clearRide).port = s.port := (RailFrame.clearRide s).port
@[simp] theorem State.clearRide_loader (s : State) : (s.clearRide).loader = s.loader := (RailFrame.clearRide s).loader
@[simp] theorem State.clearRide_freeIndex (s : State) : (s.clearRide).freeIndex = s.freeIndex := (RailFrame.clearRide s).freeIndex
@[simp] theorem State.clearRide_pending (s : State) : (s.clearRide).pending = s.pending := (RailFrame.clearRide s).pending
@[simp] theorem State.clearRide_link (s : State) : (s.clearRide).notices.link = s.notices.link := (RailFrame.clearRide s).link
@[simp] theorem State.clearRide_inFlight (s : State) : (s.clearRide).notices.inFlight = s.notices.inFlight := (RailFrame.clearRide s).inFlight
@[simp] theorem State.clearRide_breakDrive (s : State) : (s.clearRide).notices.breakDrive = s.notices.breakDrive := (RailFrame.clearRide s).breakDrive
@[simp] theorem State.clearRide_stuck (s : State) : (s.clearRide).notices.stuck = s.notices.stuck := (RailFrame.clearRide s).stuck

@[simp] theorem State.endRide_settings (s : State) : (s.endRide).settings = s.settings := (RailFrame.endRide s).settings
@[simp] theorem State.endRide_table (s : State) : (s.endRide).table = s.table := (RailFrame.endRide s).table
@[simp] theorem State.endRide_front (s : State) : (s.endRide).front = s.front := (RailFrame.endRide s).front
@[simp] theorem State.endRide_timers (s : State) : (s.endRide).timers = s.timers := (RailFrame.endRide s).timers
@[simp] theorem State.endRide_holdUp (s : State) : (s.endRide).holdUp = s.holdUp := (RailFrame.endRide s).holdUp
@[simp] theorem State.endRide_line (s : State) : (s.endRide).line = s.line := (RailFrame.endRide s).line
@[simp] theorem State.endRide_seq (s : State) : (s.endRide).seq = s.seq := (RailFrame.endRide s).seq
@[simp] theorem State.endRide_last (s : State) : (s.endRide).last = s.last := (RailFrame.endRide s).last
@[simp] theorem State.endRide_mute (s : State) : (s.endRide).mute = s.mute := (RailFrame.endRide s).mute
@[simp] theorem State.endRide_dim (s : State) : (s.endRide).dim = s.dim := (RailFrame.endRide s).dim
@[simp] theorem State.endRide_port (s : State) : (s.endRide).port = s.port := (RailFrame.endRide s).port
@[simp] theorem State.endRide_loader (s : State) : (s.endRide).loader = s.loader := (RailFrame.endRide s).loader
@[simp] theorem State.endRide_freeIndex (s : State) : (s.endRide).freeIndex = s.freeIndex := (RailFrame.endRide s).freeIndex
@[simp] theorem State.endRide_pending (s : State) : (s.endRide).pending = s.pending := (RailFrame.endRide s).pending
@[simp] theorem State.endRide_link (s : State) : (s.endRide).notices.link = s.notices.link := (RailFrame.endRide s).link
@[simp] theorem State.endRide_inFlight (s : State) : (s.endRide).notices.inFlight = s.notices.inFlight := (RailFrame.endRide s).inFlight
@[simp] theorem State.endRide_breakDrive (s : State) : (s.endRide).notices.breakDrive = s.notices.breakDrive := (RailFrame.endRide s).breakDrive
@[simp] theorem State.endRide_stuck (s : State) : (s.endRide).notices.stuck = s.notices.stuck := (RailFrame.endRide s).stuck

@[simp] theorem State.dimWaitEnds_settings (s : State) (i : Fin 8) : (s.dimWaitEnds i).settings = s.settings := (RailFrame.dimWaitEnds i s).settings
@[simp] theorem State.dimWaitEnds_table (s : State) (i : Fin 8) : (s.dimWaitEnds i).table = s.table := (RailFrame.dimWaitEnds i s).table
@[simp] theorem State.dimWaitEnds_front (s : State) (i : Fin 8) : (s.dimWaitEnds i).front = s.front := (RailFrame.dimWaitEnds i s).front
@[simp] theorem State.dimWaitEnds_timers (s : State) (i : Fin 8) : (s.dimWaitEnds i).timers = s.timers := (RailFrame.dimWaitEnds i s).timers
@[simp] theorem State.dimWaitEnds_holdUp (s : State) (i : Fin 8) : (s.dimWaitEnds i).holdUp = s.holdUp := (RailFrame.dimWaitEnds i s).holdUp
@[simp] theorem State.dimWaitEnds_line (s : State) (i : Fin 8) : (s.dimWaitEnds i).line = s.line := (RailFrame.dimWaitEnds i s).line
@[simp] theorem State.dimWaitEnds_seq (s : State) (i : Fin 8) : (s.dimWaitEnds i).seq = s.seq := (RailFrame.dimWaitEnds i s).seq
@[simp] theorem State.dimWaitEnds_last (s : State) (i : Fin 8) : (s.dimWaitEnds i).last = s.last := (RailFrame.dimWaitEnds i s).last
@[simp] theorem State.dimWaitEnds_mute (s : State) (i : Fin 8) : (s.dimWaitEnds i).mute = s.mute := (RailFrame.dimWaitEnds i s).mute
@[simp] theorem State.dimWaitEnds_dim (s : State) (i : Fin 8) : (s.dimWaitEnds i).dim = s.dim := (RailFrame.dimWaitEnds i s).dim
@[simp] theorem State.dimWaitEnds_port (s : State) (i : Fin 8) : (s.dimWaitEnds i).port = s.port := (RailFrame.dimWaitEnds i s).port
@[simp] theorem State.dimWaitEnds_loader (s : State) (i : Fin 8) : (s.dimWaitEnds i).loader = s.loader := (RailFrame.dimWaitEnds i s).loader
@[simp] theorem State.dimWaitEnds_freeIndex (s : State) (i : Fin 8) : (s.dimWaitEnds i).freeIndex = s.freeIndex := (RailFrame.dimWaitEnds i s).freeIndex
@[simp] theorem State.dimWaitEnds_pending (s : State) (i : Fin 8) : (s.dimWaitEnds i).pending = s.pending := (RailFrame.dimWaitEnds i s).pending
@[simp] theorem State.dimWaitEnds_link (s : State) (i : Fin 8) : (s.dimWaitEnds i).notices.link = s.notices.link := (RailFrame.dimWaitEnds i s).link
@[simp] theorem State.dimWaitEnds_inFlight (s : State) (i : Fin 8) : (s.dimWaitEnds i).notices.inFlight = s.notices.inFlight := (RailFrame.dimWaitEnds i s).inFlight
@[simp] theorem State.dimWaitEnds_breakDrive (s : State) (i : Fin 8) : (s.dimWaitEnds i).notices.breakDrive = s.notices.breakDrive := (RailFrame.dimWaitEnds i s).breakDrive
@[simp] theorem State.dimWaitEnds_stuck (s : State) (i : Fin 8) : (s.dimWaitEnds i).notices.stuck = s.notices.stuck := (RailFrame.dimWaitEnds i s).stuck

@[simp] theorem State.riseLimitExpired_settings (s : State) (i : Fin 8) : (s.riseLimitExpired i).settings = s.settings := (RailFrame.riseLimitExpired i s).settings
@[simp] theorem State.riseLimitExpired_table (s : State) (i : Fin 8) : (s.riseLimitExpired i).table = s.table := (RailFrame.riseLimitExpired i s).table
@[simp] theorem State.riseLimitExpired_front (s : State) (i : Fin 8) : (s.riseLimitExpired i).front = s.front := (RailFrame.riseLimitExpired i s).front
@[simp] theorem State.riseLimitExpired_timers (s : State) (i : Fin 8) : (s.riseLimitExpired i).timers = s.timers := (RailFrame.riseLimitExpired i s).timers
@[simp] theorem State.riseLimitExpired_holdUp (s : State) (i : Fin 8) : (s.riseLimitExpired i).holdUp = s.holdUp := (RailFrame.riseLimitExpired i s).holdUp
@[simp] theorem State.riseLimitExpired_line (s : State) (i : Fin 8) : (s.riseLimitExpired i).line = s.line := (RailFrame.riseLimitExpired i s).line
@[simp] theorem State.riseLimitExpired_seq (s : State) (i : Fin 8) : (s.riseLimitExpired i).seq = s.seq := (RailFrame.riseLimitExpired i s).seq
@[simp] theorem State.riseLimitExpired_last (s : State) (i : Fin 8) : (s.riseLimitExpired i).last = s.last := (RailFrame.riseLimitExpired i s).last
@[simp] theorem State.riseLimitExpired_mute (s : State) (i : Fin 8) : (s.riseLimitExpired i).mute = s.mute := (RailFrame.riseLimitExpired i s).mute
@[simp] theorem State.riseLimitExpired_dim (s : State) (i : Fin 8) : (s.riseLimitExpired i).dim = s.dim := (RailFrame.riseLimitExpired i s).dim
@[simp] theorem State.riseLimitExpired_port (s : State) (i : Fin 8) : (s.riseLimitExpired i).port = s.port := (RailFrame.riseLimitExpired i s).port
@[simp] theorem State.riseLimitExpired_loader (s : State) (i : Fin 8) : (s.riseLimitExpired i).loader = s.loader := (RailFrame.riseLimitExpired i s).loader
@[simp] theorem State.riseLimitExpired_freeIndex (s : State) (i : Fin 8) : (s.riseLimitExpired i).freeIndex = s.freeIndex := (RailFrame.riseLimitExpired i s).freeIndex
@[simp] theorem State.riseLimitExpired_pending (s : State) (i : Fin 8) : (s.riseLimitExpired i).pending = s.pending := (RailFrame.riseLimitExpired i s).pending
@[simp] theorem State.riseLimitExpired_link (s : State) (i : Fin 8) : (s.riseLimitExpired i).notices.link = s.notices.link := (RailFrame.riseLimitExpired i s).link
@[simp] theorem State.riseLimitExpired_inFlight (s : State) (i : Fin 8) : (s.riseLimitExpired i).notices.inFlight = s.notices.inFlight := (RailFrame.riseLimitExpired i s).inFlight
@[simp] theorem State.riseLimitExpired_breakDrive (s : State) (i : Fin 8) : (s.riseLimitExpired i).notices.breakDrive = s.notices.breakDrive := (RailFrame.riseLimitExpired i s).breakDrive
@[simp] theorem State.riseLimitExpired_stuck (s : State) (i : Fin 8) : (s.riseLimitExpired i).notices.stuck = s.notices.stuck := (RailFrame.riseLimitExpired i s).stuck

@[simp] theorem State.settleExpired_settings (s : State) (i : Fin 8) : (s.settleExpired i).settings = s.settings := (RailFrame.settleExpired i s).settings
@[simp] theorem State.settleExpired_table (s : State) (i : Fin 8) : (s.settleExpired i).table = s.table := (RailFrame.settleExpired i s).table
@[simp] theorem State.settleExpired_front (s : State) (i : Fin 8) : (s.settleExpired i).front = s.front := (RailFrame.settleExpired i s).front
@[simp] theorem State.settleExpired_timers (s : State) (i : Fin 8) : (s.settleExpired i).timers = s.timers := (RailFrame.settleExpired i s).timers
@[simp] theorem State.settleExpired_holdUp (s : State) (i : Fin 8) : (s.settleExpired i).holdUp = s.holdUp := (RailFrame.settleExpired i s).holdUp
@[simp] theorem State.settleExpired_line (s : State) (i : Fin 8) : (s.settleExpired i).line = s.line := (RailFrame.settleExpired i s).line
@[simp] theorem State.settleExpired_seq (s : State) (i : Fin 8) : (s.settleExpired i).seq = s.seq := (RailFrame.settleExpired i s).seq
@[simp] theorem State.settleExpired_last (s : State) (i : Fin 8) : (s.settleExpired i).last = s.last := (RailFrame.settleExpired i s).last
@[simp] theorem State.settleExpired_mute (s : State) (i : Fin 8) : (s.settleExpired i).mute = s.mute := (RailFrame.settleExpired i s).mute
@[simp] theorem State.settleExpired_dim (s : State) (i : Fin 8) : (s.settleExpired i).dim = s.dim := (RailFrame.settleExpired i s).dim
@[simp] theorem State.settleExpired_port (s : State) (i : Fin 8) : (s.settleExpired i).port = s.port := (RailFrame.settleExpired i s).port
@[simp] theorem State.settleExpired_loader (s : State) (i : Fin 8) : (s.settleExpired i).loader = s.loader := (RailFrame.settleExpired i s).loader
@[simp] theorem State.settleExpired_freeIndex (s : State) (i : Fin 8) : (s.settleExpired i).freeIndex = s.freeIndex := (RailFrame.settleExpired i s).freeIndex
@[simp] theorem State.settleExpired_pending (s : State) (i : Fin 8) : (s.settleExpired i).pending = s.pending := (RailFrame.settleExpired i s).pending
@[simp] theorem State.settleExpired_link (s : State) (i : Fin 8) : (s.settleExpired i).notices.link = s.notices.link := (RailFrame.settleExpired i s).link
@[simp] theorem State.settleExpired_inFlight (s : State) (i : Fin 8) : (s.settleExpired i).notices.inFlight = s.notices.inFlight := (RailFrame.settleExpired i s).inFlight
@[simp] theorem State.settleExpired_breakDrive (s : State) (i : Fin 8) : (s.settleExpired i).notices.breakDrive = s.notices.breakDrive := (RailFrame.settleExpired i s).breakDrive
@[simp] theorem State.settleExpired_stuck (s : State) (i : Fin 8) : (s.settleExpired i).notices.stuck = s.notices.stuck := (RailFrame.settleExpired i s).stuck

@[simp] theorem State.fallExpired_settings (s : State) (i : Fin 8) : (s.fallExpired i).settings = s.settings := (RailFrame.fallExpired i s).settings
@[simp] theorem State.fallExpired_table (s : State) (i : Fin 8) : (s.fallExpired i).table = s.table := (RailFrame.fallExpired i s).table
@[simp] theorem State.fallExpired_front (s : State) (i : Fin 8) : (s.fallExpired i).front = s.front := (RailFrame.fallExpired i s).front
@[simp] theorem State.fallExpired_timers (s : State) (i : Fin 8) : (s.fallExpired i).timers = s.timers := (RailFrame.fallExpired i s).timers
@[simp] theorem State.fallExpired_holdUp (s : State) (i : Fin 8) : (s.fallExpired i).holdUp = s.holdUp := (RailFrame.fallExpired i s).holdUp
@[simp] theorem State.fallExpired_line (s : State) (i : Fin 8) : (s.fallExpired i).line = s.line := (RailFrame.fallExpired i s).line
@[simp] theorem State.fallExpired_seq (s : State) (i : Fin 8) : (s.fallExpired i).seq = s.seq := (RailFrame.fallExpired i s).seq
@[simp] theorem State.fallExpired_last (s : State) (i : Fin 8) : (s.fallExpired i).last = s.last := (RailFrame.fallExpired i s).last
@[simp] theorem State.fallExpired_mute (s : State) (i : Fin 8) : (s.fallExpired i).mute = s.mute := (RailFrame.fallExpired i s).mute
@[simp] theorem State.fallExpired_dim (s : State) (i : Fin 8) : (s.fallExpired i).dim = s.dim := (RailFrame.fallExpired i s).dim
@[simp] theorem State.fallExpired_port (s : State) (i : Fin 8) : (s.fallExpired i).port = s.port := (RailFrame.fallExpired i s).port
@[simp] theorem State.fallExpired_loader (s : State) (i : Fin 8) : (s.fallExpired i).loader = s.loader := (RailFrame.fallExpired i s).loader
@[simp] theorem State.fallExpired_freeIndex (s : State) (i : Fin 8) : (s.fallExpired i).freeIndex = s.freeIndex := (RailFrame.fallExpired i s).freeIndex
@[simp] theorem State.fallExpired_pending (s : State) (i : Fin 8) : (s.fallExpired i).pending = s.pending := (RailFrame.fallExpired i s).pending
@[simp] theorem State.fallExpired_link (s : State) (i : Fin 8) : (s.fallExpired i).notices.link = s.notices.link := (RailFrame.fallExpired i s).link
@[simp] theorem State.fallExpired_inFlight (s : State) (i : Fin 8) : (s.fallExpired i).notices.inFlight = s.notices.inFlight := (RailFrame.fallExpired i s).inFlight
@[simp] theorem State.fallExpired_breakDrive (s : State) (i : Fin 8) : (s.fallExpired i).notices.breakDrive = s.notices.breakDrive := (RailFrame.fallExpired i s).breakDrive
@[simp] theorem State.fallExpired_stuck (s : State) (i : Fin 8) : (s.fallExpired i).notices.stuck = s.notices.stuck := (RailFrame.fallExpired i s).stuck

@[simp] theorem State.dischargeExpired_settings (s : State) (i : Fin 8) : (s.dischargeExpired i).settings = s.settings := (RailFrame.dischargeExpired i s).settings
@[simp] theorem State.dischargeExpired_table (s : State) (i : Fin 8) : (s.dischargeExpired i).table = s.table := (RailFrame.dischargeExpired i s).table
@[simp] theorem State.dischargeExpired_front (s : State) (i : Fin 8) : (s.dischargeExpired i).front = s.front := (RailFrame.dischargeExpired i s).front
@[simp] theorem State.dischargeExpired_timers (s : State) (i : Fin 8) : (s.dischargeExpired i).timers = s.timers := (RailFrame.dischargeExpired i s).timers
@[simp] theorem State.dischargeExpired_holdUp (s : State) (i : Fin 8) : (s.dischargeExpired i).holdUp = s.holdUp := (RailFrame.dischargeExpired i s).holdUp
@[simp] theorem State.dischargeExpired_line (s : State) (i : Fin 8) : (s.dischargeExpired i).line = s.line := (RailFrame.dischargeExpired i s).line
@[simp] theorem State.dischargeExpired_seq (s : State) (i : Fin 8) : (s.dischargeExpired i).seq = s.seq := (RailFrame.dischargeExpired i s).seq
@[simp] theorem State.dischargeExpired_last (s : State) (i : Fin 8) : (s.dischargeExpired i).last = s.last := (RailFrame.dischargeExpired i s).last
@[simp] theorem State.dischargeExpired_mute (s : State) (i : Fin 8) : (s.dischargeExpired i).mute = s.mute := (RailFrame.dischargeExpired i s).mute
@[simp] theorem State.dischargeExpired_dim (s : State) (i : Fin 8) : (s.dischargeExpired i).dim = s.dim := (RailFrame.dischargeExpired i s).dim
@[simp] theorem State.dischargeExpired_port (s : State) (i : Fin 8) : (s.dischargeExpired i).port = s.port := (RailFrame.dischargeExpired i s).port
@[simp] theorem State.dischargeExpired_loader (s : State) (i : Fin 8) : (s.dischargeExpired i).loader = s.loader := (RailFrame.dischargeExpired i s).loader
@[simp] theorem State.dischargeExpired_freeIndex (s : State) (i : Fin 8) : (s.dischargeExpired i).freeIndex = s.freeIndex := (RailFrame.dischargeExpired i s).freeIndex
@[simp] theorem State.dischargeExpired_pending (s : State) (i : Fin 8) : (s.dischargeExpired i).pending = s.pending := (RailFrame.dischargeExpired i s).pending
@[simp] theorem State.dischargeExpired_link (s : State) (i : Fin 8) : (s.dischargeExpired i).notices.link = s.notices.link := (RailFrame.dischargeExpired i s).link
@[simp] theorem State.dischargeExpired_inFlight (s : State) (i : Fin 8) : (s.dischargeExpired i).notices.inFlight = s.notices.inFlight := (RailFrame.dischargeExpired i s).inFlight
@[simp] theorem State.dischargeExpired_breakDrive (s : State) (i : Fin 8) : (s.dischargeExpired i).notices.breakDrive = s.notices.breakDrive := (RailFrame.dischargeExpired i s).breakDrive
@[simp] theorem State.dischargeExpired_stuck (s : State) (i : Fin 8) : (s.dischargeExpired i).notices.stuck = s.notices.stuck := (RailFrame.dischargeExpired i s).stuck

@[simp] theorem State.forEach_shed_settings (s : State) : (s.forEachRail State.shed).settings = s.settings := (RailFrame.forEachRail (fun i u => RailFrame.shed i u) s).settings
@[simp] theorem State.forEach_shed_table (s : State) : (s.forEachRail State.shed).table = s.table := (RailFrame.forEachRail (fun i u => RailFrame.shed i u) s).table
@[simp] theorem State.forEach_shed_front (s : State) : (s.forEachRail State.shed).front = s.front := (RailFrame.forEachRail (fun i u => RailFrame.shed i u) s).front
@[simp] theorem State.forEach_shed_timers (s : State) : (s.forEachRail State.shed).timers = s.timers := (RailFrame.forEachRail (fun i u => RailFrame.shed i u) s).timers
@[simp] theorem State.forEach_shed_holdUp (s : State) : (s.forEachRail State.shed).holdUp = s.holdUp := (RailFrame.forEachRail (fun i u => RailFrame.shed i u) s).holdUp
@[simp] theorem State.forEach_shed_line (s : State) : (s.forEachRail State.shed).line = s.line := (RailFrame.forEachRail (fun i u => RailFrame.shed i u) s).line
@[simp] theorem State.forEach_shed_seq (s : State) : (s.forEachRail State.shed).seq = s.seq := (RailFrame.forEachRail (fun i u => RailFrame.shed i u) s).seq
@[simp] theorem State.forEach_shed_last (s : State) : (s.forEachRail State.shed).last = s.last := (RailFrame.forEachRail (fun i u => RailFrame.shed i u) s).last
@[simp] theorem State.forEach_shed_mute (s : State) : (s.forEachRail State.shed).mute = s.mute := (RailFrame.forEachRail (fun i u => RailFrame.shed i u) s).mute
@[simp] theorem State.forEach_shed_dim (s : State) : (s.forEachRail State.shed).dim = s.dim := (RailFrame.forEachRail (fun i u => RailFrame.shed i u) s).dim
@[simp] theorem State.forEach_shed_port (s : State) : (s.forEachRail State.shed).port = s.port := (RailFrame.forEachRail (fun i u => RailFrame.shed i u) s).port
@[simp] theorem State.forEach_shed_loader (s : State) : (s.forEachRail State.shed).loader = s.loader := (RailFrame.forEachRail (fun i u => RailFrame.shed i u) s).loader
@[simp] theorem State.forEach_shed_freeIndex (s : State) : (s.forEachRail State.shed).freeIndex = s.freeIndex := (RailFrame.forEachRail (fun i u => RailFrame.shed i u) s).freeIndex
@[simp] theorem State.forEach_shed_pending (s : State) : (s.forEachRail State.shed).pending = s.pending := (RailFrame.forEachRail (fun i u => RailFrame.shed i u) s).pending
@[simp] theorem State.forEach_shed_link (s : State) : (s.forEachRail State.shed).notices.link = s.notices.link := (RailFrame.forEachRail (fun i u => RailFrame.shed i u) s).link
@[simp] theorem State.forEach_shed_inFlight (s : State) : (s.forEachRail State.shed).notices.inFlight = s.notices.inFlight := (RailFrame.forEachRail (fun i u => RailFrame.shed i u) s).inFlight
@[simp] theorem State.forEach_shed_breakDrive (s : State) : (s.forEachRail State.shed).notices.breakDrive = s.notices.breakDrive := (RailFrame.forEachRail (fun i u => RailFrame.shed i u) s).breakDrive
@[simp] theorem State.forEach_shed_stuck (s : State) : (s.forEachRail State.shed).notices.stuck = s.notices.stuck := (RailFrame.forEachRail (fun i u => RailFrame.shed i u) s).stuck

@[simp] theorem State.forEach_restore_settings (s : State) : (s.forEachRail State.restore).settings = s.settings := (RailFrame.forEachRail (fun i u => RailFrame.restore i u) s).settings
@[simp] theorem State.forEach_restore_table (s : State) : (s.forEachRail State.restore).table = s.table := (RailFrame.forEachRail (fun i u => RailFrame.restore i u) s).table
@[simp] theorem State.forEach_restore_front (s : State) : (s.forEachRail State.restore).front = s.front := (RailFrame.forEachRail (fun i u => RailFrame.restore i u) s).front
@[simp] theorem State.forEach_restore_timers (s : State) : (s.forEachRail State.restore).timers = s.timers := (RailFrame.forEachRail (fun i u => RailFrame.restore i u) s).timers
@[simp] theorem State.forEach_restore_holdUp (s : State) : (s.forEachRail State.restore).holdUp = s.holdUp := (RailFrame.forEachRail (fun i u => RailFrame.restore i u) s).holdUp
@[simp] theorem State.forEach_restore_line (s : State) : (s.forEachRail State.restore).line = s.line := (RailFrame.forEachRail (fun i u => RailFrame.restore i u) s).line
@[simp] theorem State.forEach_restore_seq (s : State) : (s.forEachRail State.restore).seq = s.seq := (RailFrame.forEachRail (fun i u => RailFrame.restore i u) s).seq
@[simp] theorem State.forEach_restore_last (s : State) : (s.forEachRail State.restore).last = s.last := (RailFrame.forEachRail (fun i u => RailFrame.restore i u) s).last
@[simp] theorem State.forEach_restore_mute (s : State) : (s.forEachRail State.restore).mute = s.mute := (RailFrame.forEachRail (fun i u => RailFrame.restore i u) s).mute
@[simp] theorem State.forEach_restore_dim (s : State) : (s.forEachRail State.restore).dim = s.dim := (RailFrame.forEachRail (fun i u => RailFrame.restore i u) s).dim
@[simp] theorem State.forEach_restore_port (s : State) : (s.forEachRail State.restore).port = s.port := (RailFrame.forEachRail (fun i u => RailFrame.restore i u) s).port
@[simp] theorem State.forEach_restore_loader (s : State) : (s.forEachRail State.restore).loader = s.loader := (RailFrame.forEachRail (fun i u => RailFrame.restore i u) s).loader
@[simp] theorem State.forEach_restore_freeIndex (s : State) : (s.forEachRail State.restore).freeIndex = s.freeIndex := (RailFrame.forEachRail (fun i u => RailFrame.restore i u) s).freeIndex
@[simp] theorem State.forEach_restore_pending (s : State) : (s.forEachRail State.restore).pending = s.pending := (RailFrame.forEachRail (fun i u => RailFrame.restore i u) s).pending
@[simp] theorem State.forEach_restore_link (s : State) : (s.forEachRail State.restore).notices.link = s.notices.link := (RailFrame.forEachRail (fun i u => RailFrame.restore i u) s).link
@[simp] theorem State.forEach_restore_inFlight (s : State) : (s.forEachRail State.restore).notices.inFlight = s.notices.inFlight := (RailFrame.forEachRail (fun i u => RailFrame.restore i u) s).inFlight
@[simp] theorem State.forEach_restore_breakDrive (s : State) : (s.forEachRail State.restore).notices.breakDrive = s.notices.breakDrive := (RailFrame.forEachRail (fun i u => RailFrame.restore i u) s).breakDrive
@[simp] theorem State.forEach_restore_stuck (s : State) : (s.forEachRail State.restore).notices.stuck = s.notices.stuck := (RailFrame.forEachRail (fun i u => RailFrame.restore i u) s).stuck

end Sys2Proof.Machine
end

