-- ==== Sys2Proof/Laws/Modes.lean ====
section
/-! SUPPORT. What the entries to the modes do to the sequence controller's items, the phase line, the hold-up timer, the one-shot counters and the link. -/

namespace Sys2Proof.Machine

/-! ### The dimming channel with the rails it lets fall -/

theorem RailFrame.forEach_dimWaitEnds (s : State) : RailFrame s (s.forEachRail State.dimWaitEnds) :=
  .forEachRail (fun i u => .dimWaitEnds i u) s

/-- What a change of the ceiling leaves alone: everything but the channel, the rails and what
their reports reach. -/
theorem State.setCeiling_frame (c : Ceiling) (s : State) :
    ∃ d, RailFrame { s with dim := d } (s.setCeiling c) := by
  unfold State.setCeiling; dsimp only; repeat' split
  · exact ⟨_, .refl _⟩
  · exact ⟨_, .forEach_dimWaitEnds _⟩
  · exact ⟨_, .refl _⟩
  · exact ⟨_, .refl _⟩

theorem State.dimCut_frame (s : State) : ∃ d, RailFrame { s with dim := d } s.dimCut := by
  unfold State.dimCut; split
  · obtain ⟨d, h⟩ := State.setCeiling_frame (.limited 0)
      { s with
        dim :=
          { s.dim with
            setting := .zero, rampIndex := 0, capLimit := none, liftFloor := .limited 0,
            active := false, activeLeft := none } }
    exact ⟨d, h⟩
  · exact ⟨_, .refl _⟩

theorem State.boundary_frame (s : State) : ∃ d, RailFrame { s with dim := d } s.boundary := by
  obtain ⟨d, h⟩ := State.setCeiling_frame s.nextCeiling
    { s with
      dim :=
        { s.dim with
          outPeriod := s.nextPeriod, rampIndex := s.nextRampIndex, setting := s.nextSetting,
          boundaryLeft := some s.nextPeriod, active := decide (0 < s.nextCeiling.clip s.nextHigh),
          activeLeft :=
            if 0 < s.nextCeiling.clip s.nextHigh ∧ s.nextCeiling.clip s.nextHigh < s.nextPeriod then
              some (s.nextCeiling.clip s.nextHigh)
            else none } }
  exact ⟨d, h⟩

/-- A frame holds with one dimming channel on both sides. -/
theorem RailFrame.dim_both {s t : State} (h : RailFrame s t) (d : Dimming) :
    RailFrame { s with dim := d } { t with dim := d } :=
  { settings := h.settings, table := h.table, front := h.front, timers := h.timers,
    holdUp := h.holdUp, line := h.line, seq := h.seq, last := h.last, mute := h.mute,
    dim := rfl, port := h.port, loader := h.loader, freeIndex := h.freeIndex,
    pending := h.pending, link := h.link, inFlight := h.inFlight,
    breakDrive := h.breakDrive, stuck := h.stuck, cur := h.cur, others := h.others,
    fresh := h.fresh }

theorem State.urgentSet_frame (s : State) : ∃ d, RailFrame { s with dim := d } s.urgentSet := by
  unfold State.urgentSet
  have h := RailFrame.urgentRails s
  generalize s.urgentRails = t at h ⊢
  split
  · obtain ⟨d, h'⟩ := t.dimCut_frame
    exact ⟨d, (h.dim_both d).trans h'⟩
  · exact ⟨_, h⟩

@[simp] theorem State.setCeiling_settings (s : State) (c : Ceiling) : (s.setCeiling c).settings = s.settings := (s.setCeiling_frame c).choose_spec.settings
@[simp] theorem State.setCeiling_table (s : State) (c : Ceiling) : (s.setCeiling c).table = s.table := (s.setCeiling_frame c).choose_spec.table
@[simp] theorem State.setCeiling_front (s : State) (c : Ceiling) : (s.setCeiling c).front = s.front := (s.setCeiling_frame c).choose_spec.front
@[simp] theorem State.setCeiling_timers (s : State) (c : Ceiling) : (s.setCeiling c).timers = s.timers := (s.setCeiling_frame c).choose_spec.timers
@[simp] theorem State.setCeiling_holdUp (s : State) (c : Ceiling) : (s.setCeiling c).holdUp = s.holdUp := (s.setCeiling_frame c).choose_spec.holdUp
@[simp] theorem State.setCeiling_line (s : State) (c : Ceiling) : (s.setCeiling c).line = s.line := (s.setCeiling_frame c).choose_spec.line
@[simp] theorem State.setCeiling_seq (s : State) (c : Ceiling) : (s.setCeiling c).seq = s.seq := (s.setCeiling_frame c).choose_spec.seq
@[simp] theorem State.setCeiling_last (s : State) (c : Ceiling) : (s.setCeiling c).last = s.last := (s.setCeiling_frame c).choose_spec.last
@[simp] theorem State.setCeiling_mute (s : State) (c : Ceiling) : (s.setCeiling c).mute = s.mute := (s.setCeiling_frame c).choose_spec.mute
@[simp] theorem State.setCeiling_port (s : State) (c : Ceiling) : (s.setCeiling c).port = s.port := (s.setCeiling_frame c).choose_spec.port
@[simp] theorem State.setCeiling_loader (s : State) (c : Ceiling) : (s.setCeiling c).loader = s.loader := (s.setCeiling_frame c).choose_spec.loader
@[simp] theorem State.setCeiling_freeIndex (s : State) (c : Ceiling) : (s.setCeiling c).freeIndex = s.freeIndex := (s.setCeiling_frame c).choose_spec.freeIndex
@[simp] theorem State.setCeiling_pending (s : State) (c : Ceiling) : (s.setCeiling c).pending = s.pending := (s.setCeiling_frame c).choose_spec.pending
@[simp] theorem State.setCeiling_link (s : State) (c : Ceiling) : (s.setCeiling c).notices.link = s.notices.link := (s.setCeiling_frame c).choose_spec.link
@[simp] theorem State.setCeiling_inFlight (s : State) (c : Ceiling) : (s.setCeiling c).notices.inFlight = s.notices.inFlight := (s.setCeiling_frame c).choose_spec.inFlight
@[simp] theorem State.setCeiling_breakDrive (s : State) (c : Ceiling) : (s.setCeiling c).notices.breakDrive = s.notices.breakDrive := (s.setCeiling_frame c).choose_spec.breakDrive
@[simp] theorem State.setCeiling_stuck (s : State) (c : Ceiling) : (s.setCeiling c).notices.stuck = s.notices.stuck := (s.setCeiling_frame c).choose_spec.stuck

@[simp] theorem State.dimCut_settings (s : State) : (s.dimCut).settings = s.settings := (s.dimCut_frame).choose_spec.settings
@[simp] theorem State.dimCut_table (s : State) : (s.dimCut).table = s.table := (s.dimCut_frame).choose_spec.table
@[simp] theorem State.dimCut_front (s : State) : (s.dimCut).front = s.front := (s.dimCut_frame).choose_spec.front
@[simp] theorem State.dimCut_timers (s : State) : (s.dimCut).timers = s.timers := (s.dimCut_frame).choose_spec.timers
@[simp] theorem State.dimCut_holdUp (s : State) : (s.dimCut).holdUp = s.holdUp := (s.dimCut_frame).choose_spec.holdUp
@[simp] theorem State.dimCut_line (s : State) : (s.dimCut).line = s.line := (s.dimCut_frame).choose_spec.line
@[simp] theorem State.dimCut_seq (s : State) : (s.dimCut).seq = s.seq := (s.dimCut_frame).choose_spec.seq
@[simp] theorem State.dimCut_last (s : State) : (s.dimCut).last = s.last := (s.dimCut_frame).choose_spec.last
@[simp] theorem State.dimCut_mute (s : State) : (s.dimCut).mute = s.mute := (s.dimCut_frame).choose_spec.mute
@[simp] theorem State.dimCut_port (s : State) : (s.dimCut).port = s.port := (s.dimCut_frame).choose_spec.port
@[simp] theorem State.dimCut_loader (s : State) : (s.dimCut).loader = s.loader := (s.dimCut_frame).choose_spec.loader
@[simp] theorem State.dimCut_freeIndex (s : State) : (s.dimCut).freeIndex = s.freeIndex := (s.dimCut_frame).choose_spec.freeIndex
@[simp] theorem State.dimCut_pending (s : State) : (s.dimCut).pending = s.pending := (s.dimCut_frame).choose_spec.pending
@[simp] theorem State.dimCut_link (s : State) : (s.dimCut).notices.link = s.notices.link := (s.dimCut_frame).choose_spec.link
@[simp] theorem State.dimCut_inFlight (s : State) : (s.dimCut).notices.inFlight = s.notices.inFlight := (s.dimCut_frame).choose_spec.inFlight
@[simp] theorem State.dimCut_breakDrive (s : State) : (s.dimCut).notices.breakDrive = s.notices.breakDrive := (s.dimCut_frame).choose_spec.breakDrive
@[simp] theorem State.dimCut_stuck (s : State) : (s.dimCut).notices.stuck = s.notices.stuck := (s.dimCut_frame).choose_spec.stuck

@[simp] theorem State.boundary_settings (s : State) : (s.boundary).settings = s.settings := (s.boundary_frame).choose_spec.settings
@[simp] theorem State.boundary_table (s : State) : (s.boundary).table = s.table := (s.boundary_frame).choose_spec.table
@[simp] theorem State.boundary_front (s : State) : (s.boundary).front = s.front := (s.boundary_frame).choose_spec.front
@[simp] theorem State.boundary_timers (s : State) : (s.boundary).timers = s.timers := (s.boundary_frame).choose_spec.timers
@[simp] theorem State.boundary_holdUp (s : State) : (s.boundary).holdUp = s.holdUp := (s.boundary_frame).choose_spec.holdUp
@[simp] theorem State.boundary_line (s : State) : (s.boundary).line = s.line := (s.boundary_frame).choose_spec.line
@[simp] theorem State.boundary_seq (s : State) : (s.boundary).seq = s.seq := (s.boundary_frame).choose_spec.seq
@[simp] theorem State.boundary_last (s : State) : (s.boundary).last = s.last := (s.boundary_frame).choose_spec.last
@[simp] theorem State.boundary_mute (s : State) : (s.boundary).mute = s.mute := (s.boundary_frame).choose_spec.mute
@[simp] theorem State.boundary_port (s : State) : (s.boundary).port = s.port := (s.boundary_frame).choose_spec.port
@[simp] theorem State.boundary_loader (s : State) : (s.boundary).loader = s.loader := (s.boundary_frame).choose_spec.loader
@[simp] theorem State.boundary_freeIndex (s : State) : (s.boundary).freeIndex = s.freeIndex := (s.boundary_frame).choose_spec.freeIndex
@[simp] theorem State.boundary_pending (s : State) : (s.boundary).pending = s.pending := (s.boundary_frame).choose_spec.pending
@[simp] theorem State.boundary_link (s : State) : (s.boundary).notices.link = s.notices.link := (s.boundary_frame).choose_spec.link
@[simp] theorem State.boundary_inFlight (s : State) : (s.boundary).notices.inFlight = s.notices.inFlight := (s.boundary_frame).choose_spec.inFlight
@[simp] theorem State.boundary_breakDrive (s : State) : (s.boundary).notices.breakDrive = s.notices.breakDrive := (s.boundary_frame).choose_spec.breakDrive
@[simp] theorem State.boundary_stuck (s : State) : (s.boundary).notices.stuck = s.notices.stuck := (s.boundary_frame).choose_spec.stuck

@[simp] theorem State.urgentSet_settings (s : State) : (s.urgentSet).settings = s.settings := (s.urgentSet_frame).choose_spec.settings
@[simp] theorem State.urgentSet_table (s : State) : (s.urgentSet).table = s.table := (s.urgentSet_frame).choose_spec.table
@[simp] theorem State.urgentSet_front (s : State) : (s.urgentSet).front = s.front := (s.urgentSet_frame).choose_spec.front
@[simp] theorem State.urgentSet_timers (s : State) : (s.urgentSet).timers = s.timers := (s.urgentSet_frame).choose_spec.timers
@[simp] theorem State.urgentSet_holdUp (s : State) : (s.urgentSet).holdUp = s.holdUp := (s.urgentSet_frame).choose_spec.holdUp
@[simp] theorem State.urgentSet_line (s : State) : (s.urgentSet).line = s.line := (s.urgentSet_frame).choose_spec.line
@[simp] theorem State.urgentSet_seq (s : State) : (s.urgentSet).seq = s.seq := (s.urgentSet_frame).choose_spec.seq
@[simp] theorem State.urgentSet_last (s : State) : (s.urgentSet).last = s.last := (s.urgentSet_frame).choose_spec.last
@[simp] theorem State.urgentSet_mute (s : State) : (s.urgentSet).mute = s.mute := (s.urgentSet_frame).choose_spec.mute
@[simp] theorem State.urgentSet_port (s : State) : (s.urgentSet).port = s.port := (s.urgentSet_frame).choose_spec.port
@[simp] theorem State.urgentSet_loader (s : State) : (s.urgentSet).loader = s.loader := (s.urgentSet_frame).choose_spec.loader
@[simp] theorem State.urgentSet_freeIndex (s : State) : (s.urgentSet).freeIndex = s.freeIndex := (s.urgentSet_frame).choose_spec.freeIndex
@[simp] theorem State.urgentSet_pending (s : State) : (s.urgentSet).pending = s.pending := (s.urgentSet_frame).choose_spec.pending
@[simp] theorem State.urgentSet_link (s : State) : (s.urgentSet).notices.link = s.notices.link := (s.urgentSet_frame).choose_spec.link
@[simp] theorem State.urgentSet_inFlight (s : State) : (s.urgentSet).notices.inFlight = s.notices.inFlight := (s.urgentSet_frame).choose_spec.inFlight
@[simp] theorem State.urgentSet_breakDrive (s : State) : (s.urgentSet).notices.breakDrive = s.notices.breakDrive := (s.urgentSet_frame).choose_spec.breakDrive
@[simp] theorem State.urgentSet_stuck (s : State) : (s.urgentSet).notices.stuck = s.notices.stuck := (s.urgentSet_frame).choose_spec.stuck


/-! ### The hold-up timer -/

/-- The hold-up timer after a start from 0 (R43). -/
def HoldUp.started (h : HoldUp) : HoldUp :=
  { h with running := true, count := 0, sub := 0, armedA := true, armedP := true }

@[simp] theorem State.holdUpStart_holdUp (s : State) : s.holdUpStart.holdUp = s.holdUp.started := by
  unfold State.holdUpStart; dsimp only; split <;> simp [HoldUp.started]

@[simp] theorem State.holdUpStart_seq (s : State) :
    s.holdUpStart.seq = { s.seq with budgetPassed := false } := by
  unfold State.holdUpStart; dsimp only; split <;> simp

@[simp] theorem State.holdUpStart_settings (s : State) : (s.holdUpStart).settings = s.settings := by
  unfold State.holdUpStart; try dsimp only
  split <;> simp
@[simp] theorem State.holdUpStart_table (s : State) : (s.holdUpStart).table = s.table := by
  unfold State.holdUpStart; try dsimp only
  split <;> simp
@[simp] theorem State.holdUpStart_front (s : State) : (s.holdUpStart).front = s.front := by
  unfold State.holdUpStart; try dsimp only
  split <;> simp
@[simp] theorem State.holdUpStart_timers (s : State) : (s.holdUpStart).timers = s.timers := by
  unfold State.holdUpStart; try dsimp only
  split <;> simp
@[simp] theorem State.holdUpStart_line (s : State) : (s.holdUpStart).line = s.line := by
  unfold State.holdUpStart; try dsimp only
  split <;> simp
@[simp] theorem State.holdUpStart_last (s : State) : (s.holdUpStart).last = s.last := by
  unfold State.holdUpStart; try dsimp only
  split <;> simp
@[simp] theorem State.holdUpStart_mute (s : State) : (s.holdUpStart).mute = s.mute := by
  unfold State.holdUpStart; try dsimp only
  split <;> simp
@[simp] theorem State.holdUpStart_port (s : State) : (s.holdUpStart).port = s.port := by
  unfold State.holdUpStart; try dsimp only
  split <;> simp
@[simp] theorem State.holdUpStart_loader (s : State) : (s.holdUpStart).loader = s.loader := by
  unfold State.holdUpStart; try dsimp only
  split <;> simp
@[simp] theorem State.holdUpStart_freeIndex (s : State) : (s.holdUpStart).freeIndex = s.freeIndex := by
  unfold State.holdUpStart; try dsimp only
  split <;> simp
@[simp] theorem State.holdUpStart_pending (s : State) : (s.holdUpStart).pending = s.pending := by
  unfold State.holdUpStart; try dsimp only
  split <;> simp
@[simp] theorem State.holdUpStart_link (s : State) : (s.holdUpStart).notices.link = s.notices.link := by
  unfold State.holdUpStart; try dsimp only
  split <;> simp
@[simp] theorem State.holdUpStart_inFlight (s : State) : (s.holdUpStart).notices.inFlight = s.notices.inFlight := by
  unfold State.holdUpStart; try dsimp only
  split <;> simp
@[simp] theorem State.holdUpStart_breakDrive (s : State) : (s.holdUpStart).notices.breakDrive = s.notices.breakDrive := by
  unfold State.holdUpStart; try dsimp only
  split <;> simp
@[simp] theorem State.holdUpStart_stuck (s : State) : (s.holdUpStart).notices.stuck = s.notices.stuck := by
  unfold State.holdUpStart; try dsimp only
  split <;> simp
@[simp] theorem State.holdUpStartIfStopped_settings (s : State) : (s.holdUpStartIfStopped).settings = s.settings := by
  unfold State.holdUpStartIfStopped; try dsimp only
  split <;> simp
@[simp] theorem State.holdUpStartIfStopped_table (s : State) : (s.holdUpStartIfStopped).table = s.table := by
  unfold State.holdUpStartIfStopped; try dsimp only
  split <;> simp
@[simp] theorem State.holdUpStartIfStopped_front (s : State) : (s.holdUpStartIfStopped).front = s.front := by
  unfold State.holdUpStartIfStopped; try dsimp only
  split <;> simp
@[simp] theorem State.holdUpStartIfStopped_timers (s : State) : (s.holdUpStartIfStopped).timers = s.timers := by
  unfold State.holdUpStartIfStopped; try dsimp only
  split <;> simp
@[simp] theorem State.holdUpStartIfStopped_line (s : State) : (s.holdUpStartIfStopped).line = s.line := by
  unfold State.holdUpStartIfStopped; try dsimp only
  split <;> simp
@[simp] theorem State.holdUpStartIfStopped_last (s : State) : (s.holdUpStartIfStopped).last = s.last := by
  unfold State.holdUpStartIfStopped; try dsimp only
  split <;> simp
@[simp] theorem State.holdUpStartIfStopped_mute (s : State) : (s.holdUpStartIfStopped).mute = s.mute := by
  unfold State.holdUpStartIfStopped; try dsimp only
  split <;> simp
@[simp] theorem State.holdUpStartIfStopped_port (s : State) : (s.holdUpStartIfStopped).port = s.port := by
  unfold State.holdUpStartIfStopped; try dsimp only
  split <;> simp
@[simp] theorem State.holdUpStartIfStopped_loader (s : State) : (s.holdUpStartIfStopped).loader = s.loader := by
  unfold State.holdUpStartIfStopped; try dsimp only
  split <;> simp
@[simp] theorem State.holdUpStartIfStopped_freeIndex (s : State) : (s.holdUpStartIfStopped).freeIndex = s.freeIndex := by
  unfold State.holdUpStartIfStopped; try dsimp only
  split <;> simp
@[simp] theorem State.holdUpStartIfStopped_pending (s : State) : (s.holdUpStartIfStopped).pending = s.pending := by
  unfold State.holdUpStartIfStopped; try dsimp only
  split <;> simp
@[simp] theorem State.holdUpStartIfStopped_link (s : State) : (s.holdUpStartIfStopped).notices.link = s.notices.link := by
  unfold State.holdUpStartIfStopped; try dsimp only
  split <;> simp
@[simp] theorem State.holdUpStartIfStopped_inFlight (s : State) : (s.holdUpStartIfStopped).notices.inFlight = s.notices.inFlight := by
  unfold State.holdUpStartIfStopped; try dsimp only
  split <;> simp
@[simp] theorem State.holdUpStartIfStopped_breakDrive (s : State) : (s.holdUpStartIfStopped).notices.breakDrive = s.notices.breakDrive := by
  unfold State.holdUpStartIfStopped; try dsimp only
  split <;> simp
@[simp] theorem State.holdUpStartIfStopped_stuck (s : State) : (s.holdUpStartIfStopped).notices.stuck = s.notices.stuck := by
  unfold State.holdUpStartIfStopped; try dsimp only
  split <;> simp

theorem State.holdUpStartIfStopped_seq (s : State) :
    s.holdUpStartIfStopped.seq =
      if s.holdUp.running then s.seq else { s.seq with budgetPassed := false } := by
  unfold State.holdUpStartIfStopped; split <;> simp [*]

theorem State.holdUpStartIfStopped_running (s : State) :
    s.holdUpStartIfStopped.holdUp.running = true := by
  unfold State.holdUpStartIfStopped; split <;> simp_all [HoldUp.started]

/-! ### Entries to the modes: the sequence controller's items -/

theorem State.enterDescending_seq (c : Cause) (s : State) :
    (s.enterDescending c).seq =
      { s.seq with
        mode := .descending, phase := s.settings.phaseCount, cause := c, returnMode := .none,
        recovered := false } := by
  unfold State.enterDescending; dsimp only; repeat' split
  all_goals simp

theorem State.enterDescending_settings (c : Cause) (s : State) :
    (s.enterDescending c).settings = s.settings := by
  unfold State.enterDescending; dsimp only; repeat' split
  all_goals simp

theorem State.enterRiding_seq (s : State) :
    s.enterRiding.seq =
      { s.seq with
        mode := .riding, returnMode := s.seq.mode.toReturn, recovered := false,
        budgetPassed := false } := by
  unfold State.enterRiding; dsimp only; simp

theorem State.enterRiding_holdUp (s : State) : s.enterRiding.holdUp = s.holdUp.started := by
  unfold State.enterRiding; dsimp only; simp

theorem State.enterRiding_settings (s : State) : s.enterRiding.settings = s.settings := by
  unfold State.enterRiding; dsimp only; simp

theorem State.enterSolo_seq (s : State) :
    s.enterSolo.seq =
      { s.seq with
        mode := .solo, phase := if s.holdUp.running then 1 else s.settings.phaseCount,
        cause := .brk, heldRise := none, returnMode := .none, recovered := false,
        wait := if s.seq.mode == Mode.off then Wait.none else s.seq.wait } := by
  unfold State.enterSolo; dsimp only
  cases h : s.holdUp.running <;> simp [State.urgent, h]

theorem State.enterSolo_settings (s : State) : s.enterSolo.settings = s.settings := by
  unfold State.enterSolo; dsimp only
  cases h : s.holdUp.running <;> simp [State.urgent, h]

theorem State.enterRising_seq (k : Nat) (s : State) :
    (s.enterRising k).seq =
      { s.seq with
        mode := .rising, phase := k, returnMode := .none, recovered := false,
        signature := crc16Byte s.seq.signature (BitVec.ofNat 8 k) } := by
  unfold State.enterRising; simp [State.feed]

theorem State.arriveOn_seq (s : State) :
    s.arriveOn.seq =
      { s.seq with
        mode := .on, phase := s.settings.phaseCount, returnMode := .none, recovered := false,
        signature := crc16Byte s.seq.signature (BitVec.ofNat 8 s.settings.phaseCount) } := by
  unfold State.arriveOn; simp [State.feed]

theorem State.enterOn_seq (s : State) :
    s.enterOn.seq =
      { s.seq with
        mode := .on, phase := s.settings.phaseCount, returnMode := .none, recovered := false,
        signature := crc16Byte s.seq.signature (BitVec.ofNat 8 s.settings.phaseCount)
        tally := crc16Byte s.seq.signature (BitVec.ofNat 8 s.settings.phaseCount) } := by
  unfold State.enterOn; simp [State.queueTally, State.arriveOn_seq]

theorem State.returnToOn_seq (s : State) : s.returnToOn.seq = s.arriveOn.seq := by
  unfold State.returnToOn; dsimp only; split <;> simp

theorem State.stepDown_seq (d : Nat) (s : State) :
    (s.stepDown d).seq =
      { s.seq with
        phase := d, signature := crc16Byte s.seq.signature (BitVec.ofNat 8 (0x80 + d)) } := by
  unfold State.stepDown; dsimp only; simp [State.feed]

theorem State.enterRollcall_seq (atOnce : Bool) (s : State) :
    (s.enterRollcall atOnce).seq =
      { s.seq with
        signature := 0xFFFF, tally := 0xFFFF,
        roster := s.seq.roster.map fun e => { e with heard := e.number == s.settings.number },
        mode := .rollcall, phase := 0, returnMode := .none, recovered := false, cause := .none,
        heldRise := none, mainsReturned := false, wait := .none } := by
  unfold State.enterRollcall; dsimp only
  split <;> simp [State.clearHeard, State.stopRetry, State.rotate]

/-! ### What follows a step -/

theorem State.advanceSolo_of_not_solo (s : State) (h : s.seq.mode ≠ .solo) :
    s.advanceSolo = s := by
  have step : s.soloStep = s := by unfold State.soloStep; simp [h]
  have steps : ∀ n, State.soloSteps n s = s := by
    intro n
    induction n with
    | zero => rfl
    | succ n ih => rw [State.soloSteps, step, ih]
  unfold State.advanceSolo; simp [steps, h]

/-- Outside SOLO a release and the first slot of a frame follow a step, and nothing else. -/
theorem State.conclude_of_not_solo (s : State) (h : s.seq.mode ≠ .solo) :
    s.conclude = s.releaseIfReady.sendIfFree := by
  rw [State.conclude, s.advanceSolo_of_not_solo h]

/-- A station that does not claim HOLD has nothing to release. -/
theorem State.releaseIfReady_of_not_claimed (s : State) (h : s.line.claimed = false) :
    s.releaseIfReady = s := by
  simp [State.releaseIfReady, State.canRelease, h]

/-- A claim whose minimum hold is not over is not released. -/
theorem State.releaseIfReady_of_not_minHold (s : State) (h : s.line.minHold = false) :
    s.releaseIfReady = s := by
  simp [State.releaseIfReady, State.canRelease, h]

/-- After a step that leaves the station calm only a release and a first slot follow. -/
theorem State.conclude_calm (s : State) (h : s.calm) :
    s.conclude = ({ s with line := s.lineAfterRelease }).sendIfFree := by
  rw [s.conclude_of_not_solo h.1]
  have c : (s.line.high && s.line.highTwo) = false := by
    cases a : s.line.high <;> cases b : s.line.highTwo <;> simp_all [State.calm]
  unfold State.releaseIfReady State.lineAfterRelease
  cases s.canRelease <;> simp [State.release, c]

/-- HOLD seen at a level leaves what this claim has seen. -/
@[simp] theorem State.seeHold_highTwo (s : State) (b : Bool) :
    (s.seeHold b).line.highTwo = s.line.highTwo := by
  unfold State.seeHold; split <;> rfl

@[simp] theorem State.seeHold_claimed (s : State) (b : Bool) :
    (s.seeHold b).line.claimed = s.line.claimed := by
  unfold State.seeHold; split <;> rfl

end Sys2Proof.Machine
end

