-- ==== Sys2Proof/Tests/Slice0.lean ====
section
/-! SUPPORT. The model's own tests: well-formedness, worked values of the manual, single steps, and for every statement with hypotheses a state and operands that meet them. -/

namespace Sys2Proof.Tests

open Sys2Proof.Machine

/-! ### Well-formedness: a term each check refuses -/

theorem test_short_image_is_refused : (Instr.imageReadComplete [0x5C, 0x40] true).wellFormed = false := by
  decide

theorem test_long_frame_is_refused :
    (Instr.frameStart (List.replicate 33 true)).wellFormed = false ∧
      (Instr.frameStart (List.replicate 32 true)).wellFormed = true := by decide

theorem test_sense_voltage_out_of_range_is_refused :
    (Instr.senseSample ⟨Vector.replicate 8 2550001, 0, false, false, false⟩).wellFormed = false ∧
      (Instr.senseSample ⟨Vector.replicate 8 2550000, 0, false, false, false⟩).wellFormed =
        true := by decide

theorem test_mains_voltage_out_of_range_is_refused :
    (Instr.senseSample ⟨Vector.replicate 8 0, 2550001, false, false, false⟩).wellFormed =
      false := by decide

theorem test_known_code_is_no_unknown_command :
    (Instr.unknownCommand 0xC0).wellFormed = false ∧
      (Instr.unknownCommand 0x37).wellFormed = true := by decide

/-! ### Small states -/

/-- Settings of a small station: number 2, all roles, three phases. -/
def settings : Settings :=
  { Settings.unloaded with
    number := 2, roles := ⟨true, true, true, true⟩, phaseCount := 3, peerCount := 2,
    retryLimit := 1, phaseLimit := 50, rollTimeout := 20, sagLimit := 2, quietTime := 3,
    retryDelay := 2, restTime := 4, blankWait := 3, unmuteDelay := 1, recoveryDwell := 2,
    mainsSag := 50, mainsRecover := 100, rideWindow := 12, holdUpBudget := 30,
    fallbackPeriod := 5000, rampPeriods := 4, shedCap := 40 }

/-- A sensed, sheddable rail of up phase 1 and down phase 3 with discharge output DIS1. -/
def entry : RailEntry :=
  { RailEntry.absent with
    present := true, upPhase := 1, downPhase := 3, sense := true, offThreshold := 20,
    goodLow := 100, goodHigh := 200, riseLimit := 5, settleTime := 2, fallLimit := 30,
    urgentFallLimit := 2, discharge := some 1, sheddable := true }

/-- A rail in a state, with a timer that has run out. -/
def railIn (st : RailState) : Rail :=
  { Rail.initial with
    state := st, applied := st.enabled, requested := st.isOn
    timer := if st.timed then .running 0 else .stopped }

/-- The station in a mode and phase, with rail 0 in a state and no other rail. -/
def station (m : Mode) (k : Nat) (st : RailState) : State :=
  { State.reset with
    settings := settings
    table := (Vector.replicate 8 RailEntry.absent).set 0 entry
    rails := (Vector.replicate 8 Rail.initial).set 0 (railIn st)
    notices := { State.reset.notices with link := .waiting }
    loader := { State.reset.loader with reading := false }
    seq := { State.reset.seq with mode := m, phase := k } }

/-- The outcome is the next state `t`. -/
def answers (o : Result) (t : State) : Bool :=
  match o with
  | .next u => u == t
  | .fault _ => false
  | .refused _ => false

/-- The station with a frame of notice `n` read. -/
def hearing (n : Notice) (own : Bool) (s : State) : State :=
  { s with notices := { s.notices with link := .frame ⟨n.slots, own⟩ } }

/-- The line released and high, its rise not yet taken. -/
def risen (s : State) : State := { s with line := { s.line with high := true } }

/-- The line claimed with the minimum hold over. -/
def claiming (s : State) : State :=
  { s with line := { s.line with claimed := true, minHold := true } }

theorem hearing_takes (n : Notice) (own : Bool) (s : State)
    (h : Frame.notice ⟨n.slots, own⟩ = some n) : (hearing n own s).takes n own :=
  ⟨n.slots, rfl, h⟩

/-! ### Worked values of the manual -/

theorem test_worked_checks :
    (Notice.mk .sag 1 6 4).check = 0x09 ∧ (Notice.mk .fall 2 6 0).check = 0x2E ∧
      (Notice.mk .fault 3 1 2).check = 0xE5 := by
  decide +kernel

theorem test_address_bytes : addressByte false = 0xA8 ∧ addressByte true = 0xA9 := by decide

theorem test_read_transaction_receives_the_image :
    (readTransaction.filter fun a => a == .receive true || a == .receive false).length = 465 := by
  decide +kernel

/-- One byte 0x41 fed into 0xFFFF (R154). -/
theorem test_signature_of_one_byte : crc16Byte 0xFFFF 0x41 = 0xB915 := by
  decide +kernel

/-- The ramp of section 10.6: ceilings 1250, 2500, 3750 and unlimited. -/
def rampStation : State :=
  { station .on 3 .good with
    dim :=
      { State.reset.dim with
        capture := .tracking, pair := some ⟨5000, 3000⟩, setting := .ramp } }

theorem test_ramp_of_section_10_6 :
    rampStation.boundary.dim.ceiling = .limited 1250 ∧
      rampStation.boundary.boundary.dim.ceiling = .limited 2500 ∧
      rampStation.boundary.boundary.boundary.dim.activeLeft = some 3000 ∧
      rampStation.boundary.boundary.boundary.boundary.dim.setting = .full := by decide

/-- The cap and the lift of section 10.6. -/
theorem test_cap_and_lift_of_section_10_6 :
    let capped := ({ rampStation with dim := { rampStation.dim with setting := .cap } }).boundary
    let lifted :=
      { capped with
        dim :=
          { capped.dim with setting := .lift, rampIndex := 0, liftFloor := capped.dim.ceiling } }
    capped.dim.ceiling = .limited 2000 ∧ lifted.boundary.dim.ceiling = .limited 2000 ∧
      lifted.boundary.boundary.dim.ceiling = .limited 2500 := by decide

/-- READ STATE of a station in ON at phase 3. -/
theorem test_state_reply_mode_and_phase :
    (station .on 3 .good).stateReply.head? = some 0x43 ∧
      (station .on 3 .good).stateReply.length = 8 := by decide

/-! ### An image -/

/-- The bytes of an image without its check: station 2 with no role, one phase, one rail. -/
def imageBody : List Byte :=
  let profile : List Byte :=
    [3, 1, 2, 50, 100, 0, 12, 0, 30, 0, 100, 50, 4, 40, 0]
  let rails : List Byte :=
    [0xC0, 0x11, 20, 100, 200, 0, 5, 2, 0, 30, 2, 1] ++ List.replicate 84 0
  [0x5C, 0x40, 1, 2, 0, 1, 1, 1, 50, 20, 3, 3, 2, 4, 0, 0xF] ++
    (profile ++ [0] ++ rails) ++ (profile ++ [1] ++ rails) ++ (profile ++ [2] ++ rails) ++
    (profile ++ [3] ++ rails)

/-- The image with its check. -/
def image : List Byte := imageBody ++ [79]

/-- CRC-8 byte by byte; the comparison makes the kernel evaluate each intermediate value. -/
def crcFrom : List Byte → Byte → Byte
  | [], c => c
  | b :: bs, c =>
    let d := (byteBits b).foldl crc8Bit c
    bif d.toNat.beq 300 then 0 else crcFrom bs d

theorem crcFrom_eq (bs : List Byte) (c : Byte) :
    crcFrom bs c = (bs.flatMap byteBits).foldl crc8Bit c := by
  induction bs generalizing c with
  | nil => rfl
  | cons b bs ih =>
    have h (d : Byte) : d.toNat.beq 300 = false := by
      have := d.isLt
      rw [Bool.eq_false_iff]
      intro e
      have := Nat.eq_of_beq_eq_true e
      omega
    simp [crcFrom, h, ih, List.flatMap_cons]

theorem imageCheckMatches_of (i : List Byte) (b : Bool)
    (h : (crcFrom (i.take 464) 0 == i.getD 464 0) = b) : imageCheckMatches i = b := by
  rw [crcFrom_eq] at h
  exact h

theorem test_image_has_its_length : image.length = 465 := by
  decide +kernel

theorem test_image_is_accepted : checkImage image 0 = none ∧ checkImage image 2 = none := by
  unfold checkImage
  rw [imageCheckMatches_of image true (by decide +kernel)]
  decide +kernel

theorem test_bad_marker : checkImage (image.set 0 0) 0 = some (.badMarker, 15) := by
  decide +kernel

theorem test_bad_version : checkImage (image.set 2 2) 0 = some (.badVersion, 15) := by
  decide +kernel

theorem test_bad_check : checkImage (image.set 20 0) 0 = some (.badCheck, 15) := by
  unfold checkImage
  rw [imageCheckMatches_of (image.set 20 0) false (by decide +kernel)]
  decide +kernel

/-- An image that fails one of the rail checks 7, 8 and 9 at rail 0. -/
def wrongImage (k : Nat) (b check : Byte) : List Byte := (image.set k b).set 464 check

theorem test_rail_checks :
    checkImage (wrongImage 33 0x21 146) 0 = some (.badRail, 0) ∧
      checkImage (wrongImage 37 20 218) 0 = some (.ascentBound, 0) ∧
      checkImage (wrongImage 40 9 218) 0 = some (.descentBound, 0) := by
  unfold checkImage
  rw [imageCheckMatches_of (wrongImage 33 0x21 146) true (by decide +kernel),
    imageCheckMatches_of (wrongImage 37 20 218) true (by decide +kernel),
    imageCheckMatches_of (wrongImage 40 9 218) true (by decide +kernel)]
  decide +kernel

/-- The hypotheses of the rail checks: each fails at rail 0 with the checks before it passed. -/
theorem witness_ImageChecksRunInOrder :
    profileInRange (wrongImage 33 0x21 146) 0 = true ∧
      railConsistent (wrongImage 33 0x21 146) 0 0 = false ∧
      (∀ j, railConsistent (wrongImage 37 20 218) 0 j = true) ∧
      ascentBound (imageSettings (wrongImage 37 20 218) 0)
          (imageEntry (wrongImage 37 20 218) 0 0) = false ∧
      (∀ j, ascentBound (imageSettings (wrongImage 40 9 218) 0)
          (imageEntry (wrongImage 40 9 218) 0 j) = true) ∧
      descentBound (imageSettings (wrongImage 40 9 218) 0)
          (imageEntry (wrongImage 40 9 218) 0 0) = false := by
  decide +kernel

/-- Checks 4 to 6 where they fail: profile 1 not enabled, 16 phases, and a bit marked 0 in byte 14
of profile 0. -/
theorem witness_ImageChecksRunInOrder_fields :
    ((image.set 15 1).getD 15 0).getLsbD 1 = false ∧ stationInRange image = true ∧
      stationInRange (image.set 5 15) = true ∧ stationInRange (image.set 5 16) = false ∧
      profileInRange image 0 = true ∧ profileInRange (image.set 30 31) 0 = true ∧
      profileInRange (image.set 30 32) 0 = false := by
  decide +kernel

/-- Settings and rail 0 of the image, as its bytes are laid out (R163). -/
theorem test_image_layout :
    let c := imageSettings image 0
    let e := imageEntry image 0 0
    c.number = 2 ∧ c.phaseCount = 1 ∧ c.restTime = 4 ∧ c.rideWindow = 12 ∧
      c.fallbackPeriod = 100 ∧ c.shedCap = 40 ∧ e.present = true ∧ e.upPhase = 1 ∧
      e.riseLimit = 5 ∧ e.fallLimit = 30 ∧ e.discharge = some 0 ∧
      (imageEntry image 0 1).present = false := by
  decide +kernel

/-- The state of LOADING after reset meets the premises of an accepted image. -/
theorem witness_AcceptedImageBringsTheStationToOff :
    State.reset.readsImage = true ∧ image.length = 465 ∧
      checkImage image State.reset.loader.profile = none ∧ State.reset.seq.roster = [] ∧
      State.reset.dim.setting = .zero ∧ State.reset.dim.ceiling = .limited 0 ∧
      State.reset.dim.capture = .level :=
  ⟨rfl, test_image_has_its_length, test_image_is_accepted.1, rfl, rfl, rfl, rfl⟩

theorem witness_LoadWithoutAnAcceptedImage :
    State.reset.readsImage = true ∧ (image.set 0 0).length = 465 ∧
      checkImage (image.set 0 0) State.reset.loader.profile = some (.badMarker, 15) := by
  decide +kernel

/-! ### Witnesses: the machine and start-up -/

theorem witness_StepTakesTheFrontCommand :
    ({ State.reset with pending := [.rise, .busFree] }).pending = .rise :: [.busFree] := rfl

/-- A station with a counter that is due. -/
def dueStation : State :=
  { station .on 3 .good with
    timers := { (station .on 3 .good).timers with quiet := .running 0 } }

theorem witness_StepOnAnEmptyQueue :
    dueStation.pending = [] ∧ dueStation.dueEvent = some .quietTimerExpiry ∧
      State.reset.pending = [] ∧ State.reset.dueEvent = none := by decide

/-- An instant of the sample clock and a base tick of DIM_IN. -/
theorem witness_StepOnAnEmptyQueue_samples :
    let s := station .on 3 .good
    let t := { s with front := { s.front with sampleLeft := some 0, dimInDue := true } }
    t.dueEvent = some (.senseSample darkLevels) ∧ s.dueEvent = none ∧ t.captures = true ∧
      some (.dimInSample false) ∈ t.dueList := by decide

/-- A calm station: HOLD high in the claim before, and low now. -/
theorem witness_ReleaseFollowsAStep_calm :
    (station .rising 1 .good).calm ∧
      ({ station .rising 1 .good with
        line := { State.reset.line with claimed := true, highTwo := true } }).calm := by
  unfold State.calm; decide

/-- A station that may release into a line high for 2 µs. -/
def highClaim : State :=
  { station .rising 1 .good with
    line :=
      { State.reset.line with claimed := true, minHold := true, high := true, highTwo := true } }

theorem witness_ReleaseFollowsAStep_high :
    highClaim.seq.mode ≠ .solo ∧ highClaim.canRelease = true ∧ highClaim.line.high = true ∧
      highClaim.line.highTwo = true := by decide

/-- A station that has heard all its peers, one of them with the mismatch flag or not. -/
def heardStation (m : Mode) (mismatch : Bool) : State :=
  let own : RosterEntry := ⟨2, settings.roles, 0, 3, 1, true, false, false, false, 0⟩
  let s := station m 0 .off
  { s with
    seq := { s.seq with roster := [{ own with number := 1, mismatch := mismatch }, own] } }

/-- A station after the lead's MAINS_OK (`recovered`), or before it. -/
def recoveredStation (r : ReturnMode) (recovered : Bool) (s : State) : State :=
  { s with seq := { s.seq with mode := .riding, returnMode := r, recovered := recovered } }

/-- The release condition of every mode and return mode, where it holds and where it does not. -/
theorem witness_ReleaseFollowsAStep_conditions :
    let back := recoveredStation
    (heardStation .rollcall false).releaseCondition = true ∧
      (heardStation .rollcall true).releaseCondition = false ∧
      (station .rollcall 0 .off).releaseCondition = false ∧
      (station .rising 1 .good).releaseCondition = true ∧
      (station .rising 1 .settling).releaseCondition = false ∧
      (station .rising 2 .shed).releaseCondition = true ∧
      (station .rising 1 .shed).releaseCondition = false ∧
      (back .on false (station .riding 3 .good)).releaseCondition = false ∧
      (back .on true (station .riding 3 .good)).releaseCondition = true ∧
      (back .on true (station .riding 3 .shed)).releaseCondition = false ∧
      (back .rising true (station .riding 2 .good)).releaseCondition = true ∧
      (back .rising true (station .riding 2 .shed)).releaseCondition = false ∧
      (back .rollcall true (heardStation .riding false)).releaseCondition = true ∧
      (station .descending 3 .off).releaseCondition = true ∧
      (station .descending 3 .falling).releaseCondition = false ∧
      (station .descending 2 .falling).releaseCondition = true ∧
      (station .on 3 .good).releaseCondition = false ∧
      (claiming (station .rising 1 .good)).canRelease = true := by decide

/-- SOLO with a step to take, with none, and with every rail OFF. -/
theorem witness_SoloGoesOnAndEnds :
    (station .solo 3 .falling).seq.mode = .solo ∧ (station .solo 3 .falling).seq.phase ≤ 15 ∧
      (station .solo 3 .falling).conclude.seq.mode = .solo ∧
      (station .solo 3 .falling).downSummary 3 = false ∧
      (station .solo 3 .falling).allOff = false ∧
      1 < (station .solo 2 .falling).seq.phase ∧
      (station .solo 2 .falling).downSummary 2 = true ∧
      (station .solo 2 .falling).conclude.seq.phase = 1 ∧
      (station .solo 1 .off).allOff = true ∧ 1 ≤ (station .solo 1 .off).seq.phase ∧
      (station .solo 1 .off).seq.heldRise = none := by decide +kernel

/-- The end of SOLO or of a descent after a BREAK, with a held RISE. -/
def endingStation (m : Mode) (a : Byte) (attempts : Nat) : State :=
  { station m 1 .off with
    seq :=
      { (station m 1 .off).seq with heldRise := some a, cause := .brk, attempts := attempts } }

/-- A held RISE at the end of SOLO: attempt 0 above the retry limit, attempt 3 below it, and
attempt 3 discarded in LOCKOUT. -/
theorem witness_SoloGoesOnAndEnds_held :
    (endingStation .solo 0 1).allOff = true ∧ (endingStation .solo 0 1).seq.heldRise = some 0 ∧
      settings.retryLimit < min (1 + 1) (settings.retryLimit + 1) ∧
      (endingStation .solo 0 1).conclude.seq.mode = .rollcall ∧
      ¬settings.retryLimit < min (0 + 1) (settings.retryLimit + 1) ∧
      (endingStation .solo 3 0).conclude.seq.mode = .rollcall ∧
      (endingStation .solo 3 1).conclude.seq.mode = .lockout ∧
      (endingStation .solo 3 1).conclude.seq.heldRise = none := by decide

theorem witness_SupplyStartAndRst :
    (10 ≤ 10) ∧ (9 < 10) ∧ (State.reset.heldInReset).loader.rstAsserted = true ∧
      State.reset.loader.rstAsserted = false := by decide

/-! ### Witnesses: sense front end -/

/-- A sample with every rail input at one voltage. -/
def sampleAt (v msns : Nat) : Sample := ⟨Vector.replicate 8 v, msns, true, false, false⟩

/-- A loaded station whose rail 0 has accepted GOOD, at a sample instant. -/
def goodStation : State :=
  { station .on 3 .good with
    front :=
      { State.reset.front with
        sampleLeft := some 0
        sns := (Vector.replicate 8 Filter.initial).set 0 ⟨some .good, none, 0⟩ } }

theorem witness_SampleUpdatesTheFilters :
    State.reset.loaded = false ∧ goodStation.loaded = true ∧
      goodStation.front.sampleLeft = some 0 ∧ (station .on 3 .good).front.sampleLeft ≠ some 0 ∧
      goodStation.senses 0 = true ∧
      goodStation.senses 1 = false ∧
      goodStation.glitches (classifyRail (goodStation.entry 0) 1500000) 0 = false ∧
      goodStation.settings.filterBypass = false ∧ (goodStation.rail 0).state = .good ∧
      classifyRail (goodStation.entry 0) 999999 ≠ .good := by decide

theorem witness_SampleUpdatesTheFilters_accepts :
    let s := goodStation.setFilter 0 ⟨some .good, some .low, 2⟩
    s.glitches .low 0 = false ∧
      (s.front.sns[(0 : Fin 8)]).sample false (classifyRail (s.entry 0) 999999) =
        (⟨some .low, none, 0⟩, some .low) := by
  decide +kernel

/-- With the bypass set, the first sample of an excursion counts a glitch and is accepted: rail 0
takes DIP (R15, R27, R30). -/
theorem witness_SampleUpdatesTheFilters_bypass :
    let s := { goodStation with settings := { settings with filterBypass := true } }
    let t := s.sampleRail 999999 0
    s.settings.filterBypass = true ∧ (s.rail 0).state = .good ∧
      classifyRail (s.entry 0) 999999 ≠ .good ∧ t.zone 0 = some .low ∧
      (t.rail 0).glitches = 1 ∧ (t.rail 0).faultReason = some .dip := by decide

/-- The thresholds themselves: at good-low and at good-high a voltage is GOOD. -/
theorem test_rail_classes_at_their_thresholds :
    classifyRail entry 199999 = .off ∧ classifyRail entry 200000 = .low ∧
      classifyRail entry 999999 = .low ∧ classifyRail entry 1000000 = .good ∧
      classifyRail entry 2000000 = .good ∧ classifyRail entry 2000001 = .high := by decide

theorem witness_RailFilterFollowsItsTable :
    (⟨some .good, none, 0⟩ : Machine.Filter Zone).accepted = some .good ∧
      (⟨none, some .low, 1⟩ : Machine.Filter Zone).accepted ≠ some .low ∧
      (⟨none, some .low, 2⟩ : Machine.Filter Zone).candidate = some .low ∧
      (⟨none, some .off, 2⟩ : Machine.Filter Zone).candidate ≠ some .low ∧
      ((⟨none, some .off, 2⟩ : Machine.Filter Zone).sample false .low).2 = none := by decide

/-- SAG, BAND and OK at the thresholds. -/
theorem witness_MainsClassesFollowTheirTable :
    classifyMains settings 499999 = some .sag ∧ classifyMains settings 500000 = none ∧
      classifyMains settings 1000000 = none ∧ classifyMains settings 1000001 = some .ok ∧
      settings.mainsSag < settings.mainsRecover := by decide

/-- An image of a MAINS station whose thresholds are not in order. -/
theorem witness_MainsClassesFollowTheirTable_image :
    let i := (image.set 4 0x40).set 19 200
    (imageSettings i 0).roles.mains = true ∧
      (imageSettings i 0).mainsRecover ≤ (imageSettings i 0).mainsSag := by
  decide +kernel

/-- A station whose MSNS filter is about to accept a zone. -/
def mainsStation (m : Mode) (k : Nat) (z : MainsZone) : State :=
  { station m k .good with
    front := { State.reset.front with msns := ⟨none, some z, 2⟩, dwell := some 7 } }

theorem witness_MainsEventsAndDwellAct :
    (mainsStation .on 3 .ok).settings.roles.mains = true ∧
      (mainsStation .on 3 .ok).loaded = true ∧
      (mainsStation .on 3 .ok).front.msns.sampleMains false
          (classifyMains settings 1000001) = (⟨some .ok, none, 0⟩, some .ok) ∧
      (mainsStation .riding 3 .sag).front.msns.sampleMains false
          (classifyMains settings 0) = (⟨some .sag, none, 0⟩, some .sag) := by decide

/-- The dwell at its end, 0.2 ms, and one tick before it. -/
theorem witness_MainsEventsAndDwellAct_dwell :
    let s : Nat → State := fun n =>
      { station .on 3 .good with
        front := { State.reset.front with msns := ⟨some .ok, none, 0⟩, dwell := some n } }
    (s 200).front.dwell = some 200 ∧ (s 200).settings.recoveryDwell * 100 ≤ 200 ∧
      (s 200).front.msns.accepted = some .ok ∧ ¬(s 199).settings.recoveryDwell * 100 ≤ 199 := by
  decide

/-- A station whose PWR_REQ filter is about to accept a level. -/
def requestStation (m : Mode) (level : Bool) (c : Cause) : State :=
  { station m 0 .off with
    front := { State.reset.front with pwrReq := ⟨some !level, some level, 2⟩ }
    seq := { (station m 0 .off).seq with lastCause := c } }

theorem witness_PowerRequestEdgesAct :
    (requestStation .off true .fault).settings.roles.requester = true ∧
      (requestStation .lockout true .none).loaded = true ∧
      (requestStation .off true .fault).front.pwrReq.sample false true =
        (⟨some true, none, 0⟩, some true) ∧
      (requestStation .rollcall false .none).front.pwrReq.sample false false =
        (⟨some false, none, 0⟩, some false) ∧
      (requestStation .rollcall false .none).seq.mode.active = true ∧
      (requestStation .descending false .none).seq.mode.active = false := by decide

/-- A DIM_IN edge that completes a period of `since` µs. -/
def measuring (since : Nat) (high : Option Nat) : State :=
  { station .on 3 .good with
    front := { State.reset.front with dimIn := ⟨some false, some true, 2⟩, dimInDue := true }
    dim := { State.reset.dim with measurement := some ⟨since, high⟩ } }

/-- Periods at the ends of the range, 50 and 65535 µs, and just outside. -/
theorem witness_DimInSampleTimesTheInput :
    State.reset.captures = false ∧ (measuring 50 (some 20)).captures = true ∧
      (measuring 50 (some 20)).front.dimInDue = true ∧
      (station .on 3 .good).front.dimInDue = false ∧
      (measuring 50 (some 20)).front.dimIn.sample false true = (⟨some true, none, 0⟩, some true) ∧
      ((measuring 50 (some 20)).sampleDimIn true).dim.pair = some ⟨50, 20⟩ ∧
      ((measuring 65535 (some 20)).sampleDimIn true).dim.pair = some ⟨65535, 20⟩ ∧
      ((measuring 49 (some 20)).sampleDimIn true).dim.pair = none ∧
      ((measuring 65536 (some 20)).sampleDimIn true).dim.pair = none ∧
      (measuring 7 none).dim.measurement = some ⟨7, none⟩ ∧
      (station .on 3 .good).dim.measurement = none := by decide

/-! ### Witnesses: rail controller -/

theorem witness_SwitchOnAndSwitchOffOfARail :
    let s := station .rising 1 .off
    let w := { s with table := s.table.set 0 { entry with blankAligned := true } }
    let g := station .descending 3 .good
    let d := { g with table := g.table.set 0 { entry with dimGated := true } }
    (s.entry 0).present = true ∧ (s.rail 0).state = .off ∧ s.zone 0 ≠ some .good ∧
      s.zone 0 ≠ some .high ∧ (w.entry 0).blankAligned = true ∧ w.urgent = false ∧
      w.ctl.solo = false ∧ (g.rail 0).state = .good ∧ (d.entry 0).dimGated = true ∧
      ({ d with dim := { d.dim with zeroReport := false } }).zeroReport = false := by decide

/-- The zones that stand at a switch on and at a switch off, and urgency at the latter. -/
theorem witness_SwitchOnAndSwitchOffOfARail_zones :
    let s := station .rising 1 .off
    let g := station .descending 3 .good
    let u := { g with holdUp := { g.holdUp with running := true } }
    (s.setFilter 0 ⟨some .good, none, 0⟩).zone 0 = some .good ∧
      (s.setFilter 0 ⟨some .high, none, 0⟩).zone 0 = some .high ∧ (s.entry 0).sense = true ∧
      (s.entry 0).blankAligned = false ∧ (g.entry 0).dimGated = false ∧
      (g.setFilter 0 ⟨some .off, none, 0⟩).zone 0 = some .off ∧ g.urgent = false ∧
      u.urgent = true ∧ ((g.switchOff 0).rail 0).timer = .running 3000 ∧
      ((u.switchOff 0).rail 0).timer = .running 200 := by decide

/-- A timer loaded while held stands still with the full time, else it runs (R12). -/
theorem witness_ZoneEventsActByRailState_held :
    let s := station .rising 1 .ramping
    let h := { s with ctl := { s.ctl with held := true } }
    h.ctl.held = true ∧ s.ctl.held = false ∧
      ((h.zoneEvent 0 .good).rail 0).timer = .paused 200 ∧
      ((s.zoneEvent 0 .good).rail 0).timer = .running 200 ∧
      ((({ station .rising 1 .off with ctl := h.ctl }).switchOn 0).rail 0).timer =
        .paused 500 := by decide

/-- Every state a zone can reach, with ride set and clear. -/
theorem witness_ZoneEventsActByRailState :
    ((station .rising 1 .ramping).rail 0).state = .ramping ∧
      ((station .rising 1 .settling).rail 0).state = .settling ∧
      ((station .riding 3 .good).rail 0).state = .good ∧
      (station .on 3 .good).ctl.ride = false ∧
      ({ station .riding 3 .good with
        ctl := { State.reset.ctl with ride := true } }).ctl.ride = true ∧
      ((station .descending 3 .dimWait).rail 0).state = .dimWait ∧
      ((station .descending 3 .discharging).rail 0).state = .discharging := by decide

theorem witness_ShedOfARail :
    ((station .riding 3 .good).entry 0).sheddable = true ∧
      ((station .riding 3 .good).rail 0).state = .good ∧
      ((station .riding 3 .shed).rail 0).state = .shed := by decide

theorem witness_ShedOfARail_coherent : ((station .riding 3 .good).rail 0).coherent := by
  unfold Rail.coherent; decide

/-- Urgent fall and restatement, an active mode and another, a held place and a free one. -/
theorem witness_RailFaultEndsTheService :
    let s := station .on 3 .good
    let z := s.setFilter 0 ⟨some .off, none, 0⟩
    (z.entry 0).sense = true ∧ z.zone 0 = some .off ∧ s.zone 0 ≠ some .off ∧
      s.seq.mode.active = true ∧ (station .solo 3 .good).seq.mode.active = false ∧
      s.refusesFault 0 = false ∧
      (s.setPending .fault (some ⟨1, 1, 0⟩)).refusesFault 0 = true := by decide

theorem witness_RailTimerExpiriesAct :
    (station .rising 1 .off).timedIn 0 .ramping = false ∧
      (station .rising 1 .ramping).timedIn 0 .ramping = true ∧
      (station .rising 1 .settling).timedIn 0 .settling = true ∧
      (station .descending 3 .falling).timedIn 0 .falling = true ∧
      (entry.sense = true ∧ (railIn .falling).urgentFall = false ∧
        (station .descending 3 .falling).urgent = false ∧ entry.discharge ≠ none) := by decide

theorem witness_DischargingRailTakesItsEvents :
    ((station .descending 3 .discharging).rail 0).state = .discharging ∧
      ((station .descending 3 .discharging).rail 0).timer = .running 0 ∧
      ((station .rising 1 .off).rail 0).state = .off ∧
      ((station .rising 1 .off).entry 0).present = true := by decide

/-- An ARMED rail with the blank wait over. -/
def armedStation (st : RailState) : State :=
  { station .rising 1 st with ctl := { State.reset.ctl with blankTimer := .running 0 } }

theorem witness_BlankWaitExpiryAppliesTheArmedChanges :
    (armedStation .armedOn).ctl.blankTimer = .running 0 ∧
      ((armedStation .armedOn).rail 0).state = .armedOn ∧
      ((armedStation .armedOff).rail 0).state = .armedOff ∧
      ¬(((armedStation .armedOn).entry 0).sense = true ∧
        (armedStation .armedOn).zone 0 = some .high) ∧
      ((armedStation .armedOn).setFilter 0 ⟨some .high, none, 0⟩).zone 0 = some .high ∧
      State.reset.ctl.blankTimer ≠ .running 0 ∧
      (armedStation .armedOn).settings.roles.panel = true ∧
      (⟨some false, some true, 2⟩ : Machine.Filter Bool).sample false true =
        (⟨some true, none, 0⟩, some true) ∧
      (⟨some true, some false, 2⟩ : Machine.Filter Bool).sample false false =
        (⟨some false, none, 0⟩, some false) := by decide

/-- An empty blank wait and one under way; a lone ARMED rail that leaves, and one of two. -/
theorem witness_BlankWaitExpiryAppliesTheArmedChanges_joins :
    let s := armedStation .armedOn
    let two := { s with rails := s.rails.set 1 (railIn .armedOff) }
    (station .rising 1 .off).ctl.blankTimer = .stopped ∧ s.ctl.blankTimer ≠ .stopped ∧
      (s.entry 0).present = true ∧ (s.switchOff 0).ctl.blankTimer = .stopped ∧
      (two.switchOff 0).ctl.blankTimer = .running 0 ∧
      ((two.switchOff 0).rail 1).state = .armedOff ∧
      ((armedStation .armedOff).railFault 0 .over).ctl.blankTimer = .stopped := by decide

/-- Drives and measurements at their end and one tick before it. -/
theorem witness_TimedDrivesEnd :
    let s := rampStation.boundary
    let d := { s.dim with pair := some ⟨50, 20⟩, activeLeft := some 0, silence := 150 }
    let m := { (measuring 65536 none).dim with silence := 65000 }
    ({ Rail.initial with boost := some 0 }).boost = some 0 ∧ Rail.initial.boost ≠ some 0 ∧
      ({ s.notices with breakDrive := some 0 }).breakDrive = some 0 ∧
      s.notices.breakDrive ≠ some 0 ∧ d.activeLeft = some 0 ∧ s.dim.activeLeft ≠ some 0 ∧
      s.captures = true ∧ State.reset.captures = false ∧ d.capture = .tracking ∧
      3 * 50 ≤ d.silence ∧ ¬3 * 50 ≤ ({ d with silence := 149 }).silence ∧
      m.capture = .level ∧ m.measurement ≠ none ∧ 65000 ≤ m.silence ∧
      m.measurement = some ⟨65536, none⟩ ∧ (measuring 65536 none).captures = true ∧
      ¬65536 ≤ 65535 := by decide

/-! ### Witnesses: phase line -/

theorem witness_MinimumHoldAndReclaimDelayEnd :
    let s := (station .rising 1 .good)
    let c := { s with line := { s.line with claimed := true, minHoldLeft := some 0 } }
    let r := { s with line := { s.line with reclaim := some 0 } }
    c.line.claimed = true ∧ c.line.minHold = false ∧ c.line.minHoldLeft = some 0 ∧
      c.loaded = true ∧ c.seq.mode ≠ .solo ∧ c.line.highTwo = false ∧
      (claiming s).line.minHold = true ∧ r.line.reclaim = some 0 ∧ r.seq.mode.claims = true ∧
      r.line.claimed = false ∧ (station .on 3 .good).seq.mode.claims = false ∧
      s.line.reclaim ≠ some 0 := by decide

/-- Roll call, and RISING at the last phase below N. -/
theorem witness_RiseBringsTheNextPhase :
    (station .rollcall 0 .off).line.claimed = false ∧
      ((station .rollcall 0 .off).line.riseTaken &&
        (station .rollcall 0 .off).line.high) = false ∧
      (station .rollcall 0 .off).seq.mode = .rollcall ∧
      0 < (station .rollcall 0 .off).settings.phaseCount ∧
      (station .rising 2 .good).seq.mode = .rising ∧
      (station .rising 2 .good).seq.phase < settings.phaseCount ∧
      ((station .rollcall 0 .off).entry 0).upPhase = 0 + 1 := by decide

/-- The last phase; with an unmute delay of 0 the same rise deasserts MUTE. -/
theorem witness_RiseAtTheLastPhaseEntersOn :
    let s := station .rising 3 .good
    (station .rising 3 .good).line.claimed = false ∧
      (station .rising 3 .good).seq.mode = .rising ∧
      settings.phaseCount ≤ (station .rising 3 .good).seq.phase ∧ s.enterOn.mute = true ∧
      ({ s with settings := { settings with unmuteDelay := 0 } }).enterOn.mute = false := by
  decide

/-- RIDING with a return mode. -/
def ridingStation (r : ReturnMode) (k : Nat) (st : RailState) : State :=
  { station .riding k st with
    ctl := { State.reset.ctl with ride := true, held := true }
    seq := { (station .riding k st).seq with returnMode := r, lead := some 1 }
    holdUp :=
      { State.reset.holdUp with
        running := true, armedA := true, armedP := true, count := 30, compareA := some 12
        compareP := some 30 } }

/-- The three return modes, a GOOD rail that dips, and a rail that the next phase switches on. -/
theorem witness_RiseEndsARideThrough :
    (ridingStation .on 3 .good).line.claimed = false ∧
      (ridingStation .on 3 .good).ctl.ride = true ∧
      (ridingStation .on 3 .good).seq.returnMode = .on ∧
      (ridingStation .rising 2 .good).seq.phase < settings.phaseCount ∧
      settings.phaseCount ≤ (ridingStation .rising 3 .good).seq.phase ∧
      (ridingStation .rollcall 0 .off).seq.returnMode = .rollcall ∧
      ((ridingStation .rollcall 0 .off).entry 0).upPhase = 0 + 1 ∧
      ((ridingStation .rollcall 0 .off).rail 0).state = .off ∧
      (mainsStation .riding 3 .sag).settings.roles.mains = true := by decide

theorem witness_RiseEndsARideThrough_dips :
    ((ridingStation .on 3 .good).setFilter 0 ⟨some .low, none, 0⟩).dips 0 ∧
      ¬(ridingStation .on 3 .good).dips 0 := by
  unfold State.dips; decide

theorem witness_RiseBringsTheNextDownPhase :
    (station .descending 2 .off).line.claimed = false ∧
      (station .descending 2 .off).seq.mode = .descending ∧
      1 < (station .descending 2 .off).seq.phase := by decide

/-- The last down phase without a held RISE, and with one below and above the retry limit. -/
theorem witness_FinalRiseEndsTheDescent :
    (station .descending 1 .off).line.claimed = false ∧
      (station .descending 1 .off).seq.phase ≤ 1 ∧
      (station .descending 1 .off).seq.heldRise = none ∧
      (endingStation .descending 3 0).takeRise.seq.mode = .rollcall ∧
      (endingStation .descending 0 1).takeRise.seq.mode = .rollcall ∧
      (endingStation .descending 3 1).takeRise.seq.mode = .lockout ∧
      (endingStation .descending 3 1).takeRise.seq.heldRise = none := by decide

theorem witness_RiseAndHoldLineFaultEventsAct :
    State.reset.loaded = false ∧ (station .on 3 .good).loaded = true ∧
      (station .on 3 .good).seq.mode.claims = false ∧ (station .on 3 .good).seq.mode ≠ .solo ∧
      (station .solo 3 .falling).line.claimed = false ∧
      (claiming (station .rising 1 .good)).line.claimed = true ∧
      (claiming (station .rising 1 .good)).line.faultDelivered = false ∧
      (claiming (station .descending 1 .off)).seq.mode = .descending := by decide

/-- A station whose phase timer has run out with a setting. -/
def phaseStation (m : Mode) (setting : PhaseSetting) : State :=
  { station m 1 .good with
    timers := { State.reset.timers with phase := .running 0, phaseSetting := setting } }

theorem witness_PhaseTimerExpiriesAreJudged :
    (phaseStation .rollcall .rollTimeout).timers.phase = .running 0 ∧
      (phaseStation .rollcall .rollTimeout).inRollcall = true ∧
      (phaseStation .rising .phaseLimit).timers.phaseSetting = .phaseLimit ∧
      (phaseStation .riding .rollTimeout).timers.phase = .running 0 ∧
      (phaseStation .descending .phaseLimit).line.claimed = false ∧
      (phaseStation .rising .phaseLimit).loaded = true := by decide

/-! ### Witnesses: timers -/

/-- Both compares reached; at a count of 29 the second is not. -/
theorem witness_HoldUpTimerCountsAndCompares :
    let h := (ridingStation .on 3 .good).holdUp
    State.reset.holdUp.sub < 100 ∧ State.reset.holdUp.running = false ∧ h.running = true ∧
      h.armedA = true ∧ h.armedP = true ∧ h.compareA = some 12 ∧ 12 ≤ h.count ∧
      h.compareP = some 30 ∧ 30 ≤ h.count ∧ ¬(30 : Half) ≤ 29 ∧
      (ridingStation .on 3 .good).seq.mode = .riding := by decide

/-- Both compares reached: a budget expiry does nothing before the window expiry, and acts after
it (R44). -/
theorem witness_HoldUpTimerCountsAndCompares_order :
    let s := ridingStation .on 3 .good
    let t := { s with holdUp := { s.holdUp with armedA := false } }
    answers (exec .budgetExpiry s) s ∧ s.dueEvent = some .windowExpiry ∧
      t.holdUp.budgetDue = true ∧ t.dueEvent = some .budgetExpiry ∧
      answers (exec .budgetExpiry t)
        { t with
          holdUp := { t.holdUp with armedP := false }
          seq := { t.seq with budgetPassed := true } } := by decide

/-- A station in OFF whose retry/rest timer has run out. -/
def waitStation (setting : RetrySetting) (w : Wait) : State :=
  { station .off 0 .off with
    timers := { State.reset.timers with retry := .running 0, retrySetting := setting }
    seq := { (station .off 0 .off).seq with wait := w } }

theorem witness_SequenceTimersAct :
    dueStation.timers.quiet = .running 0 ∧ State.reset.timers.quiet ≠ .running 0 ∧
      ({ State.reset.timers with mute := .running 0 }).mute = .running 0 ∧
      (waitStation .retryDelay .retry).timers.retry = .running 0 ∧
      (waitStation .retryDelay .retry).timers.retrySetting = .retryDelay ∧
      (waitStation .retryDelay .retry).seq.wait = .retry ∧
      (waitStation .restTime .rest).timers.retrySetting = .restTime ∧
      (waitStation .restTime .rest).seq.mainsReturned = false := by decide

/-! ### Witnesses: data line -/

/-- Pending and in-flight FAULTs of both kinds. -/
theorem witness_QueuedNoticeEntersItsPlace :
    let s := station .on 3 .good
    s.pendingOf .fault = none ∧ s.notices.inFlight = none ∧
      (s.setPending .fault (some ⟨15, 16, 0⟩)).pendingOf .fault = some ⟨15, 16, 0⟩ ∧
      (s.setPending .fault (some ⟨3, 2, 0⟩)).pendingOf .fault = some ⟨3, 2, 0⟩ := by decide

/-- The station with a notice in flight in a received frame. -/
def inFlight (k : Kind) (resend : Nat) : State :=
  let s := hearing ⟨.fall, 1, 3, 0⟩ false (station .on 3 .good)
  { s with
    settings := { settings with roles := ⟨false, false, false, false⟩ }
    notices := { s.notices with inFlight := some ⟨k, ⟨3, 0, resend⟩, false⟩ } }

theorem witness_DroppedNoticeIssuesBreak :
    (inFlight .sag 2).notices.inFlight = some ⟨.sag, ⟨3, 0, 2⟩, false⟩ ∧
      Frame.received ⟨(Notice.mk .fall 1 3 0).slots, false⟩ = true ∧
      State.reset.notices.link = .dormant ∧
      (station .on 3 .good).notices.link ≠ .dormant ∧
      (station .on 3 .good).notices.breakDrive = none ∧
      (station .on 3 .good).settings.roles.requester = true ∧
      (requestStation .off true .none).seq.mode = .off ∧
      ({ State.reset.front with pwrReq := ⟨some true, none, 0⟩ }).pwrReq.level = true ∧
      (station .on 3 .good).front.pwrReq.level = false := by decide

theorem witness_LinkFollowsTheLine :
    (station .on 3 .good).notices.link = .waiting ∧
      State.reset.notices.link ≠ .waiting ∧
      (station .on 3 .good).breakAtLink.notices.link = .broken ∧
      (station .on 3 .good).breakAtLink.notices.breakDrive = none ∧
      (station .on 3 .good).issueBreak.breakAtLink.notices.breakDrive ≠ none := by decide

/-- A free line with a pending FALL. -/
def sender (resend : Nat) : State :=
  let s := (station .on 3 .good).setPending .fall (some ⟨3, 0, resend⟩)
  { s with notices := { s.notices with link := .free } }

/-- FREE with a pending FALL, the frame it begins, and FREE without a notice. -/
theorem witness_FrameBeginsWithTheLowestKind :
    (sender 0).notices.link = .free ∧ (sender 0).pendingOf .fall = some ⟨3, 0, 0⟩ ∧
      (∀ j ∈ kinds, j.code < Kind.fall.code → (sender 0).pendingOf j = none) ∧
      (∀ j ∈ kinds, (station .on 3 .good).pendingOf j = none) ∧
      (sender 0).sendIfFree.notices.link = .frame ⟨[], true⟩ ∧
      (sender 0).sendIfFree.notices.inFlight = some ⟨.fall, ⟨3, 0, 0⟩, false⟩ ∧
      (sender 0).sendIfFree.pendingOf .fall = none ∧
      (Notice.mk .fall 2 3 0).slots.take 32 = (Notice.mk .fall 2 3 0).slots := by
  decide +kernel

/-- FALL from station 2 begins with 0100 0010: slot 2 lost, slot 15 collided, slot 1 recessive. -/
theorem witness_SenderLosesCollidesOrFails :
    let sent := (Notice.mk .fall 2 3 0).slots
    sent[1]? = some true ∧ (sent.set 1 false)[1]? = some false ∧
      (sent.set 1 false).take 1 = sent.take 1 ∧ sent[14]? = some true ∧
      (sent.set 14 false)[14]? = some false ∧ (sent.set 14 false).take 14 = sent.take 14 ∧
      sent[0]? = some false ∧ (sent.set 0 true)[0]? = some true ∧
      14 < (sent.set 14 false).length := by
  decide +kernel

/-- A frame of kind code 9 with a matching check is foreign. -/
def foreignSlots : List Bool :=
  byteBits 0x91 ++ byteBits 5 ++ byteBits 6 ++ byteBits (crc8 [0x91, 5, 6])

theorem witness_FrameEndsWithoutTaking :
    Frame.received ⟨foreignSlots, false⟩ = true ∧
      Frame.checkMatches ⟨foreignSlots, false⟩ = true ∧
      Frame.notice ⟨foreignSlots, false⟩ = none ∧
      Frame.received ⟨foreignSlots.take 31, false⟩ = false ∧
      (hearing ⟨.fall, 1, 3, 0⟩ false (station .on 3 .good)).notices.inFlight = none ∧
      (inFlight .sag 1).pendingOf .sag = none ∧
      (inFlight .sag 1).notices.inFlight = some ⟨.sag, ⟨3, 0, 1⟩, false⟩ ∧
      ((inFlight .sag 1).withdraw .sag).notices.inFlight = some ⟨.sag, ⟨3, 0, 1⟩, true⟩ ∧
      ((inFlight .sag 1).queueNotice .sag 3 4).pendingOf .sag ≠ none := by
  decide +kernel

/-- A frame whose check did not match here ends as a foreign one where its slot 33 reads `1`
(log 32). -/
theorem witness_FrameEndsWithoutTaking_check :
    let f : Frame := ⟨foreignSlots.set 20 true, false⟩
    let s := { station .on 3 .good with
      notices := { State.reset.notices with link := .frame f } }
    f.received = true ∧ f.checkMatches = false ∧ f.notice = none ∧
      answers (exec .foreignFrame s)
        { s with
          notices := { s.notices with link := .waiting }
          cur := { s.cur with foreign := 1 } } := by
  decide +kernel

/-- Urgent and not, owed and not, and rails in each kind of state. -/
theorem witness_DetectedBreakBringsSolo :
    (station .on 3 .good).notices.link = .waiting ∧ (station .on 3 .good).seq.mode ≠ .solo ∧
      (station .on 3 .good).urgent = false ∧ (ridingStation .on 3 .good).urgent = true ∧
      (station .solo 3 .falling).seq.mode = .solo ∧ settings.roles.backlight = true ∧
      ((station .on 3 .good).entry 0).downPhase = settings.phaseCount ∧
      ((station .on 3 .good).entry 0).dimGated = false ∧
      ((station .descending 1 .dimWait).rail 0).state = .dimWait ∧
      ((armedStation .armedOff).rail 0).state = .armedOff ∧
      (station .descending 1 .dimWait).dim.ceiling = .limited 0 := by decide

theorem witness_DetectedBreakBringsSolo_coherent :
    ((ridingStation .on 3 .good).rail 0).coherent := by
  unfold Rail.coherent; decide

theorem witness_FrameOfANoticeSpellsTheNotice :
    (Notice.mk .sag 15 15 7).wellFormed = true ∧ (Notice.mk .commit 0 3 15).wellFormed = true ∧
      (Notice.mk .fault 0 15 21).wellFormed = true ∧ (Notice.mk .fault 0 15 22).wellFormed = false ∧
      (Notice.mk .rise 0 3 0).wellFormed = true ∧ (Notice.mk .roll 0 0xF3 0xF3).wellFormed = true ∧
      (Notice.mk .tally 9 255 255).wellFormed = true := by decide

/-! ### Witnesses: taken notices -/

/-- Every kind is taken by some station, from a peer and as the own notice. -/
theorem witness_takes :
    (hearing ⟨.sag, 1, 3, 4⟩ false (station .on 3 .good)).takes ⟨.sag, 1, 3, 4⟩ false ∧
      (hearing ⟨.commit, 1, 1, 3⟩ false (ridingStation .on 3 .good)).takes ⟨.commit, 1, 1, 3⟩
        false ∧
      (hearing ⟨.fault, 1, 0, 1⟩ false (station .on 3 .good)).takes ⟨.fault, 1, 0, 1⟩ false ∧
      (hearing ⟨.mainsOk, 1, 3, 0⟩ false (ridingStation .on 3 .good)).takes ⟨.mainsOk, 1, 3, 0⟩
        false :=
  ⟨hearing_takes _ _ _ (by decide +kernel), hearing_takes _ _ _ (by decide +kernel),
    hearing_takes _ _ _ (by decide +kernel), hearing_takes _ _ _ (by decide +kernel)⟩

theorem witness_takes_more :
    (hearing ⟨.fall, 2, 1, 0⟩ true (station .rising 1 .good)).takes ⟨.fall, 2, 1, 0⟩ true ∧
      (hearing ⟨.rise, 1, 0, 0⟩ false (station .off 0 .off)).takes ⟨.rise, 1, 0, 0⟩ false ∧
      (hearing ⟨.roll, 1, 0x80, 0x31⟩ false (station .rollcall 0 .off)).takes
        ⟨.roll, 1, 0x80, 0x31⟩ false ∧
      (hearing ⟨.tally, 1, 255, 255⟩ false (station .on 3 .good)).takes ⟨.tally, 1, 255, 255⟩
        false :=
  ⟨hearing_takes _ _ _ (by decide +kernel), hearing_takes _ _ _ (by decide +kernel),
    hearing_takes _ _ _ (by decide +kernel), hearing_takes _ _ _ (by decide +kernel)⟩

/-- A clash; and notices that arrive with HOLD high and the rise not taken, in ROLLCALL, in RISING
below N and at N, and in RIDING. -/
theorem witness_TakenNoticeMakesTheCommonSteps :
    (Notice.mk .fall 2 1 0).sender = settings.number ∧ (Notice.mk .sag 1 3 4).sender ≠ 2 ∧
      (station .on 3 .good).heldFaults = [] ∧ (station .rising 1 .good).seq.mode = .rising ∧
      (station .rising 1 .good).seq.phase < settings.phaseCount ∧
      settings.phaseCount ≤ (station .rising 3 .good).seq.phase ∧
      (station .rollcall 0 .off).line.claimed = false ∧
      (ridingStation .rising 2 .good).line.claimed = false ∧
      ((station .rising 1 .good).line.riseTaken && (station .rising 1 .good).line.high) =
        false := by decide

theorem witness_SagBeginsARideThrough :
    (station .on 3 .good).noRiseFirst .sag true ∧
      (station .rising 1 .good).noRiseFirst .sag false ∧
      (claiming (station .rollcall 0 .off)).noRiseFirst .sag true ∧
      ({ station .rising 1 .good with
        line := { State.reset.line with high := true, riseTaken := true } }).noRiseFirst .sag
        true ∧
      settings.sagLimit ≤ (satInc (1 : Nibble)).toNat := by
  unfold State.noRiseFirst; decide

/-- A rail that can be shed, one that rises, and one that falls, with the hold-up timer stopped. -/
theorem witness_SagBeginsARideThrough_rails :
    ((station .on 3 .good).entry 0).sheddable = true ∧
      ((station .on 3 .good).rail 0).state.serving = true ∧
      ((station .rising 1 .ramping).rail 0).state = .ramping ∧
      ((station .rollcall 0 .falling).rail 0).urgentFall = false ∧
      (station .rollcall 0 .falling).holdUp.running = false ∧
      (station .rising 1 .good).timers.phase ≠ .running 0 ∧
      (phaseStation .rollcall .rollTimeout).timers.phase = .running 0 := by decide

theorem witness_SagElsewhereIsCounted :
    (station .descending 3 .falling).holdUp.running = false ∧
      (ridingStation .on 3 .good).seq.mode = .riding ∧
      (station .off 0 .off).seq.mode = .off ∧ settings.roles.backlight = true ∧
      (ridingStation .on 3 .good).seq.lead = some 1 ∧
      ¬settings.sagLimit ≤ (satInc (station .descending 3 .falling).seq.sagCount).toNat ∧
      settings.sagLimit ≤ (satInc (1 : Nibble)).toNat := by decide

theorem witness_NoticeBringsTheDescent :
    (station .on 3 .good).noRiseFirst .fall true ∧
      (ridingStation .on 3 .good).noRiseFirst .commit false ∧
      (station .on 3 .good).seq.mode.active = true ∧
      (ridingStation .on 3 .good).holdUp.running = true ∧
      (station .on 3 .good).holdUp.running = false ∧
      (ridingStation .on 3 .good).notices.breakDrive = none := by
  unfold State.noRiseFirst; decide

/-- A rail of down phase N that dips, one that serves, one that is SHED, and one of another down
phase whose timer stands. -/
theorem witness_NoticeBringsTheDescent_rails :
    let low := (ridingStation .on 3 .good).setFilter 0 ⟨some .low, none, 0⟩
    let s := ridingStation .rising 1 .ramping
    let other := { s with table := s.table.set 0 { entry with downPhase := 2 } }
    let dark :=
      { other with
        rails := other.rails.set 0 (railIn .dimWait)
        dim := { other.dim with ceiling := .unlimited } }
    low.ctl.ride = true ∧ low.dips 0 ∧ (low.entry 0).downPhase = settings.phaseCount ∧
      ((station .on 3 .good).rail 0).state.serving = true ∧
      ((ridingStation .on 3 .shed).rail 0).state = .shed ∧
      (other.entry 0).downPhase ≠ settings.phaseCount ∧ (other.rail 0).state = .ramping ∧
      (dark.rail 0).state = .dimWait ∧ dark.holdUp.running = true ∧
      dark.settings.roles.backlight = true ∧ dark.dim.ceiling ≠ .limited 0 := by
  unfold State.dips; decide

theorem witness_NoticeOutsideTheActiveModesIsRecorded :
    (station .off 0 .off).seq.mode.active = false ∧
      (waitStation .restTime .rest).seq.mode = .off ∧
      (waitStation .restTime .rest).seq.wait = .rest ∧
      (station .off 0 .off).seq.wait ≠ .rest ∧
      (station .off 0 .off).cur.firstFault = none ∧
      ((station .off 0 .off).recordFault ⟨.fault, 1, 0, 1⟩).cur.firstFault ≠ none := by decide

theorem witness_MainsOkEndsTheSag :
    (ridingStation .on 3 .good).seq.lead = some (Notice.mk .mainsOk 1 3 0).sender ∧
      (station .on 3 .good).seq.lead ≠ some 1 ∧ (waitStation .restTime .mains).seq.wait = .mains ∧
      ((ridingStation .on 3 .shed).rail 0).state = .shed ∧
      ((ridingStation .on 3 .shed).entry 0).present = true ∧
      (ridingStation .on 3 .shed).zone 0 ≠ some .high ∧
      ((ridingStation .on 3 .shed).setFilter 0 ⟨some .high, none, 0⟩).zone 0 = some .high ∧
      ((ridingStation .rising 1 .settling).rail 0).state = .settling := by decide

theorem witness_RiseNoticeActsByMode :
    (station .off 0 .off).seq.mode = .off ∧ (Notice.mk .rise 1 0 0).arg1 = 0 ∧
      (station .off 0 .off).line.claimed = false ∧
      (station .lockout 0 .off).seq.mode = .lockout ∧
      (station .descending 2 .falling).seq.mode = .descending ∧
      (station .off 0 .off).front.pwrReq.level = false := by decide

theorem witness_RollFillsTheRoster :
    (station .rollcall 0 .off).inRollcall = true ∧ (station .on 3 .good).inRollcall = false ∧
      (station .on 3 .good).seq.mode.active = true ∧
      (station .off 0 .off).seq.mode.active = false ∧
      (Notice.mk .roll 1 0x80 0x31).sender ≠ settings.number ∧
      (Notice.mk .roll 2 0x80 0x31).sender = settings.number ∧
      (station .rollcall 0 .off).rosterEntry 1 = none ∧
      ((0x31 : Byte).toNat / 16 = settings.phaseCount ∧
        (0x31 : Byte).toNat % 4 = settings.retryLimit) := by decide

theorem witness_TallyComparesTheSignature :
    (station .on 3 .good).seq.mode = .on ∧
      (255 : Byte) ++ (255 : Byte) = (station .on 3 .good).seq.tally ∧
      (255 : Byte) ++ (0 : Byte) ≠ (station .on 3 .good).seq.tally := by decide

/-! ### Witnesses: dimming, status port and invariants -/

/-- A boundary that is due, in a setting of the ceiling, with a ramp index and a lift floor. -/
def boundaryStation (c : CeilingSetting) (j : Nat) (floor : Ceiling) (cap : Option Nat) : State :=
  { rampStation with
    dim :=
      { rampStation.dim with
        setting := c, rampIndex := j, liftFloor := floor, capLimit := cap
        boundaryLeft := some 0 } }

/-- Each setting: ramp and lift at their last step below the ramp and at its end, cap with and
without a limit, zero and full. -/
theorem witness_PeriodBoundaryFixesTheOutput :
    rampStation.loaded = true ∧ rampStation.settings.roles.backlight = true ∧
      State.reset.loaded = false ∧ rampStation.dim.boundaryLeft ≠ some 0 ∧
      (boundaryStation .ramp 2 (.limited 0) none).dim.boundaryLeft = some 0 ∧
      2 + 1 < settings.rampPeriods ∧ settings.rampPeriods ≤ 3 + 1 ∧
      (boundaryStation .ramp 3 (.limited 0) none).boundary.dim.ceiling = .unlimited ∧
      (boundaryStation .lift 2 (.limited 4000) none).boundary.dim.ceiling = .limited 4000 ∧
      (boundaryStation .lift 0 .unlimited none).boundary.dim.setting = .full ∧
      (boundaryStation .cap 0 (.limited 0) (some 7)).boundary.dim.ceiling = .limited 7 ∧
      (boundaryStation .cap 0 (.limited 0) none).boundary.dim.ceiling = .limited 2000 ∧
      (boundaryStation .zero 0 (.limited 0) none).boundary.dim.active = false ∧
      (boundaryStation .full 0 (.limited 0) none).boundary.dim.activeLeft = some 3000 ∧
      ((station .descending 3 .dimWait).rail 0).state = .dimWait := by decide

theorem witness_CommandBytesTakeTheirSnapshot :
    ([] <+: byteBits 0xA1) ∧ (byteBits 0xA5).take 8 = byteBits 0xA5 ∧
      (0x37 : Byte) ∉ knownCodes ∧
      ({ State.reset with port := .command [true] }).port = .command [true] ∧
      (station .on 3 .good).seq.phase ≤ 15 ∧ (station .on 3 .good).seq.attempts ≤ 4 ∧
      (station .on 3 .good).loader.detail ≤ 15 ∧
      ((station .on 3 .good).entry 0).present = true ∧
      ((station .on 3 .good).entry 1).present = false ∧
      ((station .on 3 .good).putEntry (ownEntry settings 0)).rosterEntry 2 =
        some (ownEntry settings 0) := by decide

theorem witness_ExchangeMovesBitByBit :
    State.reset.loader.rstAsserted = false ∧ State.reset.port = .idle ∧
      ((byteBits 0xA1).take 7).length = 7 ∧ ((byteBits 0xA1).take 6).length < 7 ∧
      byteBits 0xA1 = (byteBits 0xA1).take 7 ++ [true] ∧
      byteBits 0x37 = (byteBits 0x37).take 7 ++ [true] := by decide

/-- The outputs in ON, in RIDING, in UNCONFIGURED and before a load. -/
theorem witness_OutputPinsFollowTheState :
    (station .on 3 .good).lgood = true ∧ (station .riding 3 .ramping).lgood = false ∧
      (station .on 3 .good).loaded = true ∧ State.reset.seq.mode = .loading ∧
      ((station .on 3 .good).entry 0).present = true ∧
      ((station .on 3 .good).rail 0).applied ≠ ((station .on 3 .good).entry 0).activeLow ∧
      (station .unconfigured 0 .off).alertPin = .low ∧
      (station .unconfigured 0 .off).mutePin = .high ∧
      (station .on 3 .good).boundary.dimOutPin = .low ∧
      (sender 0).sendIfFree.offeredSlots = some (Notice.mk .fall 2 3 0).slots ∧
      State.reset.readsImage = true ∧ (station .on 3 .good).readsImage = false := by
  decide +kernel

/-- A station in a read, `t` ticks after it began. -/
def readingAt (t : Nat) : State :=
  { State.reset with loader := { State.reset.loader with busTicks := t } }

/-- The first clocks, the stop and the start of a read, at the ends of their ticks. -/
theorem witness_OutputPinsFollowTheState_read :
    (∀ t, (readingAt t).readsImage = true) ∧ (readingAt 0).sclPin = .low ∧
      (readingAt 89).sclPin = .highImpedance ∧ (readingAt 95).sdaPin = .low ∧
      (readingAt 99).sdaPin = .low ∧ (readingAt 100).sdaPin = .highImpedance ∧
      (readingAt 109).sdaPin = .highImpedance ∧ (readingAt 110).sdaPin = .low ∧
      (readingAt 114).sclPin = .highImpedance :=
  ⟨fun _ => rfl, by decide +kernel⟩

/-- A station in ON meets the premises of every invariant. -/
theorem witness_EveryStepKeepsThePhaseLegal : (station .on 3 .good).phaseLegal :=
  ⟨by unfold State.linkMatchesMode; decide, ⟨by decide, by decide⟩, by decide⟩

theorem witness_EveryStepKeepsTheRailsCoherent :
    (station .on 3 .good).railsCoherent ∧ (station .on 3 .good).absentRailsOff := by
  unfold State.railsCoherent State.absentRailsOff Rail.coherent; decide

theorem witness_EveryStepKeepsClaimsAndReport :
    (station .on 3 .good).claimsOnlyInClaimingModes ∧
      (station .on 3 .good).reportMatchesCeiling := by
  unfold State.claimsOnlyInClaimingModes State.reportMatchesCeiling; decide

/-- A station that is FREE with no notice pending. -/
theorem witness_EveryStepKeepsClaimsAndReport_sends :
    ({ station .on 3 .good with
      notices := { State.reset.notices with link := .free } }).sendsWhenFree := by
  intro _ k
  cases k <;> rfl

theorem witness_EveryStepKeepsTheCountsBounded :
    (station .on 3 .good).attemptsBounded ∧ (sender 2).resendsBounded ∧
      (station .on 3 .good).filtersSound := by
  refine ⟨by unfold State.attemptsBounded; decide, ⟨fun k p h => ?_, fun f h => ?_⟩, ?_⟩
  · cases k <;> cases h
    exact Nat.le_refl 2
  · cases h
  · refine ⟨fun i => Or.inl ?_, Or.inl ?_, Or.inl ?_, Or.inl ?_, Or.inl ?_⟩
    · revert i; decide
    all_goals decide

theorem witness_EveryStepKeepsTheRosterOrdered :
    ((station .on 3 .good).putEntry (ownEntry settings 0)).rosterOrdered := by
  refine ⟨by unfold State.linkMatchesMode; decide, by decide, fun _ => ?_⟩
  exact ⟨ownEntry settings 0, by decide, rfl⟩

/-! ### Single steps -/

/-- A station `t` ticks after the first edge of the frame it sends. -/
def sendingAt (t : Nat) : State :=
  let s := (sender 0).sendIfFree
  { s with notices := { s.notices with drive := { s.notices.drive with ticks := t } } }

/-- A station `t` ticks after the first edge of a frame of another, received as `slots`. -/
def heardAt (slots : List Bool) (t : Nat) : State :=
  { station .on 3 .good with
    notices := { State.reset.notices with link := .frame ⟨slots, false⟩, drive := ⟨t, []⟩ } }

/-- FALL from station 2 begins with 0100: 6 µs of slot 1 and 2 µs of slot 2 are dominant; slot 33
is `1` of the sender, and of a receiver by the check (R63, R70). -/
theorem witness_OutputPinsFollowTheState_data :
    [0, 5, 6, 7, 8, 9, 10, 16].map (fun t => (sendingAt t).dataPin) =
        [.low, .low, .highImpedance, .highImpedance, .low, .low, .highImpedance, .low] ∧
      [256, 257, 258, 264].map (fun t => (sendingAt t).dataPin) =
        [.low, .low, .highImpedance, .highImpedance] ∧
      [8, 256, 257, 258].map (fun t => (heardAt foreignSlots t).dataPin) =
        [.highImpedance, .low, .low, .highImpedance] ∧
      [257, 258, 261, 262].map (fun t => (heardAt (foreignSlots.set 20 true) t).dataPin) =
        [.low, .low, .low, .highImpedance] ∧
      (heardAt (foreignSlots.take 31) 256).dataPin = .highImpedance ∧
      (station .on 3 .good).dataPin = .highImpedance ∧
      (station .on 3 .good).issueBreak.dataPin = .low := by
  decide +kernel

/-- A sender that loses slot 2 drives its 2 µs there and nothing after; one whose `0` of slot 1
reads recessive stops at the sample (R69, R74). -/
theorem test_drive_of_a_sender_that_stops :
    let s := (sender 0).sendIfFree
    let sent := (Notice.mk .fall 2 3 0).slots
    (s.hearFrame (sent.set 1 false)).notices.drive.micros = [6, 2] ∧
      (s.hearFrame (sent.set 0 true)).notices.drive.micros = [4] ∧
      (s.hearFrame sent).notices.drive = s.notices.drive := by
  decide +kernel

/-- What the outside sees first on SCL and SDA in a read: nine clock pulses with SDA released, a
stop, a start, and the address byte 0xA8 while SCL is high, with its acknowledge clock left to
the memory (R161, R162). -/
theorem test_bus_of_the_serial_memory :
    ((List.range 9).map fun k => busLevels (10 * k + 4)) = List.replicate 9 (false, true) ∧
      ((List.range 9).map fun k => busLevels (10 * k + 5)) = List.replicate 9 (true, true) ∧
      [99, 100].map busLevels = [(true, false), (true, true)] ∧
      [109, 110, 115].map busLevels = [(true, true), (true, false), (false, false)] ∧
      ((List.range 9).map fun k => (busLevels (115 + 10 * k + 7)).2) = byteBits 0xA8 ++ [true] := by
  decide +kernel

/-- RST lets go of SCL and SDA in the middle of a read. -/
theorem test_rst_frees_the_bus :
    State.reset.sclPin = .low ∧ State.reset.heldInReset.sclPin = .highImpedance ∧
      State.reset.heldInReset.sdaPin = .highImpedance := by decide

/-- A notice queued on a free line goes out at once, and no lower kind queued later takes its
place (R66). -/
theorem test_first_slot_at_once :
    let s := (sender 0).sendIfFree.queueNotice .sag 3 4
    s.sendIfFree.notices.inFlight = some ⟨.fall, ⟨3, 0, 0⟩, false⟩ ∧
      s.sendIfFree.pendingOf .sag = some ⟨3, 4, 0⟩ := by decide

/-- The station's own BREAK on a free line: the over-long slot ends its frame after 8 µs, and the
detection follows 32 µs after the drive began (R64, R65, R82). -/
theorem test_own_break_from_free :
    let b := ({ station .on 3 .good with
      notices := { State.reset.notices with link := .free } }).issueBreak
    let left : Nat → State := fun n =>
      { b with notices := { b.notices with breakDrive := some n } }
    b.notices.link = .frame ⟨[], false⟩ ∧ b.overlongDue = false ∧
      (left 40).overlongDue = true ∧ (left 17).endFrame.ownBreakDue = false ∧
      (left 16).endFrame.ownBreakDue = true := by decide

/-- Three LOW samples of a GOOD rail in ON: the third is a rail fault DIP. -/
theorem test_third_low_sample_is_a_dip :
    let s1 := goodStation.sampleRail 500000 0
    let s3 := (s1.sampleRail 500000 0).sampleRail 500000 0
    (s1.rail 0).glitches = 1 ∧ (s1.rail 0).state = .good ∧ (s3.rail 0).state = .falling ∧
      (s3.rail 0).faultReason = some .dip ∧ s3.pendingOf .fault = some ⟨0, 2, 0⟩ := by decide

/-- The sample clock of 2 µs: one sample at an instant, no second one, and the next after two
ticks (R22). -/
theorem test_sample_clock :
    let s := goodStation.startSample darkLevels
    goodStation.sampleDue = true ∧ s.sampleDue = false ∧ s.tick.sampleDue = false ∧
      s.tick.tick.sampleDue = true ∧ (s.seeDimIn true).dimInSampleDue = false ∧
      (s.seeDimIn true).tick.dimInSampleDue = true := by decide

/-- EN and DIS of a rail in GOOD and in FALLING with discharge. -/
theorem test_pins_of_a_rail :
    (station .on 3 .good).enPin 0 = .high ∧ (station .descending 3 .falling).enPin 0 = .low ∧
      (station .on 3 .good).enPin 1 = .highImpedance ∧
      (station .on 3 .good).disPin 1 = .low := by decide

/-- The interface gives no bits to a row. -/
theorem test_no_word_spells_a_command : decodeTableWord 8 0xA1 = none := rfl

end Sys2Proof.Tests
end

/-! Shed (R9): what the operation does to the rail it names, and that a SHED rail takes no zone
event. -/

namespace Sys2Proof.Machine

/-! ### One rail written and read back -/

@[simp] theorem State.rail_setRail_self (s : State) (i : Fin 8) (r : Rail) :
    (s.setRail i r).rail i = r := by
  simp [State.rail, State.setRail]

theorem RailState.serving_iff (st : RailState) :
    st.serving = true ↔ st = .ramping ∨ st = .settling ∨ st = .good := by
  simp [RailState.serving, or_assoc]

/-! ### The enable (R4) -/

@[simp] theorem Rail.applyEnable_applied (e : RailEntry) (level : Bool) (r : Rail) :
    (r.applyEnable e level).applied = level := by
  unfold Rail.applyEnable; split
  case isTrue same => exact same
  case isFalse => rfl

@[simp] theorem Rail.applyEnable_dischargeRequest (e : RailEntry) (level : Bool) (r : Rail) :
    (r.applyEnable e level).dischargeRequest = r.dischargeRequest := by
  unfold Rail.applyEnable; split <;> rfl

/-- A serving rail asks for no discharge (R4). -/
theorem Rail.coherent.dischargeRequest_of_serving {r : Rail} (h : r.coherent)
    (serves : r.state.serving = true) : r.dischargeRequest = false := by
  obtain ⟨-, -, -, -, discharges⟩ := h
  rw [RailState.serving_iff] at serves
  by_contra asks
  rcases discharges (by simpa using asks) with falls | falls <;> simp [falls] at serves

/-! ### Shed (R9) -/

/-- The rails that the shed of R9 moves: of the table, with the shed flag, and serving. -/
def State.Sheds (s : State) (i : Fin 8) : Prop :=
  (s.entry i).present = true ∧ (s.entry i).sheddable = true ∧ (s.rail i).state.serving = true

/-- A rail as shed leaves it. -/
def Rail.shedOff (e : RailEntry) (r : Rail) : Rail :=
  { r.applyEnable e false with
    state := .shed, timer := .stopped, restoring := false, requested := false }

theorem State.shed_of_sheds {s : State} {i : Fin 8} (h : s.Sheds i) :
    s.shed i = s.setRail i ((s.rail i).shedOff (s.entry i)) := by
  obtain ⟨present, sheddable, serves⟩ := h
  simp [State.shed, State.modifyRail, Rail.shedOff, present, sheddable, serves]

theorem State.shed_of_not_sheds {s : State} {i : Fin 8} (h : ¬s.Sheds i) : s.shed i = s := by
  unfold State.shed
  exact if_neg (by simpa [State.Sheds, and_assoc] using h)

theorem State.shed_applied {s : State} {i : Fin 8} (h : s.Sheds i) :
    ((s.shed i).rail i).applied = false := by
  simp [State.shed_of_sheds h, Rail.shedOff]

theorem State.shed_dischargeRequest {s : State} {i : Fin 8} (h : s.Sheds i)
    (coherent : (s.rail i).coherent) : ((s.shed i).rail i).dischargeRequest = false := by
  have ⟨_, _, serves⟩ := h
  have asksNot := coherent.dischargeRequest_of_serving serves
  simp [State.shed_of_sheds h, Rail.shedOff, asksNot]

/-- SHED takes no zone event (R9). -/
theorem State.zoneEvent_of_shed {s : State} {i : Fin 8} (h : (s.rail i).state = .shed)
    (z : Zone) : s.zoneEvent i z = s := by
  cases z with
  | good => simp [State.zoneEvent, State.zoneGood, h]
  | high => simp [State.zoneEvent, State.zoneHigh, h]
  | low => simp [State.zoneEvent, State.zoneLow, h]
  | off => simp [State.zoneEvent, State.zoneLow, h]

end Sys2Proof.Machine

namespace Sys2Proof

open Machine

/-- Settles O16, by whether the rail is one that R9 sheds. -/
theorem shedOfARail : Obligations.ShedOfARail := by
  intro s i
  simp only [← RailState.serving_iff]
  exact ⟨State.shed_of_not_sheds,
    fun h => ⟨State.shed_of_sheds h, State.shed_applied h, State.shed_dischargeRequest h⟩,
    fun z h => State.zoneEvent_of_shed h z⟩

end Sys2Proof

/-! The filter of a sampled input (R25) and the raw class of MSNS (R24). -/

namespace Sys2Proof.Machine

/-! ### One sample through a filter: an equation per row of R25 -/

section FilterRows

variable {α : Type} [DecidableEq α] {raw : α} {f : Filter α}

/-- A sample that agrees with the accepted value ends a candidate's run. -/
theorem Filter.sample_of_accepted (bypass : Bool) (h : f.accepted = some raw) :
    f.sample bypass raw = (⟨f.accepted, none, 0⟩, none) :=
  if_pos h

theorem Filter.sample_of_bypass (h : f.accepted ≠ some raw) :
    f.sample true raw = (⟨some raw, none, 0⟩, some raw) :=
  if_neg h

theorem Filter.sample_of_new_candidate (h : f.accepted ≠ some raw)
    (new : f.candidate ≠ some raw) :
    f.sample false raw = (⟨f.accepted, some raw, 1⟩, none) := by
  simp [Filter.sample, h, new]

theorem Filter.sample_of_second (h : f.accepted ≠ some raw) (same : f.candidate = some raw)
    (run : f.run = 1) : f.sample false raw = (⟨f.accepted, some raw, 2⟩, none) := by
  simp [Filter.sample, h, same, run]

theorem Filter.sample_of_third (h : f.accepted ≠ some raw) (same : f.candidate = some raw)
    (run : f.run ≠ 1) : f.sample false raw = (⟨some raw, none, 0⟩, some raw) := by
  simp [Filter.sample, h, same, run]

/-- The third of three consecutive samples that agree on a new value is the one at which it is
accepted (R25). -/
theorem Filter.sample_three_times (h : f.accepted ≠ some raw) (new : f.candidate ≠ some raw) :
    ((f.sample false raw).1.sample false raw).1.sample false raw =
      (⟨some raw, none, 0⟩, some raw) := by
  have first := Filter.sample_of_new_candidate h new
  have second : (⟨f.accepted, some raw, 1⟩ : Filter α).sample false raw =
      (⟨f.accepted, some raw, 2⟩, none) := Filter.sample_of_second h rfl rfl
  rw [first, second]
  exact Filter.sample_of_third h rfl (Nat.succ_ne_self 1)

/-- A sample with which the filter accepts nothing leaves the accepted value. -/
theorem Filter.sample_accepted_of_none {bypass : Bool} (h : (f.sample bypass raw).2 = none) :
    (f.sample bypass raw).1.accepted = f.accepted := by
  by_cases known : f.accepted = some raw
  · rw [Filter.sample_of_accepted bypass known]
  cases bypass with
  | true => simp [Filter.sample_of_bypass known] at h
  | false =>
    by_cases same : f.candidate = some raw
    · by_cases run : f.run = 1
      · rw [Filter.sample_of_second known same run]
      · simp [Filter.sample_of_third known same run] at h
    · rw [Filter.sample_of_new_candidate known same]

end FilterRows

/-- A BAND sample keeps the accepted mains zone, with the bypass or without it (R26, R27). -/
theorem Filter.sampleMains_band (bypass : Bool) (f : Filter MainsZone) :
    f.sampleMains bypass none = (f.band, none) := rfl

/-! ### The raw class of MSNS (R24) -/

section MainsClasses

variable {c : Settings} {v : Nat}

theorem classifyMains_of_lt_sag (h : v < c.mainsSag * Config.stepMicrovolts) :
    classifyMains c v = some .sag :=
  if_pos h

theorem classifyMains_of_between (low : c.mainsSag * Config.stepMicrovolts ≤ v)
    (high : v ≤ c.mainsRecover * Config.stepMicrovolts) : classifyMains c v = none := by
  simp [classifyMains, Nat.not_lt.mpr low, high]

/-- With the thresholds in order, a voltage above the recover threshold is not below the sag
threshold. -/
theorem classifyMains_of_recover_lt (order : c.mainsSag < c.mainsRecover)
    (h : c.mainsRecover * Config.stepMicrovolts < v) : classifyMains c v = some .ok := by
  have aboveSag : c.mainsSag * Config.stepMicrovolts ≤ v :=
    (Nat.mul_le_mul_right _ order.le).trans h.le
  simp [classifyMains, Nat.not_lt.mpr aboveSag, Nat.not_le.mpr h]

end MainsClasses

/-! ### The mains thresholds of an image (R163, R164) -/

theorem imageByte_le (image : List Byte) (k : Nat) : imageByte image k ≤ 255 :=
  Nat.le_of_lt_succ (image.getD k 0).isLt

/-- The loader accepts an image exactly where every check of R164 passes. -/
theorem checkImage_eq_none_iff (image : List Byte) (p : BitVec 2) :
    checkImage image p = none ↔
      (imageByte image 0 = 0x5C ∧ imageByte image 1 = 0x40) ∧ imageByte image 2 = 1 ∧
        imageCheckMatches image = true ∧ natBit (imageByte image 15) p.toNat = true ∧
        stationInRange image = true ∧ profileInRange image p = true ∧
        railChecks image p = none := by
  simp only [checkImage, ite_eq_iff, reduceCtorEq, and_false, false_or, not_not, ne_eq,
    Bool.not_eq_false]

/-- Check 6 has the thresholds of a MAINS station in order. -/
theorem mainsSag_lt_mainsRecover_of_profileInRange {image : List Byte} {p : BitVec 2}
    (inRange : profileInRange image p = true)
    (mains : (imageSettings image p).roles.mains = true) :
    (imageSettings image p).mainsSag < (imageSettings image p).mainsRecover := by
  obtain ⟨-, -, -, -, -, -, -, -, -, thresholds⟩ := (profileInRange_iff image p).mp inRange
  exact thresholds mains

theorem checkImage_ne_none_of_mainsRecover_le {image : List Byte} {p : BitVec 2}
    (mains : (imageSettings image p).roles.mains = true)
    (disorder : (imageSettings image p).mainsRecover ≤ (imageSettings image p).mainsSag) :
    checkImage image p ≠ none := by
  intro accepted
  obtain ⟨-, -, -, -, -, inRange, -⟩ := (checkImage_eq_none_iff image p).mp accepted
  exact disorder.not_gt (mainsSag_lt_mainsRecover_of_profileInRange inRange mains)

end Sys2Proof.Machine

namespace Sys2Proof

open Machine

/-- Settles O10, a row of R25 at a time. -/
theorem railFilterFollowsItsTable : Obligations.RailFilterFollowsItsTable := by
  intro raw f
  refine ⟨Filter.sample_of_accepted false,
    fun other => ⟨Filter.sample_of_second other, fun same run => ?_,
      Filter.sample_of_new_candidate other, Filter.sample_three_times other⟩,
    Filter.sample_accepted_of_none⟩
  exact Filter.sample_of_third other same (by omega)

/-- Settles O11: the classes of R24, the BAND sample, and check 6 of the loader. -/
theorem mainsClassesFollowTheirTable : Obligations.MainsClassesFollowTheirTable := by
  refine ⟨fun c v => ?classes, fun bypass f => ?band, fun image p => ?thresholds⟩
  case classes =>
    exact ⟨classifyMains_of_lt_sag, classifyMains_of_between, classifyMains_of_recover_lt⟩
  case band =>
    rw [Filter.sampleMains_band]
    exact ⟨rfl, rfl⟩
  case thresholds =>
    exact ⟨imageByte_le image _, imageByte_le image _, checkImage_ne_none_of_mainsRecover_le⟩

end Sys2Proof

/-! The rails one at a time: a rail written and read back, when a rail may stand at its place, and
that every operation of the rail controller leaves the rails so. -/

namespace Sys2Proof.Machine

/-! ### Rails written and read back -/

theorem State.rail_setRail (s : State) (i j : Fin 8) (r : Rail) :
    (s.setRail i r).rail j = if j = i then r else s.rail j := by
  by_cases same : j = i
  · simp [same]
  · have apart : i.val ≠ j.val := fun h => same (Fin.ext h.symm)
    simp [State.rail, State.setRail, same, apart]

theorem State.rail_setRail_other (s : State) {i j : Fin 8} (r : Rail) (apart : j ≠ i) :
    (s.setRail i r).rail j = s.rail j := by
  rw [s.rail_setRail, if_neg apart]

theorem State.rail_modifyRail_other (s : State) {i j : Fin 8} (f : Rail → Rail) (apart : j ≠ i) :
    (s.modifyRail i f).rail j = s.rail j :=
  s.rail_setRail_other _ apart

@[simp] theorem State.rail_modifyRail_self (s : State) (i : Fin 8) (f : Rail → Rail) :
    (s.modifyRail i f).rail i = f (s.rail i) :=
  s.rail_setRail_self i _

@[simp] theorem State.setRail_setRail (s : State) (i : Fin 8) (a b : Rail) :
    (s.setRail i a).setRail i b = s.setRail i b := by
  simp [State.setRail]

@[simp] theorem State.setRail_rail (s : State) (i : Fin 8) : s.setRail i (s.rail i) = s := by
  simp [State.setRail, State.rail]

@[simp] theorem State.modifyRail_setRail (s : State) (i : Fin 8) (r : Rail) (f : Rail → Rail) :
    (s.setRail i r).modifyRail i f = s.setRail i (f r) := by
  simp [State.modifyRail]

/-! ### What a state shows of its parts -/

theorem State.rail_congr {s t : State} (h : t.rails = s.rails) (i : Fin 8) :
    t.rail i = s.rail i := by
  simp [State.rail, h]

theorem State.entry_congr {s t : State} (h : t.table = s.table) (i : Fin 8) :
    t.entry i = s.entry i := by
  simp [State.entry, h]

theorem State.zone_congr {s t : State} (h : t.front = s.front) (i : Fin 8) :
    t.zone i = s.zone i := by
  simp [State.zone, h]

theorem State.urgent_congr {s t : State} (h : t.holdUp = s.holdUp) : t.urgent = s.urgent := by
  simp [State.urgent, h]

theorem State.loaded_congr {s t : State} (h : t.seq.mode = s.seq.mode) : t.loaded = s.loaded := by
  simp [State.loaded, h]

@[simp] theorem State.entry_setRail (s : State) (i j : Fin 8) (r : Rail) :
    (s.setRail i r).entry j = s.entry j := rfl

@[simp] theorem State.entry_modifyRail (s : State) (i j : Fin 8) (f : Rail → Rail) :
    (s.modifyRail i f).entry j = s.entry j := rfl

@[simp] theorem State.zone_setRail (s : State) (i j : Fin 8) (r : Rail) :
    (s.setRail i r).zone j = s.zone j := rfl

@[simp] theorem State.zone_modifyRail (s : State) (i j : Fin 8) (f : Rail → Rail) :
    (s.modifyRail i f).zone j = s.zone j := rfl

@[simp] theorem State.urgent_setRail (s : State) (i : Fin 8) (r : Rail) :
    (s.setRail i r).urgent = s.urgent := rfl

@[simp] theorem State.urgent_modifyRail (s : State) (i : Fin 8) (f : Rail → Rail) :
    (s.modifyRail i f).urgent = s.urgent := rfl

@[simp] theorem State.loaded_setRail (s : State) (i : Fin 8) (r : Rail) :
    (s.setRail i r).loaded = s.loaded := rfl

@[simp] theorem State.loaded_modifyRail (s : State) (i : Fin 8) (f : Rail → Rail) :
    (s.modifyRail i f).loaded = s.loaded := rfl

/-! ### The loop over the rails -/

/-- What each turn keeps the loop keeps. -/
theorem State.forEachRail_keeps {P : State → Prop} {f : Fin 8 → State → State}
    (turn : ∀ i u, P u → P (f i u)) (s : State) (h : P s) : P (s.forEachRail f) := by
  have loop : ∀ (l : List (Fin 8)) (u : State), P u → P (l.foldl (fun t i => f i t) u) := by
    intro l
    induction l with
    | nil => exact fun _ hu => hu
    | cons i l ih => exact fun u hu => ih _ (turn i u hu)
  exact loop railIndices s h

/-! ### A rail's record and its state -/

section Coherence

variable {r : Rail}

theorem Rail.coherent_fall (e : RailEntry) (urgent : Bool) (r : Rail) :
    (r.fall e urgent).coherent := by
  simp [Rail.coherent, Rail.fall, RailState.enabled, RailState.isOn, RailState.timed,
    OneShot.start]

theorem Rail.coherent_toOff (released : r.applied = false) : r.toOff.coherent := by
  simp [Rail.coherent, Rail.toOff, RailState.enabled, RailState.isOn, RailState.timed, released]

/-- A rail whose enable is not applied in its state goes to OFF with a record that agrees. -/
theorem Rail.coherent.toOff (h : r.coherent) (released : r.state.enabled = false) :
    r.toOff.coherent :=
  Rail.coherent_toOff (h.1.trans released)

/-- A timer that stands, runs on or is shortened is as stopped as it was. -/
theorem Rail.coherent.retimed (h : r.coherent) {timer : OneShot}
    (same : timer = .stopped ↔ r.timer = .stopped) : { r with timer := timer }.coherent := by
  obtain ⟨applied, requested, timed, restoring, discharge⟩ := h
  exact ⟨applied, requested, same.trans timed, restoring, discharge⟩

/-- A rail that is requested on and asks for no discharge, with its enable applied, in RAMPING or
SETTLING under a timer. -/
theorem Rail.coherent_raised {e : RailEntry} {st : RailState} {timer : OneShot}
    (rises : st = .ramping ∨ st = .settling) (timed : timer ≠ .stopped)
    (requested : r.requested = true) (quiet : r.dischargeRequest = false) :
    { r.applyEnable e true with state := st, timer := timer }.coherent := by
  have wanted : (r.applyEnable e true).requested = true := by
    unfold Rail.applyEnable; split <;> exact requested
  rcases rises with rfl | rfl <;>
    simp [Rail.coherent, RailState.enabled, RailState.isOn, RailState.timed, wanted, quiet, timed]

end Coherence

@[simp] theorem OneShot.pause_eq_stopped (c : OneShot) : c.pause = .stopped ↔ c = .stopped := by
  cases c <;> simp [OneShot.pause]

@[simp] theorem OneShot.resume_eq_stopped (c : OneShot) : c.resume = .stopped ↔ c = .stopped := by
  cases c <;> simp [OneShot.resume]

@[simp] theorem OneShot.shorten_eq_stopped (n : Nat) (c : OneShot) :
    c.shorten n = .stopped ↔ c = .stopped := by
  cases c <;> simp [OneShot.shorten]

@[simp] theorem OneShot.tick_eq_stopped (c : OneShot) : c.tick = .stopped ↔ c = .stopped := by
  cases c <;> simp [OneShot.tick]

theorem State.railTimer_ne_stopped (s : State) (units : Nat) : s.railTimer units ≠ .stopped := by
  unfold State.railTimer; split <;> simp [OneShot.start, OneShot.startHeld]

/-! ### Rails that may stand where they stand -/

/-- Rail `r` may stand at place `i`: its record agrees with its state, and it is OFF where the rail
is not present or no load has succeeded. -/
def State.railFits (s : State) (i : Fin 8) (r : Rail) : Prop :=
  r.coherent ∧ ((s.entry i).present = false ∨ s.loaded = false → r.state = .off)

/-- Every rail may stand where it stands (R2, R4, R5, R40). -/
def State.railsFine (s : State) : Prop :=
  ∀ i : Fin 8, s.railFits i (s.rail i)

/-- Every rail but `i` may stand where it stands. -/
def State.railsFineBut (s : State) (i : Fin 8) : Prop :=
  ∀ j : Fin 8, j ≠ i → s.railFits j (s.rail j)

theorem State.railsFine_iff (s : State) : s.railsFine ↔ s.railsCoherent ∧ s.absentRailsOff :=
  ⟨fun h => ⟨fun i => (h i).1, fun i => (h i).2⟩, fun h i => ⟨h.1 i, h.2 i⟩⟩

theorem State.railsFine.but {s : State} (h : s.railsFine) (i : Fin 8) : s.railsFineBut i :=
  fun j _ => h j

theorem State.railFits.of_present {s : State} {i : Fin 8} {r : Rail} (h : r.coherent)
    (present : (s.entry i).present = true) (loaded : s.loaded = true) : s.railFits i r :=
  ⟨h, by simp [present, loaded]⟩

theorem State.railFits.congr {s t : State} {i : Fin 8} {r : Rail} (h : s.railFits i r)
    (table : t.table = s.table) (loaded : t.loaded = s.loaded) : t.railFits i r := by
  unfold State.railFits
  rw [State.entry_congr table, loaded]
  exact h

theorem State.railsFine.congr {s t : State} (h : s.railsFine) (rails : t.rails = s.rails)
    (table : t.table = s.table) (loaded : t.loaded = s.loaded) : t.railsFine := by
  intro i
  rw [State.rail_congr rails]
  exact (h i).congr table loaded

theorem RailFrame.loaded {s t : State} (f : RailFrame s t) : t.loaded = s.loaded :=
  State.loaded_congr (congrArg Sequence.mode f.seq)

theorem State.railsFine.withCtl {s : State} (h : s.railsFine) (c : RailControl) :
    ({ s with ctl := c }).railsFine := h.congr rfl rfl rfl

theorem State.railsFine.withDim {s : State} (h : s.railsFine) (d : Dimming) :
    ({ s with dim := d }).railsFine := h.congr rfl rfl rfl

/-- A rail that is not OFF is present at a station that has loaded. -/
theorem State.railsFine.on {s : State} (h : s.railsFine) {i : Fin 8}
    (on : (s.rail i).state ≠ .off) : (s.entry i).present = true ∧ s.loaded = true := by
  obtain ⟨-, off⟩ := h i
  by_contra absent
  simp only [not_and_or, Bool.not_eq_true] at absent
  exact on (off absent)

theorem State.railsFineBut.setRail {s : State} {i : Fin 8} {r : Rail} (h : s.railsFineBut i)
    (fits : s.railFits i r) : (s.setRail i r).railsFine := by
  intro j
  rw [s.rail_setRail]
  split
  case isTrue same => subst same; exact fits
  case isFalse apart => exact h j apart

theorem State.railsFineBut.modifyRail {s : State} {i : Fin 8} {f : Rail → Rail}
    (h : s.railsFineBut i) : (s.modifyRail i f).railsFineBut i := by
  intro j apart
  rw [s.rail_modifyRail_other f apart]
  exact h j apart

/-- A rail that is not OFF may take any record that agrees with its state. -/
theorem State.railsFine.modifyRail {s : State} {i : Fin 8} {f : Rail → Rail} (h : s.railsFine)
    (on : (s.rail i).state ≠ .off) (fits : (f (s.rail i)).coherent) :
    (s.modifyRail i f).railsFine :=
  have ⟨present, loaded⟩ := h.on on
  (h.but i).setRail (.of_present fits present loaded)

/-- A change of a rail's record that its state does not speak of. -/
theorem State.railsFine.modifyRail_of_same {s : State} {i : Fin 8} {f : Rail → Rail}
    (h : s.railsFine) (fits : (f (s.rail i)).coherent)
    (same : (f (s.rail i)).state = (s.rail i).state) : (s.modifyRail i f).railsFine :=
  (h.but i).setRail ⟨fits, fun off => same.trans ((h i).2 off)⟩

/-! ### Every operation leaves the rails fine -/

section Operations

variable {s : State} {i : Fin 8}

theorem State.railsFine.tidyBlankWait (h : s.railsFine) : s.tidyBlankWait.railsFine :=
  have f := RailFrame.tidyBlankWait s
  h.congr (by simp) f.table f.loaded

theorem State.railsFine.joinBlankWait (h : s.railsFine) : s.joinBlankWait.railsFine :=
  have f := RailFrame.joinBlankWait s
  h.congr (by simp) f.table f.loaded

theorem State.railsFine.reportRailFault (h : s.railsFine) (reason : RailReason) :
    (s.reportRailFault i reason).railsFine :=
  have f := RailFrame.reportRailFault i reason s
  h.congr (by simp) f.table f.loaded

theorem State.railsFine.reportRailSag (h : s.railsFine) : s.reportRailSag.railsFine :=
  have f := RailFrame.reportRailSag s
  h.congr (by simp) f.table f.loaded

theorem State.railsFineBut.enterFalling (h : s.railsFineBut i)
    (present : (s.entry i).present = true) (loaded : s.loaded = true) (forced : Bool) :
    (s.enterFalling i forced).railsFine := by
  refine h.setRail (.of_present ?_ present loaded)
  have falls := Rail.coherent_fall (s.entry i) (forced || s.urgent) (s.rail i)
  split
  · exact falls.toOff rfl
  · exact falls

theorem State.railsFine.enterFalling (h : s.railsFine) (on : (s.rail i).state ≠ .off)
    (forced : Bool) : (s.enterFalling i forced).railsFine :=
  have ⟨present, loaded⟩ := h.on on
  (h.but i).enterFalling present loaded forced

theorem State.railsFineBut.railFault (h : s.railsFineBut i)
    (present : (s.entry i).present = true) (loaded : s.loaded = true) (reason : RailReason) :
    (s.railFault i reason).railsFine :=
  (h.modifyRail.enterFalling present loaded true).tidyBlankWait.reportRailFault reason

theorem State.railsFine.railFault (h : s.railsFine) (on : (s.rail i).state ≠ .off)
    (reason : RailReason) : (s.railFault i reason).railsFine :=
  have ⟨present, loaded⟩ := h.on on
  (h.but i).railFault present loaded reason

section Rise

variable (h : s.railsFineBut i) (present : (s.entry i).present = true) (loaded : s.loaded = true)
  (requested : (s.rail i).requested = true) (quiet : (s.rail i).dischargeRequest = false)

include h present loaded requested quiet

theorem State.railsFineBut.enterSettling : (s.enterSettling i).railsFine :=
  h.setRail (.of_present
    (Rail.coherent_raised (.inr rfl) (s.railTimer_ne_stopped _) requested quiet) present loaded)

theorem State.railsFineBut.rampedUp : (s.rampedUp i).railsFine :=
  h.modifyRail.enterSettling present loaded (by simpa [Rail.captureRise] using requested)
    (by simpa [Rail.captureRise] using quiet)

theorem State.railsFineBut.enterRamping : (s.enterRamping i).railsFine := by
  have ramps : (s.modifyRail i fun r =>
      { r.applyEnable (s.entry i) true with
        state := .ramping, timer := s.railTimer (s.entry i).riseLimit }).railsFine :=
    h.setRail (.of_present
      (Rail.coherent_raised (.inl rfl) (s.railTimer_ne_stopped _) requested quiet) present loaded)
  have wanted : ((s.rail i).applyEnable (s.entry i) true).requested = true := by
    unfold Rail.applyEnable; split <;> exact requested
  unfold State.enterRamping; dsimp only
  split
  · exact (ramps.but i).rampedUp present loaded (by simpa using wanted) (by simpa using quiet)
  · exact ramps.railFault (by simp) .over
  all_goals exact ramps

theorem State.railsFineBut.bringUp : (s.bringUp i).railsFine := by
  unfold State.bringUp
  split
  · exact h.enterRamping present loaded requested quiet
  · exact h.enterSettling present loaded requested quiet

end Rise

theorem Rail.coherent.requested_of_isOn {r : Rail} (h : r.coherent) (on : r.state.isOn = true) :
    r.requested = true :=
  h.2.1.trans on

/-- Only a FALLING or a DISCHARGING rail asks for discharge. -/
theorem Rail.coherent.quiet {r : Rail} (h : r.coherent) (falls : r.state ≠ .falling)
    (discharges : r.state ≠ .discharging) : r.dischargeRequest = false := by
  obtain ⟨-, -, -, -, asks⟩ := h
  by_contra request
  exact (asks (by simpa using request)).elim falls discharges

theorem State.railsFine.applyArmed (h : s.railsFine) : (s.applyArmed i).railsFine := by
  unfold State.applyArmed
  split
  case h_1 st =>
    have ⟨present, loaded⟩ := h.on (i := i) (by simp [st])
    have coherent := (h i).1
    exact (h.but i).bringUp present loaded (coherent.requested_of_isOn (by simp [st, RailState.isOn]))
      (coherent.quiet (by simp [st]) (by simp [st]))
  case h_2 st => exact h.enterFalling (by simp [st]) false
  all_goals exact h

theorem State.railsFine.endBlankWait (h : s.railsFine) : s.endBlankWait.railsFine :=
  State.forEachRail_keeps (fun _ _ hu => hu.applyArmed) _ (h.withCtl _)

theorem State.railsFine.vblankEdge (h : s.railsFine) : s.vblankEdge.railsFine := by
  unfold State.vblankEdge
  split
  · exact h.endBlankWait
  · exact h

/-- Only a switch on takes a rail out of OFF, and a station that has loaded gives it. -/
theorem State.railsFine.switchOn (h : s.railsFine) (loaded : s.loaded = true) :
    (s.switchOn i).railsFine := by
  unfold State.switchOn
  split
  case isFalse => exact h
  case isTrue takes =>
    obtain ⟨present, off⟩ : (s.entry i).present = true ∧ (s.rail i).state = .off := by
      simpa using takes
    obtain ⟨applied, -, timer, -, -⟩ := (h i).1
    have quiet := (h i).1.quiet (by simp [off]) (by simp [off])
    dsimp only
    split
    · refine ((h.but i).modifyRail.setRail (.of_present ?_ present loaded)).joinBlankWait
      simp [off, RailState.enabled, RailState.timed] at applied timer
      simp [Rail.coherent, Rail.cleared, RailState.enabled, RailState.isOn, RailState.timed,
        applied, timer, quiet]
    · exact (h.but i).modifyRail.bringUp present loaded (by simp [Rail.cleared])
        (by simpa [Rail.cleared] using quiet)

theorem State.railsFine.switchOffServing (h : s.railsFine)
    (serves : (s.rail i).state.serving = true) : (s.switchOffServing i).railsFine := by
  have on : (s.rail i).state ≠ .off := by rintro off; simp [off, RailState.serving] at serves
  have quiet := (h i).1.dischargeRequest_of_serving serves
  have applied : (s.rail i).applied = true := by
    rw [(h i).1.1]
    rcases (RailState.serving_iff _).mp serves with st | st | st <;> simp [st, RailState.enabled]
  unfold State.switchOffServing; dsimp only
  split
  · refine (h.modifyRail on ?_).joinBlankWait
    simp [Rail.coherent, RailState.enabled, RailState.isOn, RailState.timed, applied, quiet]
  · split
    · refine h.modifyRail on ?_
      simp [Rail.coherent, RailState.enabled, RailState.isOn, RailState.timed, applied, quiet]
    · exact h.enterFalling on false

theorem State.railsFine.toOff (h : s.railsFine) (released : (s.rail i).state.enabled = false) :
    (s.modifyRail i Rail.toOff).railsFine :=
  (h.but i).setRail ⟨(h i).1.toOff released, fun _ => rfl⟩

theorem State.railsFine.switchOff (h : s.railsFine) : (s.switchOff i).railsFine := by
  unfold State.switchOff
  split
  case isFalse => exact h
  case isTrue =>
    split
    case h_1 st => exact (h.toOff (by simp [st, RailState.enabled])).tidyBlankWait
    case h_2 st => exact h.switchOffServing (by simp [st, RailState.serving])
    case h_3 st => exact h.switchOffServing (by simp [st, RailState.serving])
    case h_4 st => exact h.switchOffServing (by simp [st, RailState.serving])
    case h_5 st => exact h.toOff (by simp [st, RailState.enabled])
    all_goals exact h

theorem State.railsFine.shed (h : s.railsFine) : (s.shed i).railsFine := by
  by_cases sheds : s.Sheds i
  · obtain ⟨-, -, serves⟩ := id sheds
    have on : (s.rail i).state ≠ .off := by rintro off; simp [off, RailState.serving] at serves
    have quiet := (h i).1.dischargeRequest_of_serving serves
    have ⟨present, loaded⟩ := h.on on
    rw [State.shed_of_sheds sheds]
    refine (h.but i).setRail (.of_present ?_ present loaded)
    simp [Rail.coherent, Rail.shedOff, RailState.enabled, RailState.isOn, RailState.timed, quiet]
  · rw [State.shed_of_not_sheds sheds]
    exact h

theorem State.railsFine.restore (h : s.railsFine) : (s.restore i).railsFine := by
  unfold State.restore
  split
  case isFalse => exact h
  case isTrue takes =>
    obtain ⟨present, shed⟩ : (s.entry i).present = true ∧ (s.rail i).state = .shed := by
      simpa using takes
    have ⟨_, loaded⟩ := h.on (i := i) (by simp [shed])
    exact (h.but i).modifyRail.bringUp present loaded (by simp)
      (by simpa using (h i).1.quiet (by simp [shed]) (by simp [shed]))

theorem State.railsFine.hurryFall (h : s.railsFine) (falls : (s.rail i).state = .falling) :
    (s.hurryFall i).railsFine := by
  refine h.modifyRail (by simp [falls]) ?_
  obtain ⟨applied, requested, timed, restoring, -⟩ := (h i).1
  exact ⟨applied, requested, by simpa using timed, restoring, fun _ => .inl falls⟩

theorem State.railsFine.forceRailOff (h : s.railsFine) : (s.forceRailOff i).railsFine := by
  unfold State.forceRailOff
  split
  case isFalse => exact h
  case isTrue =>
    split
    case h_1 st => exact h.toOff (by simp [st, RailState.enabled])
    case h_2 st => exact h.toOff (by simp [st, RailState.enabled])
    case h_8 st => exact h.hurryFall st
    case h_9 => exact h
    case h_10 => exact h
    all_goals exact h.enterFalling (by simp [*]) true

theorem State.railsFine.forceOff (h : s.railsFine) : s.forceOff.railsFine :=
  (State.forEachRail_keeps (fun _ _ hu => hu.forceRailOff) s h).tidyBlankWait

theorem State.railsFine.pauseTimed (h : s.railsFine) :
    (s.modifyRail i Rail.pauseTimed).railsFine := by
  refine h.modifyRail_of_same ?_ ?_ <;> unfold Rail.pauseTimed <;> split
  · exact (h i).1.retimed (by simp)
  · exact (h i).1
  · rfl
  · rfl

theorem State.railsFine.resumeTimed (h : s.railsFine) :
    (s.modifyRail i Rail.resumeTimed).railsFine := by
  refine h.modifyRail_of_same ?_ ?_ <;> unfold Rail.resumeTimed <;> split
  · exact (h i).1.retimed (by simp)
  · exact (h i).1
  · rfl
  · rfl

theorem State.railsFine.hold (h : s.railsFine) : s.hold.railsFine :=
  State.forEachRail_keeps (fun _ _ hu => hu.pauseTimed) _ (h.withCtl _)

theorem State.railsFine.resume (h : s.railsFine) : s.resume.railsFine :=
  State.forEachRail_keeps (fun _ _ hu => hu.resumeTimed) _ (h.withCtl _)

theorem State.railsFine.switchOnPhase (h : s.railsFine) (loaded : s.loaded = true) (k : Nat) :
    (s.switchOnPhase k).railsFine := by
  refine (State.forEachRail_keeps (P := fun u => u.railsFine ∧ u.loaded = true) ?_ s
    ⟨h, loaded⟩).1
  rintro i u ⟨fine, loaded⟩
  split
  · exact ⟨fine.switchOn loaded, (RailFrame.switchOn i u).loaded.trans loaded⟩
  · exact ⟨fine, loaded⟩

theorem State.railsFine.switchOffPhase (h : s.railsFine) (d : Nat) :
    (s.switchOffPhase d).railsFine := by
  refine State.forEachRail_keeps (fun i u hu => ?_) s h
  split
  · exact hu.switchOff
  · exact hu

theorem State.railsFine.countGlitch (h : s.railsFine) :
    (s.modifyRail i Rail.countGlitch).railsFine :=
  h.modifyRail_of_same (h i).1 rfl

theorem State.railsFine.zoneGood (h : s.railsFine) : (s.zoneGood i).railsFine := by
  unfold State.zoneGood
  split
  case h_1 st =>
    have ⟨present, loaded⟩ := h.on (i := i) (by simp [st])
    have coherent := (h i).1
    exact (h.but i).rampedUp present loaded (coherent.requested_of_isOn (by simp [st, RailState.isOn]))
      (coherent.quiet (by simp [st]) (by simp [st]))
  all_goals exact h

theorem State.railsFine.zoneHigh (h : s.railsFine) : (s.zoneHigh i).railsFine := by
  unfold State.zoneHigh
  split
  case h_6 => exact h
  case h_7 => exact h
  case h_8 => exact h
  case h_9 => exact h
  case h_10 => exact h
  all_goals exact h.railFault (by simp [*]) .over

theorem State.railsFine.dipSettling (h : s.railsFine) (settles : (s.rail i).state = .settling) :
    (s.dipSettling i).railsFine := by
  refine (h.modifyRail (by simp [settles]) ?_).reportRailSag
  obtain ⟨applied, requested, -, -, discharge⟩ := (h i).1
  simp only [settles, RailState.enabled, RailState.isOn] at applied requested discharge
  simp [Rail.coherent, Rail.countGlitch, RailState.enabled, RailState.isOn, RailState.timed,
    State.railTimer_ne_stopped, applied, requested]
  simpa using discharge

theorem State.railsFine.zoneLow (h : s.railsFine) (isOff : Bool) :
    (s.zoneLow i isOff).railsFine := by
  unfold State.zoneLow
  split
  case h_1 st =>
    split
    · exact h.dipSettling st
    · exact h.railFault (by simp [st]) .dip
  case h_2 st =>
    split
    · exact h.countGlitch.reportRailSag
    · exact h.railFault (by simp [st]) .dip
  case h_3 st =>
    split
    · exact h.toOff (by simp [st, RailState.enabled])
    · exact h
  case h_4 st =>
    split
    · exact h.toOff (by simp [st, RailState.enabled])
    · exact h
  all_goals exact h

theorem State.railsFine.zoneEvent (h : s.railsFine) (z : Zone) : (s.zoneEvent i z).railsFine := by
  cases z with
  | off => exact h.zoneLow true
  | low => exact h.zoneLow false
  | good => exact h.zoneGood
  | high => exact h.zoneHigh

theorem State.railsFine.urgentRail (h : s.railsFine) : (s.urgentRail i).railsFine := by
  unfold State.urgentRail
  split
  case h_1 st => exact h.enterFalling (by simp [st]) true
  case h_2 st => exact h.enterFalling (by simp [st]) true
  case h_3 st =>
    split
    · exact h
    · exact h.hurryFall st
  all_goals exact h

theorem State.railsFine.urgentRails (h : s.railsFine) : s.urgentRails.railsFine :=
  (State.forEachRail_keeps (fun _ _ hu => hu.urgentRail) s h).tidyBlankWait

theorem State.railsFine.soloRail (h : s.railsFine) : (s.soloRail i).railsFine := by
  unfold State.soloRail
  split
  case h_1 st => exact h.enterFalling (by simp [st]) false
  case h_2 st => exact h.toOff (by simp [st, RailState.enabled])
  all_goals exact h

theorem State.railsFine.setSolo (h : s.railsFine) : s.setSolo.railsFine :=
  (State.forEachRail_keeps (fun _ _ hu => hu.soloRail) _ (h.withCtl _)).tidyBlankWait

theorem State.railsFine.rideEndRail (h : s.railsFine) : (s.rideEndRail i).railsFine := by
  unfold State.rideEndRail
  split
  case isTrue dips => exact h.railFault (by simp [dips.1]) .dip
  case isFalse => exact h

theorem State.railsFine.clearRide (h : s.railsFine) : s.clearRide.railsFine := by
  unfold State.clearRide
  split
  · exact State.forEachRail_keeps (fun _ _ hu => hu.rideEndRail) _ (h.withCtl _)
  · exact h

theorem State.railsFine.endRide (h : s.railsFine) : s.endRide.railsFine := by
  unfold State.endRide
  split
  · exact h.resume.clearRide
  · exact h.clearRide

theorem State.railsFine.dimWaitEnds (h : s.railsFine) : (s.dimWaitEnds i).railsFine := by
  unfold State.dimWaitEnds
  split
  case isTrue waits => exact h.enterFalling (by simp [waits]) false
  case isFalse => exact h

theorem State.railsFine.stopRailTimer_railFault (h : s.railsFine) (on : (s.rail i).state ≠ .off)
    (reason : RailReason) : ((s.stopRailTimer i).railFault i reason).railsFine :=
  have ⟨present, loaded⟩ := h.on on
  (h.but i).modifyRail.railFault present loaded reason

theorem State.railsFine.settleExpired (h : s.railsFine) (settles : (s.rail i).state = .settling) :
    (s.settleExpired i).railsFine := by
  refine h.modifyRail (by simp [settles]) ?_
  obtain ⟨applied, requested, -, -, discharge⟩ := (h i).1
  simp only [settles, RailState.enabled, RailState.isOn] at applied requested discharge
  simp [Rail.coherent, RailState.enabled, RailState.isOn, RailState.timed, applied, requested]
  simpa using discharge

theorem State.railsFine.dischargeExpired (h : s.railsFine)
    (released : (s.rail i).state.enabled = false) : (s.dischargeExpired i).railsFine :=
  (h.but i).setRail ⟨(h i).1.toOff released, fun _ => rfl⟩

theorem State.railsFine.fallExpired (h : s.railsFine) (falls : (s.rail i).state = .falling) :
    (s.fallExpired i).railsFine := by
  have released : (s.rail i).state.enabled = false := by simp [falls, RailState.enabled]
  unfold State.fallExpired; dsimp only
  split
  · refine h.modifyRail (by simp [falls]) ?_
    obtain ⟨applied, requested, -, restoring, -⟩ := (h i).1
    simp only [falls, RailState.enabled, RailState.isOn] at applied requested restoring
    simp [Rail.coherent, RailState.enabled, RailState.isOn, RailState.timed, OneShot.start,
      applied, requested]
    simpa using restoring
  · split
    · exact h.dischargeExpired released
    · exact h.toOff released

/-- A ceiling that becomes 0 lets each DIM_WAIT rail fall, and no other change of the dimming
channel reaches the rails. -/
theorem State.railsFine.setCeiling (h : s.railsFine) (c : Ceiling) :
    (s.setCeiling c).railsFine := by
  unfold State.setCeiling; dsimp only
  split
  · split
    · exact h.withDim _
    · exact State.forEachRail_keeps (fun _ _ hu => hu.dimWaitEnds) _ (h.withDim _)
  · split
    · exact h.withDim _
    · exact h.withDim _

theorem State.railsFine.dimCut (h : s.railsFine) : s.dimCut.railsFine := by
  unfold State.dimCut
  split
  · exact (h.withDim _).setCeiling _
  · exact h

theorem State.railsFine.boundary (h : s.railsFine) : s.boundary.railsFine :=
  (h.withDim _).setCeiling _

theorem State.railsFine.urgentSet (h : s.railsFine) : s.urgentSet.railsFine := by
  unfold State.urgentSet
  split
  · exact h.urgentRails.dimCut
  · exact h.urgentRails

theorem State.railsFine.holdUpStart (h : s.railsFine) : s.holdUpStart.railsFine := by
  unfold State.holdUpStart; dsimp only
  split
  · exact h.congr rfl rfl rfl
  · exact State.railsFine.urgentSet (h.congr rfl rfl rfl)

theorem State.railsFine.tick (h : s.railsFine) : s.tick.railsFine := by
  intro i
  have ticks : s.tick.rail i = (s.rail i).tick := by simp [State.rail, State.tick]
  obtain ⟨coherent, off⟩ := h i
  rw [ticks]
  exact ⟨coherent.retimed (OneShot.tick_eq_stopped _), off⟩

end Operations

end Sys2Proof.Machine

/-! What every step keeps: the relation of a state to one that has every invariant it has, and for
each operation that it leads from a state to such a one. -/

namespace Sys2Proof.Machine

/-! ### The invariants, component by component -/

section Congruence

variable {s t : State}

theorem State.linkMatchesMode.congr (h : s.linkMatchesMode)
    (dormant : t.notices.link = .dormant ↔ s.notices.link = .dormant)
    (mode : t.seq.mode = s.seq.mode) : t.linkMatchesMode := by
  unfold State.linkMatchesMode
  rw [dormant, State.loaded_congr mode]
  exact h

theorem State.phaseMatchesMode.congr (h : s.phaseMatchesMode) (mode : t.seq.mode = s.seq.mode)
    (phase : t.seq.phase = s.seq.phase) (returns : t.seq.returnMode = s.seq.returnMode)
    (count : t.settings.phaseCount = s.settings.phaseCount) : t.phaseMatchesMode := by
  unfold State.phaseMatchesMode at h ⊢
  rw [mode, phase, returns, count]
  exact h

theorem State.phaseLegal.congr (h : s.phaseLegal)
    (dormant : t.notices.link = .dormant ↔ s.notices.link = .dormant)
    (mode : t.seq.mode = s.seq.mode) (phase : t.seq.phase = s.seq.phase)
    (returns : t.seq.returnMode = s.seq.returnMode)
    (count : t.settings.phaseCount = s.settings.phaseCount) : t.phaseLegal := by
  obtain ⟨link, matches', bound⟩ := h
  refine ⟨link.congr dormant mode, matches'.congr mode phase returns count, ?_⟩
  rw [State.loaded_congr mode, count]
  exact bound

theorem State.claimsOnlyInClaimingModes.congr (h : s.claimsOnlyInClaimingModes)
    (claimed : t.line.claimed = s.line.claimed) (reclaim : t.line.reclaim = s.line.reclaim)
    (mode : t.seq.mode = s.seq.mode) : t.claimsOnlyInClaimingModes := by
  unfold State.claimsOnlyInClaimingModes
  rw [claimed, reclaim, mode]
  exact h

theorem State.reportMatchesCeiling.congr (h : s.reportMatchesCeiling)
    (ceiling : t.dim.ceiling = s.dim.ceiling) (report : t.dim.zeroReport = s.dim.zeroReport) :
    t.reportMatchesCeiling := by
  unfold State.reportMatchesCeiling
  rw [ceiling, report]
  exact h

theorem State.attemptsBounded.congr (h : s.attemptsBounded)
    (attempts : t.seq.attempts = s.seq.attempts)
    (limit : t.settings.retryLimit = s.settings.retryLimit) (mode : t.seq.mode = s.seq.mode) :
    t.attemptsBounded := by
  unfold State.attemptsBounded
  rw [attempts, limit, mode, State.loaded_congr mode]
  exact h

theorem State.resendsBounded.congr (h : s.resendsBounded)
    (outbound : t.notices.outbound = s.notices.outbound)
    (inFlight : t.notices.inFlight = s.notices.inFlight) : t.resendsBounded := by
  unfold State.resendsBounded State.pendingOf
  rw [outbound, inFlight]
  exact h

theorem State.filtersSound.congr (h : s.filtersSound) (sns : t.front.sns = s.front.sns)
    (msns : t.front.msns = s.front.msns) (pwrReq : t.front.pwrReq = s.front.pwrReq)
    (vblank : t.front.vblank = s.front.vblank) (dimIn : t.front.dimIn = s.front.dimIn) :
    t.filtersSound := by
  unfold State.filtersSound
  rw [sns, msns, pwrReq, vblank, dimIn]
  exact h

theorem State.rosterOrdered.congr (h : s.rosterOrdered)
    (dormant : t.notices.link = .dormant ↔ s.notices.link = .dormant)
    (mode : t.seq.mode = s.seq.mode)
    (numbers : t.seq.roster.map RosterEntry.number = s.seq.roster.map RosterEntry.number)
    (own : t.settings.number = s.settings.number) : t.rosterOrdered := by
  obtain ⟨link, order, present⟩ := h
  refine ⟨link.congr dormant mode, ?_, fun loaded => ?_⟩
  · rw [← List.pairwise_map (f := RosterEntry.number)] at order ⊢
    rw [numbers]
    exact order
  · obtain ⟨e, mem, number⟩ := present (by rwa [State.loaded_congr mode] at loaded)
    have listed : s.settings.number ∈ t.seq.roster.map RosterEntry.number := by
      rw [numbers, ← number]
      exact List.mem_map_of_mem mem
    rw [own]
    simpa using listed

end Congruence

/-- The settings give a loaded station at least one phase. -/
theorem State.phaseMatchesMode.count_pos {s : State} (h : s.phaseMatchesMode)
    (loaded : s.loaded = true) : 1 ≤ s.settings.phaseCount := by
  unfold State.phaseMatchesMode at h
  unfold State.loaded at loaded
  cases mode : s.seq.mode <;> simp only [mode, Mode.loaded, Bool.false_eq_true] at h loaded
  case riding => cases returns : s.seq.returnMode <;> simp only [returns] at h <;> omega
  all_goals omega

/-! ### What is kept -/

/-- What the invariants read of a state. -/
structure View where
  settings : Settings
  table : Vector RailEntry 8
  rails : Vector Rail 8
  sns : Vector (Filter Zone) 8
  msns : Filter MainsZone
  pwrReq : Filter Bool
  vblank : Filter Bool
  dimIn : Filter Bool
  claimed : Bool
  reclaim : Option Nat
  link : LinkState
  outbound : Outbound
  inFlight : Option InFlight
  mode : Mode
  phase : Nat
  returnMode : ReturnMode
  attempts : Nat
  roster : List RosterEntry
  ceiling : Ceiling
  zeroReport : Bool

def State.view (s : State) : View where
  settings := s.settings
  table := s.table
  rails := s.rails
  sns := s.front.sns
  msns := s.front.msns
  pwrReq := s.front.pwrReq
  vblank := s.front.vblank
  dimIn := s.front.dimIn
  claimed := s.line.claimed
  reclaim := s.line.reclaim
  link := s.notices.link
  outbound := s.notices.outbound
  inFlight := s.notices.inFlight
  mode := s.seq.mode
  phase := s.seq.phase
  returnMode := s.seq.returnMode
  attempts := s.seq.attempts
  roster := s.seq.roster
  ceiling := s.dim.ceiling
  zeroReport := s.dim.zeroReport

/-- `t` has every invariant that `s` has. -/
structure Keeps (s t : State) : Prop where
  phase : s.phaseLegal → t.phaseLegal
  rails : s.railsFine → t.railsFine
  claims : s.claimsOnlyInClaimingModes → t.claimsOnlyInClaimingModes
  report : s.reportMatchesCeiling → t.reportMatchesCeiling
  attempts : s.attemptsBounded → t.attemptsBounded
  resends : s.resendsBounded → t.resendsBounded
  filters : s.filtersSound → t.filtersSound
  roster : s.rosterOrdered → t.rosterOrdered

/-- A state that shows the invariants what `s` shows them. -/
theorem Keeps.of_view {s t : State} (h : t.view = s.view) : Keeps s t := by
  simp only [State.view, View.mk.injEq] at h
  obtain ⟨settings, table, rails, sns, msns, pwrReq, vblank, dimIn, claimed, reclaim, link,
    outbound, inFlight, mode, phase, returns, attempts, roster, ceiling, zero⟩ := h
  exact
    { phase := fun h => h.congr (by rw [link]) mode phase returns (by rw [settings])
      rails := fun h => h.congr rails table (State.loaded_congr mode)
      claims := fun h => h.congr claimed reclaim mode
      report := fun h => h.congr ceiling zero
      attempts := fun h => h.congr attempts (by rw [settings]) mode
      resends := fun h => h.congr outbound inFlight
      filters := fun h => h.congr sns msns pwrReq vblank dimIn
      roster := fun h => h.congr (by rw [link]) mode (by rw [roster]) (by rw [settings]) }

theorem Keeps.refl (s : State) : Keeps s s := .of_view rfl

theorem Keeps.trans {s t u : State} (a : Keeps s t) (b : Keeps t u) : Keeps s u where
  phase := b.phase ∘ a.phase
  rails := b.rails ∘ a.rails
  claims := b.claims ∘ a.claims
  report := b.report ∘ a.report
  attempts := b.attempts ∘ a.attempts
  resends := b.resends ∘ a.resends
  filters := b.filters ∘ a.filters
  roster := b.roster ∘ a.roster

theorem Keeps.ite {s t u : State} {p : Prop} [Decidable p] (yes : p → Keeps s t)
    (no : ¬p → Keeps s u) : Keeps s (if p then t else u) := by
  split
  case isTrue h => exact yes h
  case isFalse h => exact no h

/-- An operation of the rail controller keeps what it keeps of the rails. -/
theorem Keeps.of_railFrame {s t : State} (f : RailFrame s t)
    (rails : s.railsFine → t.railsFine) : Keeps s t where
  phase h := h.congr (by rw [f.link]) (by rw [f.seq]) (by rw [f.seq]) (by rw [f.seq])
    (by rw [f.settings])
  rails := rails
  claims h := h.congr (by rw [f.line]) (by rw [f.line]) (by rw [f.seq])
  report h := h.congr (by rw [f.dim]) (by rw [f.dim])
  attempts h := h.congr (by rw [f.seq]) (by rw [f.settings]) (by rw [f.seq])
  resends h := by
    refine ⟨fun k p pending => ?_, by rw [f.inFlight]; exact h.2⟩
    rcases f.fresh k p pending with old | new
    · exact h.1 k p old
    · simp [Pending.bounded, new]
  filters h := by
    have front := f.front
    exact h.congr (by rw [front]) (by rw [front]) (by rw [front]) (by rw [front]) (by rw [front])
  roster h := h.congr (by rw [f.link]) (by rw [f.seq]) (by rw [f.seq]) (by rw [f.settings])

/-! ### The outbound set, the notice in flight and the link -/

section Notices

variable {s : State} {k : Kind}

@[simp] theorem State.setPending_link (s : State) (k : Kind) (p : Option Pending) :
    (s.setPending k p).notices.link = s.notices.link := rfl

@[simp] theorem State.setPending_inFlight (s : State) (k : Kind) (p : Option Pending) :
    (s.setPending k p).notices.inFlight = s.notices.inFlight := rfl

theorem State.resendsBounded.setPending {p : Option Pending} (h : s.resendsBounded)
    (new : ∀ n, p = some n → n.bounded) : (s.setPending k p).resendsBounded := by
  refine ⟨fun j n pending => ?_, h.2⟩
  by_cases here : j = k
  · subst here
    exact new n (by simpa using pending)
  · rw [s.pendingOf_setPending_other p here] at pending
    exact h.1 j n pending

theorem Keeps.setPending {p : Option Pending}
    (new : s.resendsBounded → ∀ n, p = some n → n.bounded) : Keeps s (s.setPending k p) :=
  ⟨id, id, id, id, id, fun h => h.setPending (new h), id, id⟩

theorem Keeps.empty : Keeps s (s.setPending k none) :=
  .setPending fun _ _ none' => by cases none'

theorem Keeps.countLaterFault : Keeps s s.countLaterFault := .of_view rfl

theorem Keeps.queueNotice (a b : Byte) : Keeps s (s.queueNotice k a b) := by
  unfold State.queueNotice
  refine .ite (fun _ => .countLaterFault) fun _ => .setPending fun _ n new => ?_
  cases new
  exact Nat.zero_le 2

theorem Keeps.queueStationFault (reason : Byte) : Keeps s (s.queueStationFault reason) :=
  .queueNotice _ _

theorem Keeps.queueSag : Keeps s s.queueSag := .queueNotice _ _

theorem Keeps.queueRoll : Keeps s s.queueRoll := .queueNotice _ _

theorem Keeps.queueMainsOk : Keeps s s.queueMainsOk := .queueNotice _ _

/-- The notice in flight is marked, leaves or is replaced by one with a bounded resend count. -/
theorem Keeps.inFlight {f : Option InFlight}
    (bounded : s.resendsBounded → ∀ n, f = some n → n.notice.bounded) :
    Keeps s { s with notices := { s.notices with inFlight := f } } :=
  ⟨id, id, id, id, id, fun h => ⟨h.1, bounded h⟩, id, id⟩

theorem Keeps.withdraw : Keeps s (s.withdraw k) := by
  unfold State.withdraw; dsimp only
  split
  case h_1 f flies =>
    refine .ite (fun _ => Keeps.trans .empty (.inFlight fun h n marked => ?_)) fun _ => .empty
    cases marked
    exact h.2 f flies
  case h_2 => exact .empty

/-- The link moves, and the drive of the interface with it: from a link that watches DATA to
another. -/
theorem Keeps.link {l : LinkState} {d : SlotDrive} {b : Option Nat} {stuck : Bool}
    (live : s.notices.link ≠ .dormant) (watches : l ≠ .dormant) :
    Keeps s
      { s with
        notices :=
          { s.notices with link := l, drive := d, breakDrive := b, stuck := stuck } } :=
  ⟨fun h => h.congr (by simp [live, watches]) rfl rfl rfl rfl, id, id, id, id, id, id,
    fun h => h.congr (by simp [live, watches]) rfl rfl rfl⟩

/-- What the interface drives, while the link stays. -/
theorem Keeps.drives {d : SlotDrive} {b : Option Nat} {stuck : Bool} :
    Keeps s { s with notices := { s.notices with drive := d, breakDrive := b, stuck := stuck } } :=
  .of_view rfl

theorem Keeps.issueBreak : Keeps s s.issueBreak := by
  unfold State.issueBreak
  split
  case h_1 => exact .refl s
  case h_2 => exact .refl s
  case h_3 link _ => exact .link (by simp [link]) (by simp)
  case h_4 link _ => exact .link (by simp [link]) (by simp)
  case h_5 => exact .drives
  case h_6 => exact .drives

theorem Outbound.get_of_lowest {o : Outbound} {p : Pending} (h : o.lowest = some (k, p)) :
    o.get k = some p := by
  obtain ⟨j, -, found⟩ := List.exists_of_findSome?_eq_some h
  obtain ⟨q, place, same⟩ := Option.map_eq_some_iff.mp found
  cases same
  exact place

@[simp] theorem State.launch_link (s : State) (k : Kind) (p : Pending) :
    (s.launch k p).notices.link = s.notices.link := rfl

theorem Keeps.launch {p : Pending} (pending : s.pendingOf k = some p) :
    Keeps s (s.launch k p) := by
  refine ⟨id, id, id, id, id, fun h => ?_, id, id⟩
  · refine ⟨(h.setPending (k := k) (p := none) fun _ none' => by cases none').1, fun f flies => ?_⟩
    cases flies
    exact h.1 k p pending

theorem Keeps.beginFrame (live : s.notices.link ≠ .dormant) : Keeps s s.beginFrame := by
  unfold State.beginFrame
  split
  case h_1 => exact .link live (by simp)
  case h_2 k p lowest => exact (Keeps.launch (Outbound.get_of_lowest lowest)).trans (.link live (by simp))

theorem State.link_of_maySend (h : s.maySend = true) : s.notices.link = .free := by
  simp [State.maySend] at h
  exact h.1

theorem Keeps.sendIfFree : Keeps s s.sendIfFree := by
  unfold State.sendIfFree
  exact .ite (fun sends => .beginFrame (by simp [State.link_of_maySend sends])) fun _ => .refl s

/-- The requester wait, the outbound set and the link apart, nothing of the sequence controller
that an invariant speaks of changes. -/
theorem Keeps.wait {w : Wait} : Keeps s { s with seq := { s.seq with wait := w } } := .of_view rfl

theorem Keeps.requesterDropped : Keeps s (s.requesterDropped k) := by
  unfold State.requesterDropped
  refine .ite (fun _ => .refl s) fun _ => ?_
  split
  case h_1 => exact .ite (fun _ => .wait) fun _ => .refl s
  case h_2 => exact .ite (fun _ => .queueNotice _ _) fun _ => .refl s
  all_goals exact .refl s

theorem Keeps.countDrop : Keeps s s.countDrop := .of_view rfl

theorem Keeps.dropNotice : Keeps s (s.dropNotice k) := by
  unfold State.dropNotice; dsimp only
  split
  case h_1 => exact Keeps.trans .countDrop .issueBreak
  case h_2 => exact Keeps.trans .countDrop .issueBreak
  case h_3 => exact Keeps.trans .countDrop .issueBreak
  case h_4 => exact .countDrop
  case h_5 => exact Keeps.trans .countDrop .requesterDropped
  case h_6 => exact Keeps.trans .countDrop .requesterDropped
  case h_7 => exact .countDrop
  case h_8 => exact .countDrop

theorem Keeps.lands : Keeps s { s with notices := { s.notices with inFlight := none } } :=
  .inFlight fun _ _ none' => by cases none'

/-- A notice that returns has been charged at most twice: the third charge drops it (R73). -/
theorem Keeps.returnInFlight (charged : Bool) : Keeps s (s.returnInFlight charged) := by
  unfold State.returnInFlight; dsimp only
  split
  case h_1 => exact .refl s
  case h_2 f flies =>
    refine .ite (fun _ => Keeps.trans .lands .dropNotice) fun twice =>
      .ite (fun _ => .lands) fun _ =>
        ⟨id, id, id, id, id,
          fun h => State.resendsBounded.setPending (Keeps.lands.resends h) fun n new => ?_, id, id⟩
    cases new
    have before : f.notice.resend ≤ 2 := h.2 f flies
    simp only [Bool.and_eq_true, decide_eq_true_eq, not_and] at twice
    simp only [Pending.bounded]
    split
    case isTrue c => have := twice c; omega
    case isFalse => exact before

end Notices

/-! ### The roster -/

section Roster

variable {s : State}

/-- The entries change, and their numbers stay. -/
theorem Keeps.entries {l : List RosterEntry}
    (numbers : l.map RosterEntry.number = s.seq.roster.map RosterEntry.number) :
    Keeps s { s with seq := { s.seq with roster := l } } :=
  ⟨id, id, id, id, id, id, id, fun h => h.congr .rfl rfl numbers rfl⟩

theorem Keeps.modifyEntry (n : Nibble) {f : RosterEntry → RosterEntry}
    (number : ∀ e, (f e).number = e.number) : Keeps s (s.modifyEntry n f) := by
  refine .entries ?_
  simp only [List.map_map]
  refine List.map_congr_left fun e _ => ?_
  simp only [Function.comp_apply]
  split
  · exact number e
  · rfl

theorem Keeps.clearHeard (own : Bool) : Keeps s (s.clearHeard own) :=
  .entries (by simp [Function.comp_def])

theorem mem_rosterInsert {e x : RosterEntry} {l : List RosterEntry}
    (h : x ∈ rosterInsert e l) : x = e ∨ x ∈ l := by
  induction l with
  | nil => exact .inl (by simpa [rosterInsert] using h)
  | cons y l ih =>
    unfold rosterInsert at h
    split at h
    · simpa using h
    · split at h
      · rcases List.mem_cons.mp h with rfl | old
        · exact .inl rfl
        · exact .inr (List.mem_cons_of_mem _ old)
      · rcases List.mem_cons.mp h with rfl | later
        · exact .inr List.mem_cons_self
        · exact (ih later).imp_right (List.mem_cons_of_mem _)

/-- An insertion keeps the order of the numbers. -/
theorem rosterInsert_pairwise (e : RosterEntry) {l : List RosterEntry}
    (h : l.Pairwise fun a b => a.number < b.number) :
    (rosterInsert e l).Pairwise fun a b => a.number < b.number := by
  induction l with
  | nil => simp [rosterInsert]
  | cons x l ih =>
    obtain ⟨first, rest⟩ := List.pairwise_cons.mp h
    unfold rosterInsert
    split
    case isTrue below =>
      refine List.pairwise_cons.mpr ⟨fun y mem => ?_, h⟩
      rcases List.mem_cons.mp mem with rfl | later
      · exact below
      · exact BitVec.lt_trans below (first y later)
    case isFalse notBelow =>
      split
      case isTrue same => exact List.pairwise_cons.mpr ⟨fun y mem => same ▸ first y mem, rest⟩
      case isFalse other =>
        refine List.pairwise_cons.mpr ⟨fun y mem => ?_, ih rest⟩
        rcases mem_rosterInsert mem with rfl | old
        · bv_omega
        · exact first y old

/-- The entry put in is there, and every number that was there still is. -/
theorem rosterInsert_numbers (e : RosterEntry) (l : List RosterEntry) {n : Nibble}
    (h : e.number = n ∨ ∃ x ∈ l, x.number = n) : ∃ x ∈ rosterInsert e l, x.number = n := by
  induction l with
  | nil => exact ⟨e, by simp [rosterInsert], by simpa using h⟩
  | cons y l ih =>
    unfold rosterInsert
    split
    case isTrue =>
      rcases h with new | ⟨x, mem, number⟩
      · exact ⟨e, List.mem_cons_self, new⟩
      · exact ⟨x, List.mem_cons_of_mem _ mem, number⟩
    case isFalse =>
      split
      case isTrue same =>
        rcases h with new | ⟨x, mem, number⟩
        · exact ⟨e, List.mem_cons_self, new⟩
        · rcases List.mem_cons.mp mem with rfl | later
          · exact ⟨e, List.mem_cons_self, same.trans number⟩
          · exact ⟨x, List.mem_cons_of_mem _ later, number⟩
      case isFalse =>
        rcases h with new | ⟨x, mem, number⟩
        · obtain ⟨x, mem, number⟩ := ih (.inl new)
          exact ⟨x, List.mem_cons_of_mem _ mem, number⟩
        · rcases List.mem_cons.mp mem with rfl | later
          · exact ⟨x, List.mem_cons_self, number⟩
          · obtain ⟨x, mem, number⟩ := ih (.inr ⟨x, later, number⟩)
            exact ⟨x, List.mem_cons_of_mem _ mem, number⟩

theorem Keeps.putEntry (e : RosterEntry) : Keeps s (s.putEntry e) := by
  unfold State.putEntry
  refine ⟨id, id, id, id, id, id, id, ?_⟩
  rintro ⟨link, order, present⟩
  exact ⟨link, rosterInsert_pairwise e order,
    fun loaded => rosterInsert_numbers e _ (.inr (present loaded))⟩

end Roster

/-! ### The run record, the timers, the line and the dimming channel -/

section Plain

variable {s : State}

theorem Keeps.record (c : RunRecord) : Keeps s { s with cur := c } := .of_view rfl

theorem Keeps.recordClash : Keeps s s.recordClash := by
  have clash : Keeps s (({ s with
      cur := { s.cur with numberClash := true, alertPending := true } }).modifyEntry
        s.settings.number fun e => { e with clash := true }) :=
    Keeps.trans (.record _) (.modifyEntry _ fun _ => rfl)
  exact .ite (fun _ => clash.trans (.queueStationFault _)) fun _ => clash

theorem Keeps.checkClash (n : Notice) (own : Bool) : Keeps s (s.checkClash n own) :=
  .ite (fun _ => .recordClash) fun _ => .refl s

theorem Keeps.countDisagreement : Keeps s s.countDisagreement := .of_view rfl

theorem Keeps.countTaken (n : Notice) : Keeps s (s.countTaken n) := by
  have counted : Keeps s (s.modifyEntry n.sender fun e => { e with taken := satInc e.taken }) :=
    .modifyEntry _ fun _ => rfl
  unfold State.countTaken; dsimp only
  split
  · exact .ite (fun _ => counted) fun _ => counted.trans .countDisagreement
  · exact counted

@[simp] theorem State.seeHold_reclaim (s : State) (level : Bool) :
    (s.seeHold level).line.reclaim = s.line.reclaim := by
  unfold State.seeHold; split <;> rfl

theorem Keeps.seeHold (level : Bool) : Keeps s (s.seeHold level) :=
  .of_view (by simp [State.view])

/-- What the line shows, without a change of claims. -/
theorem Keeps.line {l : PhaseLine} (claimed : l.claimed = s.line.claimed)
    (reclaim : l.reclaim = s.line.reclaim) : Keeps s { s with line := l } :=
  ⟨id, id, fun h => h.congr claimed reclaim rfl, id, id, id, id, id⟩

/-- A station in a claiming mode may claim HOLD. -/
theorem Keeps.claims_of_claims {t : State} (mode : t.seq.mode.claims = true) :
    t.claimsOnlyInClaimingModes := fun _ => mode

/-- A station that neither claims HOLD nor has a claim due may be in any mode. -/
theorem Keeps.claims_of_unclaimed {t : State} (claimed : t.line.claimed = false)
    (reclaim : t.line.reclaim = none) : t.claimsOnlyInClaimingModes := by
  rintro (due | due)
  · simp [claimed] at due
  · simp [reclaim] at due

theorem Keeps.claimNow (mode : s.seq.mode.claims = true) : Keeps s s.claimNow := by
  unfold State.claimNow
  refine .ite (fun _ => .refl s) fun _ => ?_
  exact ⟨id, id, fun _ => Keeps.claims_of_claims mode, id, id, id, id, id⟩

theorem Keeps.claimLater (mode : s.seq.mode.claims = true) : Keeps s s.claimLater :=
  ⟨id, id, fun _ => Keeps.claims_of_claims (by simpa using mode), id, id, id, id, id⟩

theorem Keeps.release : Keeps s s.release :=
  ⟨id, id, fun h due => h (.inr (by simpa [State.release] using due)), id, id, id, id, id⟩

theorem Keeps.leaveClaim : Keeps s s.leaveClaim :=
  ⟨id, id, fun _ due => by simp [State.leaveClaim] at due, id, id, id, id, id⟩

/-- A change of the dimming channel that leaves its ceiling and the report. -/
theorem Keeps.dim {d : Dimming} (ceiling : d.ceiling = s.dim.ceiling)
    (report : d.zeroReport = s.dim.zeroReport) : Keeps s { s with dim := d } :=
  ⟨id, id, id, fun h => h.congr ceiling report, id, id, id, id⟩

theorem Keeps.dimZero : Keeps s s.dimZero := .ite (fun _ => .dim rfl rfl) fun _ => .refl s

theorem Keeps.dimZeroDark : Keeps s s.dimZeroDark := .ite (fun _ => .dim rfl rfl) fun _ => .refl s

theorem Keeps.dimRamp : Keeps s s.dimRamp := .ite (fun _ => .dim rfl rfl) fun _ => .refl s

theorem Keeps.dimCap : Keeps s s.dimCap := .ite (fun _ => .dim rfl rfl) fun _ => .refl s

theorem Keeps.dimLift : Keeps s s.dimLift :=
  .ite (fun _ => .ite (fun _ => .dim rfl rfl) fun _ => .dimZero) fun _ => .refl s

/-- The report after a change of the ceiling follows the new ceiling (R153). -/
theorem State.reportMatchesCeiling.setCeiling (h : s.reportMatchesCeiling) (c : Ceiling) :
    (s.setCeiling c).reportMatchesCeiling := by
  unfold State.reportMatchesCeiling at h
  unfold State.setCeiling; dsimp only
  split
  case isTrue zero =>
    subst zero
    split
    case isTrue was => simpa [State.reportMatchesCeiling, was] using h
    case isFalse =>
      refine State.reportMatchesCeiling.congr (s := { s with
        dim := { s.dim with ceiling := .limited 0, zeroReport := true } }) ?_ ?_ ?_
      · simp [State.reportMatchesCeiling]
      · rw [(RailFrame.forEach_dimWaitEnds _).dim]
      · rw [(RailFrame.forEach_dimWaitEnds _).dim]
  case isFalse nonzero =>
    split
    case isTrue => simp [State.reportMatchesCeiling, nonzero]
    case isFalse was => simpa [State.reportMatchesCeiling, nonzero, was] using h

/-- An operation of the dimming channel that reaches the rails as well. -/
theorem Keeps.of_dimFrame {t : State} {d : Dimming} (f : RailFrame { s with dim := d } t)
    (rails : s.railsFine → t.railsFine)
    (report : s.reportMatchesCeiling → t.reportMatchesCeiling) : Keeps s t :=
  have k := Keeps.of_railFrame f fun h => rails (h.congr rfl rfl rfl)
  { phase := fun h => k.phase (h.congr .rfl rfl rfl rfl rfl)
    rails := rails
    claims := fun h => k.claims (h.congr rfl rfl rfl)
    report := report
    attempts := fun h => k.attempts (h.congr rfl rfl rfl)
    resends := fun h => k.resends (h.congr rfl rfl)
    filters := fun h => k.filters (h.congr rfl rfl rfl rfl rfl)
    roster := fun h => k.roster (h.congr .rfl rfl rfl rfl) }

theorem Keeps.setCeiling (c : Ceiling) : Keeps s (s.setCeiling c) :=
  have ⟨_, frame⟩ := s.setCeiling_frame c
  .of_dimFrame frame (·.setCeiling c) (·.setCeiling c)

theorem Keeps.dimCut : Keeps s s.dimCut := by
  unfold State.dimCut
  refine .ite (fun _ => Keeps.trans ?_ (.setCeiling _)) fun _ => .refl s
  exact .dim rfl rfl

theorem Keeps.boundary : Keeps s s.boundary := by
  unfold State.boundary
  refine Keeps.trans ?_ (.setCeiling _)
  exact .dim rfl rfl

theorem Keeps.urgentSet : Keeps s s.urgentSet :=
  have rails := Keeps.of_railFrame (RailFrame.urgentRails s) (·.urgentRails)
  .ite (fun _ => rails.trans .dimCut) fun _ => rails

theorem Keeps.holdUpStart : Keeps s s.holdUpStart := by
  have starts : Keeps s
      { s with
        holdUp :=
          { s.holdUp with running := true, count := 0, sub := 0, armedA := true, armedP := true }
        seq := { s.seq with budgetPassed := false } } := .of_view rfl
  exact .ite (fun _ => starts) fun _ => starts.trans .urgentSet

theorem Keeps.holdUpStartIfStopped : Keeps s s.holdUpStartIfStopped :=
  .ite (fun _ => .refl s) fun _ => .holdUpStart

theorem Keeps.holdUpStop : Keeps s s.holdUpStop := by
  unfold State.holdUpStop
  exact .of_view rfl

theorem Keeps.holdUpStopCapture : Keeps s s.holdUpStopCapture := by
  unfold State.holdUpStopCapture
  refine .ite (fun _ => ?_) fun _ => ?_ <;> exact .of_view rfl

theorem Keeps.pausePhase : Keeps s s.pausePhase :=
  .of_view (by simp [State.view])

theorem Keeps.stopRetry : Keeps s s.stopRetry := by
  unfold State.stopRetry
  exact .of_view rfl

theorem Keeps.startMuteIfPanel : Keeps s s.startMuteIfPanel :=
  .of_view (by simp [State.view])

theorem Keeps.reportStandingSag : Keeps s s.reportStandingSag :=
  .ite (fun _ => .queueSag) fun _ => .refl s

theorem Keeps.refuseRollcall : Keeps s s.refuseRollcall :=
  .ite (fun _ => .queueNotice _ _) fun _ => .refl s

theorem Keeps.startRetry (setting : RetrySetting) : Keeps s (s.startRetry setting) := .of_view rfl

theorem Keeps.requestAtOff : Keeps s s.requestAtOff := by
  unfold State.requestAtOff
  split
  case h_1 => exact Keeps.trans (.queueNotice _ _) .wait
  case h_2 => exact Keeps.trans (.queueNotice _ _) .wait
  case h_3 => exact Keeps.trans (.startRetry _) .wait
  case h_4 => exact Keeps.trans (.startRetry _) .wait
  case h_5 => exact .ite (fun _ => Keeps.trans (.startRetry _) .wait) fun _ => .wait

theorem Keeps.requesterEntersOff : Keeps s s.requesterEntersOff :=
  .ite (fun _ => .ite (fun _ => .requestAtOff) fun _ => .wait) fun _ => .refl s

end Plain

/-! ### Entries to the modes -/

section Modes

variable {s : State}

/-- The mode changes among those of a loaded station, with a phase number that is its own. The
other items of the sequence controller but the roster may change as they like. -/
theorem Keeps.mode_of_live {q : Sequence} (live : s.linkMatchesMode → s.loaded = true)
    (loads : q.mode.loaded = true)
    (phase : s.loaded = true → s.phaseMatchesMode → ({ s with seq := q }).phaseMatchesMode)
    (claims : s.claimsOnlyInClaimingModes → ({ s with seq := q }).claimsOnlyInClaimingModes)
    (attempts : q.attempts ≤ s.seq.attempts ∨ q.attempts ≤ s.settings.retryLimit + 1)
    (lockout : q.mode = .lockout → s.settings.retryLimit < q.attempts)
    (numbers : q.roster.map RosterEntry.number = s.seq.roster.map RosterEntry.number) :
    Keeps s { s with seq := q } := by
  have link : s.linkMatchesMode → ({ s with seq := q }).linkMatchesMode := fun h => by
    have old : s.seq.mode.loaded = true := live h
    simpa [State.linkMatchesMode, State.loaded, loads, old] using h
  refine ⟨?phase, ?rails, claims, id, ?attempts, id, id, ?roster⟩
  case phase =>
    rintro ⟨matches', old, bound⟩
    exact ⟨link matches', phase (live matches') old, fun _ => bound (live matches')⟩
  case rails =>
    refine fun h i => ⟨(h i).1, fun absent => (h i).2 (absent.imp_right fun l => ?_)⟩
    simp [State.loaded, loads] at l
  case attempts =>
    rintro ⟨bound, -, -⟩
    refine ⟨?_, lockout, fun unloaded => ?_⟩
    · rcases attempts with below | below
      · exact below.trans bound
      · exact below
    · simp [State.loaded, loads] at unloaded
  case roster =>
    intro h
    have loaded := live h.1
    obtain ⟨matches', order, present⟩ := State.rosterOrdered.congr
      (t := { s with seq := { s.seq with roster := q.roster } }) h .rfl rfl numbers rfl
    exact ⟨link matches', order, fun _ => present loaded⟩

theorem Keeps.mode {q : Sequence} (loaded : s.loaded = true) (loads : q.mode.loaded = true)
    (phase : s.phaseMatchesMode → ({ s with seq := q }).phaseMatchesMode)
    (claims : s.claimsOnlyInClaimingModes → ({ s with seq := q }).claimsOnlyInClaimingModes)
    (attempts : q.attempts ≤ s.seq.attempts ∨ q.attempts ≤ s.settings.retryLimit + 1)
    (lockout : q.mode = .lockout → s.settings.retryLimit < q.attempts)
    (numbers : q.roster.map RosterEntry.number = s.seq.roster.map RosterEntry.number) :
    Keeps s { s with seq := q } :=
  .mode_of_live (fun _ => loaded) loads (fun _ => phase) claims attempts lockout numbers

theorem Keeps.rotate : Keeps s s.rotate := .of_view rfl

theorem Keeps.startPhase (setting : PhaseSetting) : Keeps s (s.startPhase setting) := .of_view rfl

theorem Keeps.feed (b : Byte) : Keeps s (s.feed b) := by
  unfold State.feed
  exact .of_view rfl

theorem Keeps.switchOnPhase (loaded : s.loaded = true) (k : Nat) : Keeps s (s.switchOnPhase k) :=
  .of_railFrame (.switchOnPhase k s) (·.switchOnPhase loaded k)

theorem Keeps.switchOffPhase (d : Nat) : Keeps s (s.switchOffPhase d) :=
  .of_railFrame (.switchOffPhase d s) (·.switchOffPhase d)

theorem Keeps.clearRide : Keeps s s.clearRide := .of_railFrame (.clearRide s) (·.clearRide)

theorem Keeps.endRide : Keeps s s.endRide := .of_railFrame (.endRide s) (·.endRide)

theorem Keeps.setOutcome (o : RunOutcome) : Keeps s (s.setOutcome o) := .of_view rfl

theorem Keeps.assertMute : Keeps s s.assertMute :=
  .of_view (by simp [State.view])

/-- The station is in OFF or LOCKOUT. -/
def State.idle (s : State) : Prop := s.seq.mode = .off ∨ s.seq.mode = .lockout

theorem State.idle.loaded (h : s.idle) : s.loaded = true := by
  rcases h with mode | mode <;> simp [State.loaded, mode, Mode.loaded]

/-- An entry to ROLLCALL from OFF or LOCKOUT, with the attempt count as it is or 0 (R88, R92). -/
theorem Keeps.enterRollcall (h : s.idle) (atOnce : Bool) {n : Nat} (below : n ≤ s.seq.attempts) :
    Keeps s (({ s with seq := { s.seq with attempts := n } }).enterRollcall atOnce) := by
  have begins : Keeps s
      { s.rotate with
        seq :=
          { s.seq with
            attempts := n, signature := 0xFFFF, tally := 0xFFFF
            roster := s.seq.roster.map fun e =>
              { e with heard := true && e.number == s.settings.number }
            mode := .rollcall, phase := 0, returnMode := .none, recovered := false,
            cause := .none, heldRise := none, mainsReturned := false } } := by
    refine Keeps.rotate.trans (.mode h.loaded rfl (fun old => ⟨rfl, old.count_pos h.loaded⟩)
      (fun _ => Keeps.claims_of_claims rfl) (.inl below) (by simp) ?_)
    simp [Function.comp_def]
  have claims : ∀ t : State, t.seq.mode = .rollcall →
      Keeps t (if atOnce = true then t.claimNow else t.claimLater) := fun t mode =>
    .ite (fun _ => .claimNow (by simp [mode, Mode.claims]))
      fun _ => .claimLater (by simp [mode, Mode.claims])
  unfold State.enterRollcall; dsimp only
  exact (((((begins.trans .stopRetry).trans (claims _ rfl)).trans .queueRoll).trans
    (.startPhase _)).trans .refuseRollcall).trans .reportStandingSag

end Modes
end Sys2Proof.Machine

namespace Sys2Proof.Machine

/-! ### The mode machine -/

section Modes

variable {s : State}

@[simp] theorem State.holdUpStop_seq (s : State) :
    s.holdUpStop.seq = { s.seq with budgetPassed := false } := rfl

/-- The end of a descent or of SOLO counts the attempt within its bound (R100). -/
theorem State.countAttempt_attempts_le (s : State) :
    s.countAttempt.seq.attempts ≤ s.seq.attempts ∨
      s.countAttempt.seq.attempts ≤ s.settings.retryLimit + 1 := by
  unfold State.countAttempt; dsimp only
  cases s.seq.cause <;> simp

theorem Keeps.countAttempt (loaded : s.loaded = true) (mode : s.seq.mode ≠ .lockout) :
    Keeps s s.countAttempt :=
  .mode loaded loaded (fun h => h) (fun h => h) s.countAttempt_attempts_le
    (fun locked => absurd locked mode) rfl

theorem Keeps.raiseAlert : Keeps s s.raiseAlert := .of_view rfl

/-- The station lets HOLD go and has no claim due. -/
def State.unclaimed (s : State) : Prop := s.line.claimed = false ∧ s.line.reclaim = none

/-- An entry to OFF at the end of a descent or of SOLO. -/
theorem Keeps.off (loaded : s.loaded = true) (free : s.unclaimed) :
    Keeps s { s with seq := { s.seq with mode := .off, phase := 0, cause := .none } } :=
  .mode loaded rfl (fun h => ⟨rfl, h.count_pos loaded⟩)
    (fun _ => Keeps.claims_of_unclaimed free.1 free.2) (.inl le_rfl) (by simp) rfl

theorem Keeps.enterLockout (loaded : s.loaded = true) (free : s.unclaimed)
    (above : s.settings.retryLimit < s.seq.attempts) : Keeps s s.enterLockout := by
  have enters : Keeps s { s with seq := { s.seq with mode := .lockout, phase := 0, cause := .none } } :=
    .mode loaded rfl (fun h => ⟨rfl, h.count_pos loaded⟩)
      (fun _ => Keeps.claims_of_unclaimed free.1 free.2) (.inl le_rfl) (fun _ => above) rfl
  exact (enters.trans (.setOutcome _)).trans .raiseAlert

theorem Keeps.heldRise {a : Option Byte} :
    Keeps s { s with seq := { s.seq with heldRise := a } } := .of_view rfl

theorem Keeps.settleIdle (h : s.idle) (atOnce : Bool) : Keeps s (s.settleIdle atOnce) := by
  unfold State.settleIdle
  split
  · exact .ite (fun _ => .enterRollcall h atOnce le_rfl) fun _ =>
      .ite (fun _ => .enterRollcall h atOnce (Nat.zero_le _)) fun _ => .heldRise
  · exact .ite (fun _ => .requesterEntersOff) fun _ => .refl s

/-- The station is in DESCENDING or SOLO. -/
def State.ending (s : State) : Prop := s.seq.mode = .descending ∨ s.seq.mode = .solo

theorem State.ending.loaded (h : s.ending) : s.loaded = true := by
  rcases h with mode | mode <;> simp [State.loaded, mode, Mode.loaded]

theorem Keeps.enterIdle (h : s.ending) (atOnce : Bool) : Keeps s (s.enterIdle atOnce) := by
  have counted : Keeps s s.countAttempt.leaveClaim := by
    refine Keeps.trans (.countAttempt h.loaded ?_) .leaveClaim
    rcases h with mode | mode <;> simp [mode]
  unfold State.enterIdle; dsimp only
  split
  case isTrue above =>
    exact (counted.trans (.enterLockout h.loaded ⟨rfl, rfl⟩ above)).trans
      (.settleIdle (.inr rfl) atOnce)
  case isFalse =>
    exact (counted.trans (.off h.loaded ⟨rfl, rfl⟩)).trans (.settleIdle (.inl rfl) atOnce)

theorem Keeps.stopPhase : Keeps s s.stopPhase := .of_view rfl

theorem Keeps.endDescent (mode : s.seq.mode = .descending) : Keeps s s.endDescent :=
  (Keeps.stopPhase.trans .holdUpStop).trans
    (.enterIdle (s := s.stopPhase.holdUpStop) (.inl (by simpa using mode)) false)

theorem Keeps.ctl (c : RailControl) : Keeps s { s with ctl := c } := .of_view rfl

theorem Keeps.endSolo (mode : s.seq.mode = .solo) : Keeps s s.endSolo := by
  unfold State.endSolo; dsimp only
  exact (Keeps.holdUpStop.trans (.ctl _)).trans (.enterIdle (.inr (by simpa using mode)) true)

theorem Keeps.enterRising (loaded : s.loaded = true) {k : Nat} (pos : 1 ≤ k)
    (below : k ≤ s.settings.phaseCount) : Keeps s (s.enterRising k) := by
  have rises : Keeps s
      { s with
        seq :=
          { s.seq with mode := .rising, phase := k, returnMode := .none, recovered := false } } :=
    .mode loaded rfl (fun _ => ⟨pos, below⟩) (fun _ => Keeps.claims_of_claims rfl) (.inl le_rfl)
      (by simp) rfl
  unfold State.enterRising; dsimp only
  exact (((rises.trans (.startPhase _)).trans (.claimLater rfl)).trans (.feed _)).trans
    (.switchOnPhase rfl k)

theorem Keeps.startQuiet : Keeps s s.startQuiet := .of_view rfl

theorem Keeps.arriveOn (loaded : s.loaded = true) : Keeps s s.arriveOn := by
  have arrives : Keeps s.leaveClaim
      { s.leaveClaim with
        seq :=
          { s.seq with
            mode := .on, phase := s.settings.phaseCount, returnMode := .none,
            recovered := false } } :=
    .mode loaded rfl (fun h => ⟨rfl, h.count_pos loaded⟩)
      (fun _ => Keeps.claims_of_unclaimed rfl rfl) (.inl le_rfl) (by simp) rfl
  exact (((Keeps.leaveClaim.trans arrives).trans .stopPhase).trans (.feed _)).trans .startQuiet

theorem Keeps.queueTally : Keeps s s.queueTally := by
  have tally : Keeps s { s with seq := { s.seq with tally := s.seq.signature } } := .of_view rfl
  exact tally.trans (.queueNotice _ _)

theorem Keeps.enterOn (loaded : s.loaded = true) : Keeps s s.enterOn :=
  ((((Keeps.arriveOn loaded).trans .queueTally).trans .startMuteIfPanel).trans .dimRamp).trans
    (.setOutcome _)

theorem Keeps.startMute : Keeps s s.startMute := .of_view rfl

theorem Keeps.returnToOn (loaded : s.loaded = true) : Keeps s s.returnToOn :=
  (Keeps.arriveOn loaded).trans (.ite (fun _ => .startMute) fun _ => .refl _)

theorem Keeps.ascendFrom (loaded : s.loaded = true) (k : Nat) : Keeps s (s.ascendFrom k) :=
  .ite (fun below => .enterRising loaded (Nat.succ_pos k) below) fun _ => .enterOn loaded

theorem Mode.loaded_of_active {m : Mode} (active : m.active = true) : m.loaded = true := by
  cases m <;> simp_all [Mode.active, Mode.loaded]

theorem Keeps.stopOnTimers : Keeps s s.stopOnTimers := .of_view rfl

theorem Keeps.enterDescending (loaded : s.loaded = true) (cause : Cause) :
    Keeps s (s.enterDescending cause) := by
  have descends : Keeps s
      { s with
        seq :=
          { s.seq with
            mode := .descending, phase := s.settings.phaseCount, cause := cause,
            returnMode := .none, recovered := false } } :=
    .mode loaded rfl (fun h => ⟨h.count_pos loaded, le_rfl⟩)
      (fun _ => Keeps.claims_of_claims rfl) (.inl le_rfl) (by simp) rfl
  have dark : ∀ t : State, Keeps t (if t.urgent = true then t.dimCut else t.dimZeroDark) :=
    fun t => .ite (fun _ => .dimCut) fun _ => .dimZeroDark
  unfold State.enterDescending; dsimp only
  have through := ((((((descends.trans .endRide).trans
    (.claimNow (by simp [Mode.claims]))).trans (.startPhase .phaseLimit)).trans
    .stopOnTimers).trans .assertMute).trans (dark _)).trans
    (.trans (.switchOffPhase s.settings.phaseCount) (.setOutcome cause.outcome))
  exact .ite (fun _ => through.trans .issueBreak) fun _ => through

/-- The phase number of a descent or of SOLO steps down. -/
theorem Keeps.phaseDown (h : s.ending) {d : Nat} (pos : 1 ≤ d) (below : d ≤ s.seq.phase ∨ d = 1) :
    Keeps s { s with seq := { s.seq with phase := d } } := by
  refine .mode h.loaded h.loaded (fun old => ?_) (fun h => h) (.inl le_rfl) (fun locked => ?_) rfl
  · rcases h with mode | mode <;> simp only [State.phaseMatchesMode, mode] at old ⊢ <;> omega
  · rcases h with mode | mode <;> simp [mode] at locked

theorem Keeps.stepDown (mode : s.seq.mode = .descending) {d : Nat} (pos : 1 ≤ d)
    (below : d ≤ s.seq.phase) : Keeps s (s.stepDown d) := by
  unfold State.stepDown; dsimp only
  exact ((((Keeps.phaseDown (.inl mode) pos (.inl below)).trans (.startPhase _)).trans
    (.claimLater (by simp [mode, Mode.claims]))).trans (.feed _)).trans (.switchOffPhase d)

theorem Keeps.riseFromRiding (loaded : s.loaded = true) : Keeps s s.riseFromRiding := by
  have next : Keeps s
      (match s.seq.returnMode with
      | .rollcall => s.ascendFrom 0
      | .rising => s.ascendFrom s.seq.phase
      | .on => s.returnToOn
      | .none => s.returnToOn) := by
    split
    · exact .ascendFrom loaded 0
    · exact .ascendFrom loaded _
    · exact .returnToOn loaded
    · exact .returnToOn loaded
  exact (next.trans .clearRide).trans .reportStandingSag

theorem Keeps.takeRise : Keeps s s.takeRise := by
  have seen : Keeps s { s with line := { s.line with riseTaken := true } } := .line rfl rfl
  unfold State.takeRise; dsimp only
  split
  case h_1 mode => exact seen.trans (.ascendFrom (by simp [State.loaded, mode, Mode.loaded]) 0)
  case h_2 mode => exact seen.trans (.ascendFrom (by simp [State.loaded, mode, Mode.loaded]) _)
  case h_3 mode => exact seen.trans (.riseFromRiding (by simp [State.loaded, mode, Mode.loaded]))
  case h_4 mode =>
    split
    case isTrue above =>
      have below : s.seq.phase - 1 ≤ s.seq.phase := Nat.sub_le _ 1
      exact seen.trans (.stepDown (by exact mode) (by omega) (by exact below))
    case isFalse => exact (seen.trans (.feed _)).trans (.endDescent mode)
  all_goals exact .refl s

theorem Keeps.hold : Keeps s s.hold := .of_railFrame (.hold s) (·.hold)

theorem Keeps.forEach_shed : Keeps s (s.forEachRail State.shed) :=
  .of_railFrame (.forEachRail (fun i u => .shed i u) s)
    (State.forEachRail_keeps (fun _ _ hu => hu.shed) s)

theorem Keeps.forEach_restore : Keeps s (s.forEachRail State.restore) :=
  .of_railFrame (.forEachRail (fun i u => .restore i u) s)
    (State.forEachRail_keeps (fun _ _ hu => hu.restore) s)

/-- A ride-through begins from ROLLCALL, RISING or ON, and its return mode has the phase number
of that mode (R134). -/
theorem Keeps.enterRiding
    (mode : s.seq.mode = .rollcall ∨ s.seq.mode = .rising ∨ s.seq.mode = .on) :
    Keeps s s.enterRiding := by
  have loaded : s.loaded = true := by
    rcases mode with m | m | m <;> simp [State.loaded, m, Mode.loaded]
  have rides : Keeps s
      { s with
        seq :=
          { s.seq with mode := .riding, returnMode := s.seq.mode.toReturn, recovered := false } } :=
    .mode loaded rfl
      (fun h => by
        rcases mode with m | m | m <;>
          simpa only [State.phaseMatchesMode, m, Mode.toReturn] using h)
      (fun _ => Keeps.claims_of_claims rfl) (.inl le_rfl) (by simp) rfl
  unfold State.enterRiding; dsimp only
  exact (((((((rides.trans (.claimNow rfl)).trans .holdUpStart).trans .pausePhase).trans
    .stopOnTimers).trans (.ctl _)).trans .hold).trans .forEach_shed).trans .dimCap

theorem Keeps.setSolo : Keeps s s.setSolo := .of_railFrame (.setSolo s) (·.setSolo)

theorem Keeps.forceOff : Keeps s s.forceOff := .of_railFrame (.forceOff s) (·.forceOff)

theorem Keeps.stopRetryTimer : Keeps s s.stopRetryTimer := .of_view rfl

/-- SOLO is entered at the detection of a BREAK, which only a link that watches DATA makes (R82,
R125). -/
theorem Keeps.enterSolo (live : s.notices.link ≠ .dormant) : Keeps s s.enterSolo := by
  have solo : Keeps s.leaveClaim
      { s.leaveClaim with
        seq :=
          { s.seq with
            mode := .solo, phase := s.settings.phaseCount, cause := .brk, heldRise := none,
            returnMode := .none, recovered := false,
            wait := if s.seq.mode == Mode.off then Wait.none else s.seq.wait } } :=
    .mode_of_live (fun h => Bool.not_eq_false _ ▸ mt h.mpr live) rfl
      (fun loaded h => ⟨h.count_pos loaded, le_rfl⟩)
      (fun _ => Keeps.claims_of_unclaimed rfl rfl) (.inl le_rfl) (by simp) rfl
  have ends : ∀ t : State, t.seq.mode = .solo → Keeps t
      (if t.urgent = true then ({ t with seq := { t.seq with phase := 1 } }).forceOff
      else t.switchOffPhase s.settings.phaseCount) := by
    intro t mode
    exact .ite (fun _ => (Keeps.phaseDown (.inr mode) le_rfl (.inr rfl)).trans .forceOff)
      fun _ => .switchOffPhase _
  unfold State.enterSolo; dsimp only
  refine Keeps.trans ?_ (ends _ (by simp))
  refine .trans (.trans (.trans (.trans (.trans (.trans (.trans ?_ .stopPhase) .endRide) .setSolo)
    .dimCut) .assertMute) .stopOnTimers) (.trans .stopRetryTimer (.setOutcome _))
  exact Keeps.leaveClaim.trans solo

theorem Keeps.soloStep : Keeps s s.soloStep := by
  unfold State.soloStep
  refine .ite (fun h => ?_) fun _ => .refl s
  obtain ⟨mode, above, -⟩ := h
  exact (Keeps.phaseDown (.inr mode) (by omega) (.inl (Nat.sub_le _ 1))).trans (.switchOffPhase _)

theorem Keeps.soloSteps (n : Nat) (s : State) : Keeps s (State.soloSteps n s) := by
  induction n generalizing s with
  | zero => exact .refl s
  | succ n ih => exact Keeps.soloStep.trans (ih _)

theorem Keeps.advanceSolo : Keeps s s.advanceSolo := by
  unfold State.advanceSolo; dsimp only
  exact (Keeps.soloSteps 15 s).trans (.ite (fun h => .endSolo h.1) fun _ => .refl _)

theorem Keeps.releaseIfReady : Keeps s s.releaseIfReady := by
  unfold State.releaseIfReady; dsimp only
  refine .ite (fun _ => .ite (fun _ => ?_) fun _ => .release) fun _ => .refl s
  refine Keeps.trans (.trans .release ?_) .takeRise
  exact .line rfl rfl

/-- What follows a step has every invariant that the step has left. -/
theorem Keeps.conclude : Keeps s s.conclude :=
  (Keeps.advanceSolo.trans .releaseIfReady).trans .sendIfFree

end Modes
end Sys2Proof.Machine

namespace Sys2Proof.Machine

/-! ### Taken notices -/

section Taken

variable {s t : State} {n : Notice} {own : Bool} {k : Kind}

/-- The state in which a frame whose notice is taken leaves the interface, before the withdrawals
of R79. -/
def State.frameTaken (s : State) (own : Bool) : State :=
  { s with
    notices :=
      { s.notices with
        link := .waiting
        inFlight := if own then none else s.notices.inFlight } }

/-- A station takes the notice of kind `k` that it has received, and no other. -/
theorem State.receive_eq_some :
    s.receive k = some (n, own, t) ↔
      s.takes n own ∧ n.kind = k ∧ t = (s.frameTaken own).withdrawForTaken k own := by
  unfold State.receive State.takes State.frameTaken
  cases link : s.notices.link with
  | frame f =>
    obtain ⟨slots, sending⟩ := f
    cases notice : Frame.notice ⟨slots, sending⟩ with
    | none =>
      refine ⟨by simp [notice], ?_⟩
      rintro ⟨⟨_, same, some'⟩, -⟩
      cases same
      simp [notice] at some'
    | some m =>
      by_cases kind : m.kind = k
      · simp only [notice, kind, ↓reduceIte, Option.some.injEq, Prod.mk.injEq]
        constructor
        · rintro ⟨rfl, rfl, rfl⟩
          exact ⟨⟨slots, rfl, notice⟩, kind, rfl⟩
        · rintro ⟨⟨_, same, some'⟩, -, rfl⟩
          cases same
          rw [notice] at some'
          cases some'
          exact ⟨rfl, rfl, rfl⟩
      · simp only [notice, kind, ↓reduceIte, reduceCtorEq, false_iff]
        rintro ⟨⟨_, same, some'⟩, kind', -⟩
        cases same
        rw [notice] at some'
        cases some'
        exact kind kind'
  | dormant | waiting | free | broken => simp

theorem State.takes.live (h : s.takes n own) : s.notices.link ≠ .dormant := by
  obtain ⟨slots, link, -⟩ := h
  simp [link]

theorem Keeps.withdrawForTaken : Keeps s (s.withdrawForTaken k own) := by
  unfold State.withdrawForTaken
  split
  · split
    · exact .ite (fun _ => .empty) fun _ => .refl s
    · exact .refl s
  · exact .refl s
  · exact .refl s
  all_goals exact .ite (fun _ => .refl s) fun _ => .empty

theorem Keeps.frameTaken (live : s.notices.link ≠ .dormant) : Keeps s (s.frameTaken own) := by
  have lands : Keeps s
      { s with
        notices := { s.notices with inFlight := if own then none else s.notices.inFlight } } :=
    .inFlight fun h f flies => by
      split at flies
      · cases flies
      · exact h.2 f flies
  exact lands.trans (.link live (by simp))

theorem Keeps.beforeNotice : Keeps s (s.beforeNotice n own) :=
  (Keeps.trans (.ite (fun _ => .takeRise) fun _ => .refl s) (.countTaken n)).trans
    (.checkClash n own)

/-- A taken notice keeps what its act keeps. -/
theorem Keeps.take {hold : Bool} {act : Notice → Bool → State → State}
    (acts : ∀ n own u, Keeps u (act n own u)) : Keeps s (s.take k hold act) := by
  unfold State.take
  split
  case h_1 n own t received =>
    obtain ⟨takes, -, rfl⟩ := State.receive_eq_some.mp received
    exact (((((Keeps.frameTaken takes.live).trans .withdrawForTaken).trans
      (.seeHold hold)).trans .beforeNotice).trans (acts n own _)).trans .conclude
  case h_2 => exact .refl s

theorem Keeps.setLead : Keeps s (s.setLead n own) := by
  unfold State.setLead
  exact .of_view rfl

theorem Keeps.countSag : Keeps s s.countSag := .of_view rfl

theorem Keeps.countTakenSag : Keeps s s.countTakenSag := by
  have counted : Keeps s { s with seq := { s.seq with sagCount := satInc s.seq.sagCount } } := .of_view rfl
  exact (counted.trans .countSag).trans (.feed _)

theorem Keeps.checkChatter : Keeps s s.checkChatter :=
  .ite (fun _ => .queueNotice _ _) fun _ => .refl s

theorem Keeps.leadAlreadyHeld : Keeps s (s.leadAlreadyHeld own) :=
  .ite (fun _ => .queueMainsOk) fun _ => .refl s

theorem Keeps.leadConflict : Keeps s s.leadConflict := .of_view rfl

theorem State.setLead_mode (s : State) (n : Notice) (own : Bool) :
    (s.setLead n own).seq.mode = s.seq.mode := rfl

theorem State.countTakenSag_mode (s : State) : s.countTakenSag.seq.mode = s.seq.mode := rfl

theorem Keeps.onSag (n : Notice) (own : Bool) (s : State) : Keeps s (s.onSag n own) := by
  have led := (Keeps.countTakenSag (s := s)).trans ((Keeps.setLead (n := n) (own := own)).trans
    .checkChatter)
  have mode : ((s.countTakenSag.setLead n own).checkChatter).seq.mode = s.seq.mode := by
    simp [State.setLead_mode, State.countTakenSag_mode]
  have rides : s.seq.mode = .rollcall ∨ s.seq.mode = .rising ∨ s.seq.mode = .on →
      Keeps s (((s.countTakenSag.setLead n own).checkChatter.enterRiding).leadAlreadyHeld own) :=
    fun m => (led.trans (.enterRiding (by rwa [mode]))).trans .leadAlreadyHeld
  unfold State.onSag
  split
  case h_1 m => exact rides (.inl m)
  case h_2 m => exact rides (.inr (.inl m))
  case h_3 m => exact rides (.inr (.inr m))
  case h_4 => exact (led.trans .holdUpStartIfStopped).trans .leadAlreadyHeld
  case h_5 =>
    dsimp only
    exact (Keeps.countTakenSag.trans (.ite (fun _ => .refl _) fun _ => .leadConflict)).trans
      .checkChatter
  all_goals exact .countSag

theorem State.holdUpStartIfStopped_mode (s : State) :
    s.holdUpStartIfStopped.seq.mode = s.seq.mode := by
  rw [s.holdUpStartIfStopped_seq]
  split <;> rfl

theorem Keeps.onCommit (n : Notice) (own : Bool) (s : State) : Keeps s (s.onCommit n own) := by
  unfold State.onCommit; dsimp only
  have recorded := (Keeps.raiseAlert (s := s)).trans (.trans
    (.record { s.raiseAlert.cur with commitCause := some (CommitCause.ofByte n.arg1) })
    (.feed (BitVec.ofNat 8 (0x42 + (CommitCause.ofByte n.arg1).code))))
  refine .ite (fun active => recorded.trans (Keeps.holdUpStartIfStopped.trans
    (.enterDescending ?_ .brownout))) fun _ => recorded
  rw [State.loaded, State.holdUpStartIfStopped_mode]
  exact Mode.loaded_of_active active

theorem Keeps.recordFault : Keeps s (s.recordFault n) :=
  .of_view (by simp [State.view])

theorem Keeps.onFault (n : Notice) (own : Bool) (s : State) : Keeps s (s.onFault n own) :=
  .ite (fun active => Keeps.recordFault.trans
    (.enterDescending (Mode.loaded_of_active active) .fault)) fun _ => .recordFault

theorem Keeps.onFall (n : Notice) (own : Bool) (s : State) : Keeps s (s.onFall n own) :=
  .ite (fun active => .enterDescending (Mode.loaded_of_active active) .request)
    fun _ => .ite (fun _ => .stopRetry) fun _ => .refl s

theorem Keeps.mainsReturnedToRequester : Keeps s s.mainsReturnedToRequester :=
  .ite (fun _ => Keeps.trans (.queueNotice _ _) .wait) fun _ => .refl s

theorem Keeps.markReturned : Keeps s s.markReturned := by
  have marked : Keeps s
      { s with
        seq := { s.seq with mainsReturned := true, lead := none }
        cur := { s.cur with mainsReturned := true } } := .of_view rfl
  exact marked.trans .mainsReturnedToRequester

theorem Keeps.resume : Keeps s s.resume := .of_railFrame (.resume s) (·.resume)

theorem Keeps.timers (q : Timers) : Keeps s { s with timers := q } := .of_view rfl

theorem Keeps.recover : Keeps s s.recover := by
  have led : ∀ t : State, Keeps t { t with seq := { t.seq with lead := none, recovered := true } } :=
    fun _ => .of_view rfl
  unfold State.recover; dsimp only
  refine Keeps.trans ?_ (.trans (led _) (.feed _))
  refine Keeps.trans (.trans (.trans ?_ .resume) .forEach_restore) .dimLift
  refine Keeps.trans ?_ (.timers _)
  exact Keeps.trans .holdUpStopCapture .withdraw

theorem Keeps.onMainsOk (n : Notice) (own : Bool) (s : State) : Keeps s (s.onMainsOk n own) := by
  have paid : Keeps s (if own = true then { s with seq := { s.seq with owed := false } } else s) :=
    .ite (fun _ => .of_view rfl) fun _ => .refl s
  exact paid.trans (.ite (fun _ => .ite (fun _ => .recover) fun _ => .markReturned)
    fun _ => .leadConflict)

theorem Keeps.onRise (n : Notice) (own : Bool) (s : State) : Keeps s (s.onRise n own) := by
  unfold State.onRise
  split
  case h_1 mode => exact .enterRollcall (.inl mode) true le_rfl
  case h_2 mode =>
    exact .ite (fun _ => .enterRollcall (.inr mode) true (Nat.zero_le _)) fun _ => .refl s
  case h_3 => exact .heldRise
  case h_4 => exact .heldRise
  all_goals exact .refl s

theorem Keeps.answerRoll (mismatch : Bool) : Keeps s (s.answerRoll mismatch) :=
  .ite (fun _ => .ite (fun _ => .queueStationFault _) fun _ => .refl s)
    fun _ => .ite (fun _ => .queueStationFault _) fun _ => .refl s

theorem Keeps.onRoll (n : Notice) (own : Bool) (s : State) : Keeps s (s.onRoll n own) :=
  .ite (fun _ => .ite (fun _ => .queueStationFault _) fun _ => .refl s) fun _ =>
    .ite (fun _ => .answerRoll false) fun _ => (Keeps.putEntry _).trans (.answerRoll _)

theorem Keeps.onTally (n : Notice) (own : Bool) (s : State) : Keeps s (s.onTally n own) := by
  have marks : ∀ out : Bool, Keeps s
      (s.modifyEntry n.sender fun e => { e with outOfStep := out }) :=
    fun _ => .modifyEntry _ fun _ => rfl
  unfold State.onTally; dsimp only
  exact .ite (fun _ => .ite (fun _ => marks false) fun _ =>
    ((marks true).trans (.record _)).trans .raiseAlert) fun _ => .refl s

end Taken

/-! ### The other commands -/

section Commands

variable {s : State}

/-- Every next state of an outcome has every invariant of `s`. -/
def State.outcomeKeeps (s : State) (o : Result) : Prop := ∀ t, o = .next t → Keeps s t

theorem State.outcomeKeeps.next {t : State} (h : Keeps s t) : s.outcomeKeeps (.next t) := by
  rintro _ ⟨⟩
  exact h

theorem State.outcomeKeeps.stay : s.outcomeKeeps (.next s) := .next (.refl s)

theorem State.outcomeKeeps.ite {p : Prop} [Decidable p] {a b : Result}
    (yes : p → s.outcomeKeeps a) (no : ¬p → s.outcomeKeeps b) :
    s.outcomeKeeps (if p then a else b) := by
  split
  case isTrue h => exact yes h
  case isFalse h => exact no h

theorem State.timedIn.state {i : Fin 8} {st : RailState} (h : s.timedIn i st = true) :
    (s.rail i).state = st := by
  simp [State.timedIn] at h
  exact h.1

/-- An expiry of a rail timer keeps what its operation keeps of the rails. -/
theorem Keeps.railExpiry {hold : Bool} {f : State → State}
    (frame : ∀ u, RailFrame u (f u))
    (rails : ∀ u, u.rails = s.rails → u.railsFine → (f u).railsFine) :
    Keeps s (f (s.seeHold hold)).conclude :=
  ((Keeps.seeHold hold).trans (.of_railFrame (frame _) (rails _ (by simp)))).trans .conclude

theorem execRiseLimitExpiry_keeps (i : Fin 8) (hold : Bool) :
    s.outcomeKeeps (execRiseLimitExpiry i hold s) := by
  refine .ite (fun due => .next (.railExpiry (.riseLimitExpired i) fun u rails h => ?_))
    fun _ => .stay
  have state := State.timedIn.state due
  rw [← State.rail_congr rails] at state
  exact h.stopRailTimer_railFault (by simp [state]) _

theorem execSettleExpiry_keeps (i : Fin 8) (hold : Bool) :
    s.outcomeKeeps (execSettleExpiry i hold s) := by
  refine .ite (fun due => .next (.railExpiry (.settleExpired i) fun u rails h => ?_))
    fun _ => .stay
  have state := State.timedIn.state due
  rw [← State.rail_congr rails] at state
  exact h.settleExpired state

theorem execFallLimitExpiry_keeps (i : Fin 8) (hold : Bool) :
    s.outcomeKeeps (execFallLimitExpiry i hold s) := by
  refine .ite (fun due => .next (.railExpiry (.fallExpired i) fun u rails h => ?_))
    fun _ => .stay
  have state := State.timedIn.state due
  rw [← State.rail_congr rails] at state
  exact h.fallExpired state

theorem execDischargeExpiry_keeps (i : Fin 8) (hold : Bool) :
    s.outcomeKeeps (execDischargeExpiry i hold s) := by
  refine .ite (fun due => .next (.railExpiry (.dischargeExpired i) fun u rails h => ?_))
    fun _ => .stay
  have state := State.timedIn.state due
  rw [← State.rail_congr rails] at state
  exact h.dischargeExpired (by simp [state, RailState.enabled])

theorem Keeps.countBlankMiss : Keeps s s.countBlankMiss := .of_view rfl

theorem Keeps.endBlankWait : Keeps s s.endBlankWait :=
  .of_railFrame (.endBlankWait s) (·.endBlankWait)

theorem execBlankWaitExpiry_keeps (hold : Bool) : s.outcomeKeeps (execBlankWaitExpiry hold s) :=
  .ite (fun _ => .next ((((Keeps.seeHold hold).trans .endBlankWait).trans
    .countBlankMiss).trans .conclude)) fun _ => .stay

theorem Keeps.modifyRail (i : Fin 8) {f : Rail → Rail}
    (fits : (s.rail i).coherent → (f (s.rail i)).coherent)
    (same : (f (s.rail i)).state = (s.rail i).state) : Keeps s (s.modifyRail i f) :=
  .of_railFrame (.modifyRail i f s) fun h => h.modifyRail_of_same (fits (h i).1) same

theorem execTransitionBoostEnd_keeps (i : Fin 8) :
    s.outcomeKeeps (execTransitionBoostEnd i s) :=
  .ite (fun _ => .next (.modifyRail i (fun h => h) rfl)) fun _ => .stay

theorem Keeps.setMinHold : Keeps s s.setMinHold := .line rfl rfl

theorem execMinimumHold_keeps (hold : Bool) : s.outcomeKeeps (execMinimumHold hold s) :=
  .ite (fun _ => .next ((Keeps.setMinHold.trans (.seeHold hold)).trans .conclude))
    fun _ => .stay

theorem Keeps.reclaimNow : Keeps s s.reclaimNow := by
  have withdrawn : Keeps s { s with line := { s.line with reclaim := none } } :=
    ⟨id, id, fun h due => h (.inl (by simpa using due)), id, id, id, id, id⟩
  exact .ite (fun claims => withdrawn.trans (.claimNow claims)) fun _ => withdrawn

theorem execReclaimDelayEnd_keeps : s.outcomeKeeps (execReclaimDelayEnd s) :=
  .ite (fun _ => .next .reclaimNow) fun _ => .stay

theorem execRise_keeps : s.outcomeKeeps (execRise s) :=
  .ite (fun _ => .next (((Keeps.seeHold true).trans (.ite (fun _ => .refl _)
    fun _ => .takeRise)).trans .conclude)) fun _ => .stay

theorem Keeps.holdFaultFound : Keeps s s.holdFaultFound :=
  (Keeps.seeHold true).trans (.line rfl rfl)

theorem Keeps.answerHoldFault : Keeps s s.answerHoldFault := by
  unfold State.answerHoldFault
  split
  case h_1 => exact .queueStationFault _
  case h_2 => exact .queueStationFault _
  case h_3 => exact .queueStationFault _
  case h_4 => exact .countLaterFault
  all_goals exact .refl s

theorem execHoldLineFault_keeps : s.outcomeKeeps (execHoldLineFault s) :=
  .ite (fun _ => .ite (fun _ => .next .holdFaultFound) fun _ =>
    .next ((Keeps.holdFaultFound.trans .answerHoldFault).trans .sendIfFree)) fun _ => .stay

theorem Keeps.judgeRollTimeout : Keeps s s.judgeRollTimeout :=
  .ite (fun _ => .queueStationFault _) fun _ => .refl s

theorem Keeps.judgePhaseLimit : Keeps s s.judgePhaseLimit := by
  refine .ite (fun _ => ?_) fun _ => .refl s
  split
  case h_1 => exact .queueStationFault _
  case h_2 => exact .ite (fun _ => .queueStationFault _) fun _ => .refl s
  case h_3 => exact .issueBreak
  all_goals exact .refl s

theorem execRollTimeoutExpiry_keeps (hold : Bool) :
    s.outcomeKeeps (execRollTimeoutExpiry hold s) :=
  .ite (fun _ => .next (((Keeps.stopPhase.trans (.seeHold hold)).trans
    .judgeRollTimeout).trans .sendIfFree)) fun _ => .stay

theorem execPhaseLimitExpiry_keeps (hold : Bool) :
    s.outcomeKeeps (execPhaseLimitExpiry hold s) :=
  .ite (fun _ => .next (((Keeps.stopPhase.trans (.seeHold hold)).trans
    .judgePhaseLimit).trans .sendIfFree)) fun _ => .stay

theorem Keeps.holdUp (h : HoldUp) : Keeps s { s with holdUp := h } := .of_view rfl

theorem execWindowExpiry_keeps : s.outcomeKeeps (execWindowExpiry s) :=
  .ite (fun _ => .next (((Keeps.holdUp _).trans (.ite (fun _ => .queueNotice _ _)
    fun _ => .refl _)).trans .sendIfFree)) fun _ => .stay

theorem Keeps.budgetExpired : Keeps s s.budgetExpired := by
  unfold State.budgetExpired
  split
  case h_1 => exact .issueBreak
  case h_2 => exact .of_view rfl
  all_goals exact .refl s

theorem execBudgetExpiry_keeps : s.outcomeKeeps (execBudgetExpiry s) :=
  .ite (fun _ => .next ((Keeps.holdUp _).trans .budgetExpired)) fun _ => .stay

theorem execQuietTimerExpiry_keeps : s.outcomeKeeps (execQuietTimerExpiry s) := by
  refine .ite (fun _ => .next (.ite (fun _ => ?_) fun _ => .timers _)) fun _ => .stay
  exact .of_view rfl

theorem Keeps.queueRetry (attempt : Byte) : Keeps s (s.queueRetry attempt) :=
  Keeps.trans (.queueNotice _ _) .wait

theorem execRetryDelayExpiry_keeps : s.outcomeKeeps (execRetryDelayExpiry s) :=
  .ite (fun _ => .ite (fun _ => .next ((Keeps.stopRetryTimer.trans (.queueRetry _)).trans
    .sendIfFree)) fun _ => .next .stopRetryTimer) fun _ => .stay

theorem execRestTimeExpiry_keeps : s.outcomeKeeps (execRestTimeExpiry s) :=
  .ite (fun _ => .ite (fun _ => .ite (fun _ => .next ((Keeps.stopRetryTimer.trans
    (.queueRetry _)).trans .sendIfFree)) fun _ => .next (Keeps.stopRetryTimer.trans .wait))
    fun _ => .next .stopRetryTimer) fun _ => .stay

theorem execMuteReleaseExpiry_keeps : s.outcomeKeeps (execMuteReleaseExpiry s) := by
  refine .ite (fun _ => .next (.ite (fun _ => ?_) fun _ => .timers _)) fun _ => .stay
  exact .of_view rfl

theorem execPeriodBoundary_keeps (hold : Bool) : s.outcomeKeeps (execPeriodBoundary hold s) :=
  .ite (fun _ => .next (((Keeps.seeHold hold).trans .boundary).trans .conclude)) fun _ => .stay

theorem execSilenceTimeout_keeps : s.outcomeKeeps (execSilenceTimeout s) := by
  refine .ite (fun _ => .next (.dim ?_ ?_)) fun _ => .stay <;>
    unfold Dimming.silent <;> split <;> rfl

theorem execMeasurementOverflow_keeps : s.outcomeKeeps (execMeasurementOverflow s) := by
  refine .ite (fun _ => .next (.dim ?_ ?_)) fun _ => .stay <;>
    unfold Dimming.overflow <;> split <;> rfl

theorem execActiveTimeEnd_keeps : s.outcomeKeeps (execActiveTimeEnd s) :=
  .ite (fun _ => .next (.dim rfl rfl)) fun _ => .stay

/-! ### The data line -/

theorem execBusFree_keeps : s.outcomeKeeps (execBusFree s) := by
  unfold execBusFree
  split
  case h_1 link => exact .next (Keeps.trans (.link (by simp [link]) (by simp)) .sendIfFree)
  all_goals exact .stay

theorem Keeps.meetFate (fate : SendFate) : Keeps s (s.meetFate fate) := by
  cases fate with
  | sending => exact .refl s
  | lostArbitration => exact .returnInFlight false
  | collided => exact Keeps.recordClash.trans (.returnInFlight true)
  | driveFault => exact .returnInFlight true

theorem Keeps.readSlots (live : s.notices.link ≠ .dormant) (sending : Bool) (slots : List Bool) :
    Keeps s (s.readSlots sending slots) :=
  Keeps.trans (.link live (by simp)) (.meetFate _)

theorem Keeps.hearFrame (slots : List Bool) : Keeps s (s.hearFrame slots) := by
  unfold State.hearFrame
  split
  case h_1 link => exact .ite (fun _ => .readSlots (by simp [link]) _ _) fun _ => .refl s
  all_goals exact .refl s

theorem execFrameStart_keeps (slots : List Bool) : s.outcomeKeeps (execFrameStart slots s) := by
  unfold execFrameStart
  split
  case h_1 link => exact .next ((Keeps.beginFrame (by simp [link])).trans (.hearFrame slots))
  case h_2 => exact .next (.hearFrame slots)
  all_goals exact .stay

theorem Keeps.endFrame (live : s.notices.link ≠ .dormant) : Keeps s s.endFrame :=
  .link live (by simp)

theorem execFrameAbandoned_keeps : s.outcomeKeeps (execFrameAbandoned s) := by
  unfold execFrameAbandoned
  split
  case h_1 link =>
    exact .next ((Keeps.endFrame (by simp [link])).trans (.returnInFlight false))
  all_goals exact .stay

theorem execObjectedFrame_keeps : s.outcomeKeeps (execObjectedFrame s) := by
  unfold execObjectedFrame
  split
  case h_1 link =>
    exact .ite (fun _ => .next (((Keeps.endFrame (by simp [link])).trans (.record _)).trans
      (.returnInFlight true))) fun _ => .stay
  all_goals exact .stay

theorem execForeignFrame_keeps : s.outcomeKeeps (execForeignFrame s) := by
  unfold execForeignFrame
  split
  case h_1 link =>
    exact .ite (fun _ => .next (((Keeps.endFrame (by simp [link])).trans (.record _)).trans
      (.returnInFlight false))) fun _ => .stay
  all_goals exact .stay

theorem execBreakDriveEnd_keeps : s.outcomeKeeps (execBreakDriveEnd s) :=
  .ite (fun _ => .next .drives) fun _ => .stay

theorem Keeps.countBreak : Keeps s s.countBreak := .of_view rfl

theorem Keeps.breakAtLink (live : s.notices.link ≠ .dormant) : Keeps s s.breakAtLink := by
  have broken : Keeps s
      { s with
        notices :=
          { s.notices with link := .broken, outbound := Outbound.empty, inFlight := none } } :=
    ⟨fun h => h.congr (by simp [live]) rfl rfl rfl rfl, id, id, id, id,
      fun _ => ⟨fun k p pending => (by cases k <;> cases pending), fun f flies => (by cases flies)⟩,
      id, fun h => h.congr (by simp [live]) rfl rfl rfl⟩
  exact ((broken.trans (.clearHeard false)).trans .countBreak).trans .raiseAlert

theorem Keeps.owedAfterBreak : Keeps s s.owedAfterBreak :=
  .ite (fun _ => .queueMainsOk) fun _ => .refl s

theorem Keeps.detectBreak (live : s.notices.link ≠ .dormant) : Keeps s s.detectBreak := by
  have broken : s.breakAtLink.notices.link = .broken := rfl
  exact (((Keeps.breakAtLink live).trans (.ite (fun _ => .refl _)
    fun _ => .enterSolo (by simp [broken]))).trans .owedAfterBreak).trans .conclude

theorem execBreakDetected_keeps : s.outcomeKeeps (execBreakDetected s) := by
  unfold execBreakDetected
  split
  case h_4 => exact .stay
  case h_5 => exact .stay
  all_goals exact .next (.detectBreak (by simp [*]))

theorem execLinkStuck_keeps : s.outcomeKeeps (execLinkStuck s) := by
  unfold execLinkStuck
  split
  case h_1 => exact .next .drives
  all_goals exact .stay

theorem execLineGoesRecessive_keeps : s.outcomeKeeps (execLineGoesRecessive s) := by
  unfold execLineGoesRecessive
  split
  case h_1 link =>
    exact .ite (fun _ => .next (.link (by simp [link]) (by simp))) fun _ => .stay
  all_goals exact .stay

/-! ### The status port -/

theorem Keeps.port (p : Port) : Keeps s { s with port := p } := .of_view rfl

theorem Keeps.completeCommand (b : Byte) : Keeps s (s.completeCommand b) :=
  .ite (fun _ => (Keeps.port _).trans (.record _)) fun _ => .port _

theorem Keeps.acceptByte (b : Byte) : Keeps s (s.acceptByte b) := by
  unfold State.acceptByte
  split
  · exact .ite (fun _ => .completeCommand b) fun _ => .refl s
  · exact .refl s
  · exact .refl s

theorem Keeps.takeBit (bit : Bool) : Keeps s (s.takeBit bit) := by
  unfold State.takeBit
  split
  · exact .ite (fun _ => .port _) fun _ => .completeCommand _
  · exact .refl s
  · exact .refl s

theorem execSelectLowered_keeps : s.outcomeKeeps (execSelectLowered s) := by
  refine .ite (fun _ => .stay) fun _ => ?_
  split
  · exact .next (.port _)
  · exact .stay
  · exact .stay

theorem execReplyBit_keeps : s.outcomeKeeps (execReplyBit s) := by
  unfold execReplyBit
  split
  · exact .next (.port _)
  · exact .stay
  · exact .stay

end Commands
end Sys2Proof.Machine

namespace Sys2Proof.Machine

/-! ### The sense front end -/

section Sense

variable {s : State}

/-- A sample leaves a filter that samples can make (R25). -/
theorem Filter.sound_sample {α : Type} [DecidableEq α] (f : Filter α) (bypass : Bool) (raw : α) :
    (f.sample bypass raw).1.sound := by
  unfold Filter.sample
  split
  case isTrue => exact .inl ⟨rfl, rfl⟩
  case isFalse other =>
    split
    case isTrue => exact .inl ⟨rfl, rfl⟩
    case isFalse =>
      split
      case isTrue same =>
        split
        case isTrue => exact .inr ⟨raw, same, other, .inr rfl⟩
        case isFalse => exact .inl ⟨rfl, rfl⟩
      case isFalse => exact .inr ⟨raw, rfl, other, .inl rfl⟩

theorem Filter.sound_sampleMains (f : Filter MainsZone) (bypass : Bool)
    (raw : Option MainsZone) : (f.sampleMains bypass raw).1.sound := by
  cases raw with
  | none => exact .inl ⟨rfl, rfl⟩
  | some z => exact f.sound_sample bypass z

/-- The front end changes, and its filters stay such as samples can make. -/
theorem Keeps.front {f : FrontEnd}
    (sound : s.filtersSound → ({ s with front := f }).filtersSound) :
    Keeps s { s with front := f } :=
  ⟨id, id, id, id, id, id, sound, id⟩

theorem Keeps.startSample (x : Sample) : Keeps s (s.startSample x) := .front fun h => h

theorem Keeps.setFilter (i : Fin 8) {f : Filter Zone} (sound : s.filtersSound → f.sound) :
    Keeps s (s.setFilter i f) := by
  refine .front fun h => ⟨fun j => ?_, h.2⟩
  by_cases same : i.val = j.val
  · simpa [same] using sound h
  · simpa [Vector.getElem_set_ne, same] using h.1 j

theorem Keeps.zoneEvent (i : Fin 8) (z : Zone) : Keeps s (s.zoneEvent i z) :=
  .of_railFrame (.zoneEvent i z s) (·.zoneEvent z)

theorem Keeps.countGlitch (i : Fin 8) : Keeps s (s.modifyRail i Rail.countGlitch) :=
  .modifyRail i (fun h => h) rfl

theorem Keeps.sampleRail (v : Nat) (i : Fin 8) : Keeps s (s.sampleRail v i) := by
  unfold State.sampleRail; dsimp only
  refine .ite (fun _ => ?_) fun _ => .refl s
  have glitched : Keeps s
      (if s.glitches (classifyRail (s.entry i) v) i = true then
        s.modifyRail i Rail.countGlitch else s) :=
    .ite (fun _ => .countGlitch i) fun _ => .refl s
  have filtered := glitched.trans (.setFilter i
    (f := ((s.front.sns[i]).sample s.settings.filterBypass (classifyRail (s.entry i) v)).1)
    fun _ => Filter.sound_sample _ _ _)
  split
  · exact filtered.trans (.zoneEvent i _)
  · exact filtered

theorem Keeps.mainsSagEvent : Keeps s s.mainsSagEvent := by
  have ends : Keeps s { s with front := { s.front with dwell := none, mainsHeld := false } } :=
    .front fun h => h
  unfold State.mainsSagEvent; dsimp only
  split
  case h_1 => exact ends.trans .queueSag
  case h_2 => exact ends.trans .queueSag
  case h_3 => exact ends.trans .queueSag
  case h_4 => exact ends.trans .queueSag
  case h_9 => exact ends
  case h_10 => exact ends
  case h_11 => exact ends
  all_goals exact ends.trans .countSag

theorem Keeps.mainsRecoveryEvent : Keeps s s.mainsRecoveryEvent := .front fun h => h

theorem Keeps.sampleMainsInput (v : Nat) : Keeps s (s.sampleMainsInput v) := by
  unfold State.sampleMainsInput; dsimp only
  refine .ite (fun _ => ?_) fun _ => .refl s
  have filtered : Keeps s
      { s with
        front :=
          { s.front with
            msns := (s.front.msns.sampleMains s.settings.filterBypass
              (classifyMains s.settings v)).1 } } :=
    .front fun h => ⟨h.1, Filter.sound_sampleMains _ _ _, h.2.2⟩
  split
  · exact filtered.trans .mainsSagEvent
  · exact filtered.trans .mainsRecoveryEvent
  · exact filtered

theorem Keeps.requestInOff : Keeps s s.requestInOff := by
  unfold State.requestInOff
  split
  case h_4 => exact Keeps.trans (.startRetry _) .wait
  case h_5 => exact Keeps.trans (.startRetry _) .wait
  all_goals exact Keeps.trans (.queueNotice _ _) .wait

theorem Keeps.pwrReqAsserted : Keeps s s.pwrReqAsserted := by
  unfold State.pwrReqAsserted; dsimp only
  split
  case h_1 => exact Keeps.trans .withdraw .requestInOff
  case h_2 => exact Keeps.trans .withdraw (.queueNotice _ _)
  all_goals exact .withdraw

theorem Keeps.pwrReqDeasserted : Keeps s s.pwrReqDeasserted := by
  unfold State.pwrReqDeasserted; dsimp only
  split
  case h_1 => exact Keeps.trans .withdraw .stopRetry
  case h_2 => exact Keeps.trans .withdraw (.queueNotice _ _)
  case h_3 => exact Keeps.trans .withdraw (.queueNotice _ _)
  case h_4 => exact Keeps.trans .withdraw (.queueNotice _ _)
  case h_5 => exact Keeps.trans .withdraw (.queueNotice _ _)
  all_goals exact .withdraw

theorem Keeps.samplePwrReq (level : Bool) : Keeps s (s.samplePwrReq level) := by
  unfold State.samplePwrReq; dsimp only
  refine .ite (fun _ => ?_) fun _ => .refl s
  have filtered : Keeps s
      { s with
        front :=
          { s.front with
            pwrReq := (s.front.pwrReq.sample s.settings.filterBypass level).1 } } :=
    .front fun h => ⟨h.1, h.2.1, Filter.sound_sample _ _ _, h.2.2.2⟩
  split
  · exact filtered.trans .pwrReqAsserted
  · exact filtered.trans .pwrReqDeasserted
  · exact filtered

theorem Keeps.vblankEdge : Keeps s s.vblankEdge := .of_railFrame (.vblankEdge s) (·.vblankEdge)

theorem Keeps.sampleVblank (level : Bool) : Keeps s (s.sampleVblank level) := by
  unfold State.sampleVblank; dsimp only
  refine .ite (fun _ => ?_) fun _ => .refl s
  have filtered : Keeps s
      { s with
        front :=
          { s.front with
            vblank := (s.front.vblank.sample s.settings.filterBypass level).1 } } :=
    .front fun h => ⟨h.1, h.2.1, h.2.2.1, Filter.sound_sample _ _ _, h.2.2.2.2⟩
  split
  · exact filtered.trans .vblankEdge
  · exact filtered
  · exact filtered

theorem Keeps.sampleAll (x : Sample) : Keeps s (s.sampleAll x) := by
  have rails : Keeps s ((s.seeHold x.hold).forEachRail fun i u => u.sampleRail x.sns[i] i) :=
    State.forEachRail_keeps (P := Keeps s) (fun _ _ hu => hu.trans (.sampleRail _ _)) _
      (.seeHold _)
  unfold State.sampleAll; dsimp only
  refine Keeps.trans ?_ (.sampleVblank _)
  refine Keeps.trans ?_ (.samplePwrReq _)
  exact rails.trans (.sampleMainsInput _)

theorem execSenseSample_keeps (x : Sample) : s.outcomeKeeps (execSenseSample x s) :=
  .ite (fun _ => .next (((Keeps.startSample x).trans (.sampleAll x)).trans .conclude))
    fun _ => .stay

@[simp] theorem Dimming.edge_ceiling (level : Bool) (d : Dimming) :
    (d.edge level).ceiling = d.ceiling := by
  unfold Dimming.edge Dimming.completed Dimming.toLevel; dsimp only
  repeat' split
  all_goals rfl

@[simp] theorem Dimming.edge_zeroReport (level : Bool) (d : Dimming) :
    (d.edge level).zeroReport = d.zeroReport := by
  unfold Dimming.edge Dimming.completed Dimming.toLevel; dsimp only
  repeat' split
  all_goals rfl

theorem Keeps.sampleDimIn (level : Bool) : Keeps s (s.sampleDimIn level) := by
  unfold State.sampleDimIn; dsimp only
  have filtered : Keeps s
      { s with
        front :=
          { s.front with
            dimIn := (s.front.dimIn.sample s.settings.filterBypass level).1 } } :=
    .front fun h => ⟨h.1, h.2.1, h.2.2.1, h.2.2.2.1, Filter.sound_sample _ _ _⟩
  split
  · exact filtered.trans (.dim (by simp) (by simp))
  · exact filtered

theorem Keeps.seeDimIn (level : Bool) : Keeps s (s.seeDimIn level) := .front fun h => h

theorem execDimInSample_keeps (level : Bool) : s.outcomeKeeps (execDimInSample level s) :=
  .ite (fun _ => .next ((Keeps.seeDimIn level).trans (.sampleDimIn level))) fun _ => .stay

theorem execMainsHeldEvent_keeps : s.outcomeKeeps (execMainsHeldEvent s) := by
  have held : Keeps s { s with front := { s.front with dwell := none, mainsHeld := true } } :=
    .front fun h => h
  exact .ite (fun _ => .next ((held.trans (.ite (fun _ => .queueMainsOk)
    fun _ => .refl _)).trans .sendIfFree)) fun _ => .stay

end Sense

/-! ### Start-up -/

section StartUp

variable {s : State}

/-- A station in LOADING as a supply start or an RST leaves it (R161, R167). -/
structure State.fresh (s : State) : Prop where
  rails : s.rails = State.reset.rails
  front : s.front = State.reset.front
  line : s.line = State.reset.line
  notices : s.notices = State.reset.notices
  seq : s.seq = State.reset.seq
  dim : s.dim = State.reset.dim

theorem Rail.initial_coherent : Rail.initial.coherent := by
  simp [Rail.coherent, Rail.initial, RailState.enabled, RailState.isOn, RailState.timed]

theorem Filter.initial_sound {α : Type} : (Filter.initial : Filter α).sound := .inl ⟨rfl, rfl⟩

theorem Filter.deasserted_sound : Filter.deasserted.sound := .inl ⟨rfl, rfl⟩

theorem State.fresh.loaded (h : s.fresh) : s.loaded = false := by
  rw [State.loaded, h.seq]; rfl

theorem State.fresh.phaseLegal (h : s.fresh) : s.phaseLegal := by
  refine ⟨?_, ?_, by simp [h.loaded]⟩
  · simp [State.linkMatchesMode, h.loaded, h.notices, State.reset]
  · simp [State.phaseMatchesMode, h.seq, State.reset]

theorem State.fresh.railsFine (h : s.fresh) : s.railsFine := by
  intro i
  have rail : s.rail i = Rail.initial := by simp [State.rail, h.rails, State.reset]
  rw [rail]
  exact ⟨Rail.initial_coherent, fun _ => rfl⟩

theorem State.fresh.claims (h : s.fresh) : s.claimsOnlyInClaimingModes :=
  Keeps.claims_of_unclaimed (by rw [h.line]; rfl) (by rw [h.line]; rfl)

theorem State.fresh.report (h : s.fresh) : s.reportMatchesCeiling := by
  simp [State.reportMatchesCeiling, h.dim, State.reset]

theorem State.fresh.attempts (h : s.fresh) : s.attemptsBounded := by
  simp [State.attemptsBounded, h.seq, State.reset]

theorem State.fresh.resends (h : s.fresh) : s.resendsBounded := by
  refine ⟨fun k p pending => ?_, fun f flies => ?_⟩
  · rw [State.pendingOf, h.notices] at pending
    cases k <;> cases pending
  · rw [h.notices] at flies
    cases flies

theorem State.fresh.filters (h : s.fresh) : s.filtersSound := by
  unfold State.filtersSound
  rw [h.front]
  refine ⟨fun i => ?_, Filter.initial_sound, Filter.deasserted_sound, Filter.deasserted_sound,
    Filter.deasserted_sound⟩
  simpa [State.reset] using Filter.initial_sound

theorem State.fresh.roster (h : s.fresh) : s.rosterOrdered :=
  ⟨h.phaseLegal.1, by simp [h.seq, State.reset], by simp [h.loaded]⟩

theorem Keeps.of_fresh {t : State} (h : t.fresh) : Keeps s t where
  phase _ := h.phaseLegal
  rails _ := h.railsFine
  claims _ := h.claims
  report _ := h.report
  attempts _ := h.attempts
  resends _ := h.resends
  filters _ := h.filters
  roster _ := h.roster

theorem execSupplyStart_keeps (prof1 prof0 : Bool) :
    s.outcomeKeeps (execSupplyStart prof1 prof0 s) :=
  .next (.of_fresh ⟨rfl, rfl, rfl, rfl, rfl, rfl⟩)

theorem Keeps.heldInReset {t : State} : Keeps s t.heldInReset :=
  .of_fresh ⟨rfl, rfl, rfl, rfl, rfl, rfl⟩

theorem Keeps.nextFree : Keeps s s.nextFree := .of_view rfl

theorem execRst_keeps (micros : Nat) : s.outcomeKeeps (execRst micros s) :=
  .ite (fun _ => .next .heldInReset) fun _ => .ite (fun _ => .next .heldInReset)
    fun _ => .next .nextFree

theorem Keeps.loader (l : Loader) : Keeps s { s with loader := l } := .of_view rfl

theorem execRstRelease_keeps (prof1 prof0 : Bool) :
    s.outcomeKeeps (execRstRelease prof1 prof0 s) :=
  .ite (fun _ => .next (.loader _)) fun _ => .stay

theorem State.readsImage_mode (h : s.readsImage = true) : s.seq.mode = .loading := by
  simp [State.readsImage] at h
  exact h.2

/-- A load that does not succeed brings a station from LOADING to another mode without a load. -/
theorem Keeps.unloaded (mode : s.seq.mode = .loading) {m : Mode}
    (ends : m = .silent ∨ m = .unconfigured) :
    Keeps s { s with seq := { s.seq with mode := m } } := by
  have before : s.loaded = false := by simp [State.loaded, mode, Mode.loaded]
  have after : m.loaded = false := by rcases ends with rfl | rfl <;> rfl
  have link : s.linkMatchesMode →
      ({ s with seq := { s.seq with mode := m } }).linkMatchesMode := fun h => by
    have loaded : ({ s with seq := { s.seq with mode := m } }).loaded = s.loaded :=
      after.trans before.symm
    exact h.trans (by rw [loaded])
  have unclaimed : s.claimsOnlyInClaimingModes →
      ¬(s.line.claimed = true ∨ s.line.reclaim.isSome = true) := fun h due => by
    simpa [mode, Mode.claims] using h due
  refine ⟨?phase, ?rails, ?claims, fun h => h, ?attempts, fun h => h, fun h => h, ?roster⟩
  case phase =>
    rintro ⟨matches', phase, -⟩
    refine ⟨link matches', ?_, by simp [State.loaded, after]⟩
    simp only [State.phaseMatchesMode, mode] at phase
    rcases ends with rfl | rfl <;> exact phase
  case rails =>
    exact fun h => h.congr rfl rfl (after.trans before.symm)
  case claims => exact fun h due => absurd due (unclaimed h)
  case attempts =>
    rintro ⟨bound, -, zero⟩
    refine ⟨bound, ?_, fun _ => zero before⟩
    rcases ends with rfl | rfl <;> simp
  case roster =>
    rintro ⟨matches', order, -⟩
    exact ⟨link matches', order, by simp [State.loaded, after]⟩

theorem Keeps.enterUnconfigured (mode : s.seq.mode = .loading) (reason : LoadReason)
    (detail : Nat) : Keeps s (s.enterUnconfigured reason detail) :=
  (Keeps.unloaded mode (.inr rfl)).trans (.loader _)

theorem execMemoryNoAcknowledge_keeps : s.outcomeKeeps (execMemoryNoAcknowledge s) :=
  .ite (fun reads => .next ((Keeps.unloaded (State.readsImage_mode reads) (.inl rfl)).trans
    (.loader _))) fun _ => .stay

theorem execReadFailed_keeps (cause : ReadFailure) : s.outcomeKeeps (execReadFailed cause s) :=
  .ite (fun reads => .next (.enterUnconfigured (State.readsImage_mode reads) _ _)) fun _ => .stay

/-- The station in OFF with the settings of an accepted image, before its first boundary and its
first notices (R165). -/
def State.configured (image : List Byte) (hold : Bool) (s : State) : State :=
  let t := ((s.takeImage image).watchLines hold).beginSampling
  let u := t.putEntry (ownEntry t.settings t.loader.profile)
  { u with
    loader := { u.loader with reading := false, reason := .none, detail := 15 }
    seq := { u.seq with mode := .off, lastCause := .none } }

theorem State.loadSucceeds_eq (image : List Byte) (hold : Bool) (s : State) :
    s.loadSucceeds image hold = (s.configured image hold).firstBoundary.requesterEntersOff.queueRoll :=
  rfl

/-- Check 5 bounds the phase count (R164). -/
theorem phaseCount_of_checkImage {image : List Byte} {p : BitVec 2}
    (accepted : checkImage image p = none) :
    1 ≤ (imageSettings image p).phaseCount ∧ (imageSettings image p).phaseCount ≤ 15 := by
  obtain ⟨-, -, -, -, station, -, -⟩ := (checkImage_eq_none_iff image p).mp accepted
  obtain ⟨-, -, pos, bound, -⟩ := (stationInRange_iff image).mp station
  exact ⟨pos, bound⟩

theorem Keeps.configured (mode : s.seq.mode = .loading) {image : List Byte}
    (accepted : checkImage image s.loader.profile = none) (hold : Bool) :
    Keeps s (s.configured image hold) := by
  have before : s.loaded = false := by simp [State.loaded, mode, Mode.loaded]
  have loads : (s.configured image hold).loaded = true := rfl
  have watches : (s.configured image hold).notices.link = .waiting := rfl
  have link : (s.configured image hold).linkMatchesMode := by
    simp [State.linkMatchesMode, loads, watches]
  have count := phaseCount_of_checkImage accepted
  refine ⟨?phase, ?rails, ?claims, fun h => h, ?attempts, fun h => h, fun h => h, ?roster⟩
  case phase =>
    rintro ⟨-, phase, -⟩
    simp only [State.phaseMatchesMode, mode] at phase
    exact ⟨link, ⟨phase, count.1⟩, fun _ => count.2⟩
  case rails => exact fun h i => ⟨(h i).1, fun _ => (h i).2 (.inr before)⟩
  case claims => exact fun h due => by simpa [mode, Mode.claims] using h due
  case attempts =>
    rintro ⟨-, -, zero⟩
    have none' : (s.configured image hold).seq.attempts = 0 := zero before
    exact ⟨by simp [none'], fun locked => (by cases locked), by simp [loads]⟩
  case roster =>
    rintro ⟨-, order, -⟩
    exact ⟨link, rosterInsert_pairwise _ order, fun _ => rosterInsert_numbers _ _ (.inl rfl)⟩

theorem execImageReadComplete_keeps (image : List Byte) (hold : Bool) :
    s.outcomeKeeps (execImageReadComplete image hold s) := by
  refine .ite (fun complete => .next ?_) fun _ => .stay
  have mode := State.readsImage_mode (Bool.and_eq_true_iff.mp complete).1
  unfold State.finishLoading
  split
  case h_1 => exact .enterUnconfigured mode _ _
  case h_2 accepted =>
    rw [State.loadSucceeds_eq]
    have bounded : ∀ t : State, Keeps t t.firstBoundary :=
      fun t => .ite (fun _ => .boundary) fun _ => .refl t
    exact (((Keeps.configured mode accepted hold).trans (bounded _)).trans
      .requesterEntersOff).trans .queueRoll

end StartUp

/-! ### Every command and every step -/

section Steps

variable {s : State}

theorem exec_keeps (c : Instr) : s.outcomeKeeps (exec c s) := by
  cases c with
  | supplyStart a b => exact execSupplyStart_keeps a b
  | rst micros => exact execRst_keeps micros
  | rstRelease a b => exact execRstRelease_keeps a b
  | memoryNoAcknowledge => exact execMemoryNoAcknowledge_keeps
  | readFailed cause => exact execReadFailed_keeps cause
  | imageReadComplete image hold => exact execImageReadComplete_keeps image hold
  | senseSample x => exact execSenseSample_keeps x
  | mainsHeldEvent => exact execMainsHeldEvent_keeps
  | riseLimitExpiry i hold => exact execRiseLimitExpiry_keeps i hold
  | settleExpiry i hold => exact execSettleExpiry_keeps i hold
  | fallLimitExpiry i hold => exact execFallLimitExpiry_keeps i hold
  | dischargeExpiry i hold => exact execDischargeExpiry_keeps i hold
  | blankWaitExpiry hold => exact execBlankWaitExpiry_keeps hold
  | minimumHold hold => exact execMinimumHold_keeps hold
  | reclaimDelayEnd => exact execReclaimDelayEnd_keeps
  | rise => exact execRise_keeps
  | holdLineFault => exact execHoldLineFault_keeps
  | rollTimeoutExpiry hold => exact execRollTimeoutExpiry_keeps hold
  | phaseLimitExpiry hold => exact execPhaseLimitExpiry_keeps hold
  | windowExpiry => exact execWindowExpiry_keeps
  | budgetExpiry => exact execBudgetExpiry_keeps
  | quietTimerExpiry => exact execQuietTimerExpiry_keeps
  | retryDelayExpiry => exact execRetryDelayExpiry_keeps
  | restTimeExpiry => exact execRestTimeExpiry_keeps
  | muteReleaseExpiry => exact execMuteReleaseExpiry_keeps
  | busFree => exact execBusFree_keeps
  | frameStart slots => exact execFrameStart_keeps slots
  | frameAbandoned => exact execFrameAbandoned_keeps
  | objectedFrame => exact execObjectedFrame_keeps
  | foreignFrame => exact execForeignFrame_keeps
  | sagTaken hold => exact .next (.take .onSag)
  | commitTaken hold => exact .next (.take .onCommit)
  | faultTaken hold => exact .next (.take .onFault)
  | mainsOkTaken hold => exact .next (.take .onMainsOk)
  | fallTaken hold => exact .next (.take .onFall)
  | riseTaken hold => exact .next (.take .onRise)
  | rollTaken hold => exact .next (.take .onRoll)
  | tallyTaken hold => exact .next (.take .onTally)
  | breakDriveEnd => exact execBreakDriveEnd_keeps
  | breakDetected => exact execBreakDetected_keeps
  | linkStuck => exact execLinkStuck_keeps
  | periodBoundary hold => exact execPeriodBoundary_keeps hold
  | silenceTimeout => exact execSilenceTimeout_keeps
  | measurementOverflow => exact execMeasurementOverflow_keeps
  | selectLowered => exact execSelectLowered_keeps
  | selectRaised => exact .next (.port _)
  | readState hold => exact .next ((Keeps.seeHold hold).trans (.acceptByte _))
  | readRails => exact .next (.acceptByte _)
  | readRecord => exact .next (.acceptByte _)
  | readLastRecord => exact .next (.acceptByte _)
  | readRoster => exact .next (.acceptByte _)
  | acknowledge => exact .next (.acceptByte _)
  | unknownCommand code => exact .ite (fun _ => .next (.acceptByte _)) fun _ => .stay
  | commandBit bit hold => exact .next ((Keeps.seeHold hold).trans (.takeBit bit))
  | replyBit => exact execReplyBit_keeps
  | transitionBoostEnd i => exact execTransitionBoostEnd_keeps i
  | activeTimeEnd => exact execActiveTimeEnd_keeps
  | lineGoesRecessive => exact execLineGoesRecessive_keeps
  | dimInSample level => exact execDimInSample_keeps level

theorem Keeps.tick : Keeps s s.tick where
  phase h := h.congr .rfl rfl rfl rfl rfl
  rails h := h.tick
  claims h := by
    intro due
    refine h (due.imp_right fun reclaim => ?_)
    cases waits : s.line.reclaim <;> simp_all [State.tick, countDown]
  report h := h.congr rfl rfl
  attempts h := h.congr rfl rfl rfl
  resends h := h.congr rfl rfl
  filters h := h.congr rfl rfl rfl rfl rfl
  roster h := h.congr .rfl rfl rfl rfl

theorem Keeps.queue (q : List Instr) : Keeps s { s with pending := q } := .of_view rfl

/-- Whatever step the station takes, it keeps every invariant. -/
theorem step_keeps {t : State} (h : step s = .next t) : Keeps s t := by
  unfold step at h
  split at h
  · unfold State.idleStep at h
    split at h
    · exact exec_keeps _ t h
    · cases h
      exact .tick
  · exact (Keeps.queue _).trans (exec_keeps _ t h)

end Steps

end Sys2Proof.Machine

namespace Sys2Proof

open Machine

/-- Settles O55: the phase is one of the invariants that every step keeps. -/
theorem everyStepKeepsThePhaseLegal : Obligations.EveryStepKeepsThePhaseLegal :=
  fun _ _ legal steps => (step_keeps steps).phase legal

/-- Settles O56: a step takes rails that are fine to rails that are fine. -/
theorem everyStepKeepsTheRailsCoherent : Obligations.EveryStepKeepsTheRailsCoherent :=
  fun s t coherent off steps =>
    t.railsFine_iff.mp ((step_keeps steps).rails (s.railsFine_iff.mpr ⟨coherent, off⟩))

/-- Settles O58: the counts and the filters are kept by every step. -/
theorem everyStepKeepsTheCountsBounded : Obligations.EveryStepKeepsTheCountsBounded :=
  fun _ _ attempts resends filters steps =>
    have keeps := step_keeps steps
    ⟨keeps.attempts attempts, keeps.resends resends, keeps.filters filters⟩

/-- Settles O59: the roster is kept by every step. -/
theorem everyStepKeepsTheRosterOrdered : Obligations.EveryStepKeepsTheRosterOrdered :=
  fun _ _ ordered steps => (step_keeps steps).roster ordered

end Sys2Proof

/-! No free line is left with a notice to send: the commands that can queue a notice or free the
line end with the look at the line, and the others change neither. -/

namespace Sys2Proof.Machine

section Sends

variable {s t : State}

/-- The line is not free. -/
def State.lineBusy (s : State) : Prop := s.notices.link ≠ .free

theorem State.lineBusy.sends (h : s.lineBusy) : s.sendsWhenFree := fun free => absurd free h

theorem State.sendsWhenFree.congr (h : s.sendsWhenFree) (link : t.notices.link = s.notices.link)
    (outbound : t.notices.outbound = s.notices.outbound) : t.sendsWhenFree := by
  intro free k
  rw [State.pendingOf, outbound]
  exact h (link ▸ free) k

theorem State.beginFrame_busy (s : State) : s.beginFrame.lineBusy := by
  unfold State.beginFrame State.firstEdge State.lineBusy
  split <;> simp

/-- An empty outbound set has no lowest notice. -/
theorem Outbound.get_of_lowest_none {o : Outbound} (h : o.lowest = none) (k : Kind) :
    o.get k = none := by
  have none' := (List.findSome?_eq_none_iff.mp h) k (by cases k <;> simp [kinds])
  simpa using none'

theorem State.sendIfFree_sends (s : State) : s.sendIfFree.sendsWhenFree := by
  unfold State.sendIfFree
  split
  case isTrue => exact s.beginFrame_busy.sends
  case isFalse holds =>
    intro free k
    have empty : s.notices.outbound.lowest = none := by simpa [State.maySend, free] using holds
    exact Outbound.get_of_lowest_none empty k

theorem State.conclude_sends (s : State) : s.conclude.sendsWhenFree := State.sendIfFree_sends _

theorem State.issueBreak_busy (h : s.lineBusy) : s.issueBreak.lineBusy := by
  unfold State.issueBreak State.lineBusy
  split <;> simp_all [State.lineBusy]

/-- From a free line the falling edge of the BREAK begins a frame (R65). -/
theorem State.sendsWhenFree.issueBreak (h : s.sendsWhenFree) : s.issueBreak.sendsWhenFree := by
  by_cases free : s.notices.link = .free
  case neg => exact (State.issueBreak_busy free).sends
  case pos =>
    unfold State.issueBreak
    rw [free]
    split
    case h_4 => exact State.lineBusy.sends (by simp [State.lineBusy, State.firstEdge])
    all_goals simp_all

/-! ### What leaves the link alone -/

@[simp] theorem State.requesterDropped_link (s : State) (k : Kind) :
    (s.requesterDropped k).notices.link = s.notices.link := by
  unfold State.requesterDropped
  repeat' split
  all_goals simp

@[simp] theorem State.recordClash_link (s : State) :
    s.recordClash.notices.link = s.notices.link := by
  unfold State.recordClash; dsimp only
  split <;> simp [State.queueStationFault]

@[simp] theorem State.requestAtOff_link (s : State) :
    s.requestAtOff.notices.link = s.notices.link := by
  unfold State.requestAtOff
  repeat' split
  all_goals simp

@[simp] theorem State.requesterEntersOff_link (s : State) :
    s.requesterEntersOff.notices.link = s.notices.link := by
  unfold State.requesterEntersOff
  repeat' split
  all_goals simp

@[simp] theorem State.firstBoundary_link (s : State) :
    s.firstBoundary.notices.link = s.notices.link := by
  unfold State.firstBoundary
  split <;> simp

@[simp] theorem State.queueRoll_link (s : State) : s.queueRoll.notices.link = s.notices.link :=
  s.queueNotice_link _ _ _

@[simp] theorem State.holdFaultFound_notices (s : State) :
    s.holdFaultFound.notices = s.notices := by
  simp [State.holdFaultFound]

@[simp] theorem State.reclaimNow_notices (s : State) : s.reclaimNow.notices = s.notices := by
  unfold State.reclaimNow; dsimp only
  split <;> simp

@[simp] theorem State.quietExpired_notices (s : State) : s.quietExpired.notices = s.notices := by
  unfold State.quietExpired; dsimp only
  split <;> rfl

@[simp] theorem State.muteExpired_notices (s : State) : s.muteExpired.notices = s.notices := by
  unfold State.muteExpired; dsimp only
  split <;> rfl

@[simp] theorem State.sampleDimIn_notices (s : State) (level : Bool) :
    (s.sampleDimIn level).notices = s.notices := by
  unfold State.sampleDimIn; dsimp only
  split <;> rfl

theorem State.requesterDropped_busy {k : Kind} (h : s.lineBusy) :
    (s.requesterDropped k).lineBusy := by
  simpa [State.lineBusy] using h

theorem State.dropNotice_busy {k : Kind} (h : s.lineBusy) : (s.dropNotice k).lineBusy := by
  unfold State.dropNotice; dsimp only
  split
  case h_1 => exact State.issueBreak_busy h
  case h_2 => exact State.issueBreak_busy h
  case h_3 => exact State.issueBreak_busy h
  case h_5 => exact State.requesterDropped_busy h
  case h_6 => exact State.requesterDropped_busy h
  all_goals exact h

theorem State.returnInFlight_busy {charged : Bool} (h : s.lineBusy) :
    (s.returnInFlight charged).lineBusy := by
  unfold State.returnInFlight; dsimp only
  split
  · exact h
  · split
    · exact State.dropNotice_busy h
    · split
      · exact h
      · exact h

theorem State.meetFate_busy {fate : SendFate} (h : s.lineBusy) : (s.meetFate fate).lineBusy := by
  cases fate with
  | sending => exact h
  | lostArbitration => exact State.returnInFlight_busy h
  | collided =>
    exact State.returnInFlight_busy (by simpa [State.lineBusy] using h)
  | driveFault => exact State.returnInFlight_busy h

theorem State.readSlots_busy (sending : Bool) (slots : List Bool) (s : State) :
    (s.readSlots sending slots).lineBusy :=
  State.meetFate_busy (by simp [State.lineBusy])

theorem State.hearFrame_busy {slots : List Bool} (h : s.lineBusy) :
    (s.hearFrame slots).lineBusy := by
  unfold State.hearFrame
  split
  case h_1 =>
    split
    · exact State.readSlots_busy _ _ _
    · exact h
  all_goals exact h

theorem State.sendsWhenFree.take {k : Kind} {hold : Bool} {act : Notice → Bool → State → State}
    (h : s.sendsWhenFree) : (s.take k hold act).sendsWhenFree := by
  unfold State.take
  split
  · exact State.conclude_sends _
  · exact h

theorem State.sendsWhenFree.completeCommand (h : s.sendsWhenFree) (b : Byte) :
    (s.completeCommand b).sendsWhenFree := by
  unfold State.completeCommand; dsimp only
  split <;> exact h

theorem State.sendsWhenFree.acceptByte (h : s.sendsWhenFree) (b : Byte) :
    (s.acceptByte b).sendsWhenFree := by
  unfold State.acceptByte
  split
  · split
    · exact h.completeCommand b
    · exact h
  · exact h
  · exact h

theorem State.sendsWhenFree.takeBit (h : s.sendsWhenFree) (bit : Bool) :
    (s.takeBit bit).sendsWhenFree := by
  unfold State.takeBit
  split
  · split
    · exact h
    · exact h.completeCommand _
  · exact h
  · exact h

theorem State.sendsWhenFree.seeHold (h : s.sendsWhenFree) (level : Bool) :
    (s.seeHold level).sendsWhenFree := h.congr (by simp) (by simp)

/-- A free line with a notice pending is no outcome. -/
def State.outcomeSends (s : State) (o : Result) : Prop :=
  s.sendsWhenFree → ∀ t, o = .next t → t.sendsWhenFree

theorem State.outcomeSends.next {t : State} (h : s.sendsWhenFree → t.sendsWhenFree) :
    s.outcomeSends (.next t) := by
  rintro before _ ⟨⟩
  exact h before

/-- The notices stay as they are. -/
theorem State.outcomeSends.same {t : State} (link : t.notices.link = s.notices.link)
    (outbound : t.notices.outbound = s.notices.outbound) : s.outcomeSends (.next t) :=
  .next fun h => h.congr link outbound

theorem State.outcomeSends.stay : s.outcomeSends (.next s) := .next id

theorem State.outcomeSends.busy {t : State} (h : t.lineBusy) : s.outcomeSends (.next t) :=
  .next fun _ => h.sends

theorem State.outcomeSends.conclude (u : State) : s.outcomeSends (.next u.conclude) :=
  .next fun _ => u.conclude_sends

theorem State.outcomeSends.sendIfFree (u : State) : s.outcomeSends (.next u.sendIfFree) :=
  .next fun _ => u.sendIfFree_sends

theorem State.outcomeSends.ite {p : Prop} [Decidable p] {a b : Result}
    (yes : s.outcomeSends a) (no : s.outcomeSends b) :
    s.outcomeSends (if p then a else b) := by
  split
  · exact yes
  · exact no

open State.outcomeSends

theorem execRst_sends (micros : Nat) : s.outcomeSends (execRst micros s) :=
  ite (busy nofun) (ite (busy nofun) (same rfl rfl))

theorem State.finishLoading_sends (image : List Byte) (hold : Bool) :
    s.outcomeSends (.next (s.finishLoading image hold)) := by
  unfold State.finishLoading
  split
  · exact same rfl rfl
  · refine busy ?_
    have waiting : (s.configured image hold).notices.link = .waiting := rfl
    simp only [State.loadSucceeds_eq, State.lineBusy, State.queueRoll_link,
      State.requesterEntersOff_link, State.firstBoundary_link, waiting]
    nofun

theorem execHoldLineFault_sends : s.outcomeSends (execHoldLineFault s) :=
  ite (ite (same (by simp) (by simp)) (sendIfFree _)) stay

theorem execReclaimDelayEnd_sends : s.outcomeSends (execReclaimDelayEnd s) :=
  ite (same (by simp) (by simp)) stay

theorem State.sendsWhenFree.budgetExpired (h : s.sendsWhenFree) :
    s.budgetExpired.sendsWhenFree := by
  unfold State.budgetExpired
  split
  case h_1 => exact h.issueBreak
  all_goals exact h

theorem execBudgetExpiry_sends : s.outcomeSends (execBudgetExpiry s) :=
  ite (next fun h =>
    State.sendsWhenFree.budgetExpired (s := { s with holdUp := s.holdUp.matchP }) h) stay

theorem execRestTimeExpiry_sends : s.outcomeSends (execRestTimeExpiry s) :=
  ite (ite (ite (sendIfFree _) (same rfl rfl)) (same rfl rfl)) stay

theorem execBusFree_sends : s.outcomeSends (execBusFree s) := by
  unfold execBusFree
  split
  case h_1 => exact sendIfFree _
  all_goals exact stay

theorem execFrameStart_sends (slots : List Bool) : s.outcomeSends (execFrameStart slots s) := by
  unfold execFrameStart
  split
  case h_1 => exact busy (State.hearFrame_busy s.beginFrame_busy)
  case h_2 link => exact busy (State.hearFrame_busy (by simp [State.lineBusy, link]))
  all_goals exact stay

theorem State.endFrame_busy (s : State) : s.endFrame.lineBusy := nofun

theorem execFrameAbandoned_sends : s.outcomeSends (execFrameAbandoned s) := by
  unfold execFrameAbandoned
  split
  case h_1 => exact busy (State.returnInFlight_busy s.endFrame_busy)
  all_goals exact stay

theorem execObjectedFrame_sends : s.outcomeSends (execObjectedFrame s) := by
  unfold execObjectedFrame
  split
  case h_1 =>
    exact ite (busy (State.returnInFlight_busy (s := s.endFrame.countObjection) nofun)) stay
  all_goals exact stay

theorem execForeignFrame_sends : s.outcomeSends (execForeignFrame s) := by
  unfold execForeignFrame
  split
  case h_1 =>
    exact ite (busy (State.returnInFlight_busy (s := s.endFrame.countForeign) nofun)) stay
  all_goals exact stay

theorem execBreakDetected_sends : s.outcomeSends (execBreakDetected s) := by
  unfold execBreakDetected
  split
  case h_4 => exact stay
  case h_5 => exact stay
  all_goals exact conclude _

theorem execLinkStuck_sends : s.outcomeSends (execLinkStuck s) := by
  unfold execLinkStuck
  split
  case h_1 => exact same rfl rfl
  all_goals exact stay

theorem execLineGoesRecessive_sends : s.outcomeSends (execLineGoesRecessive s) := by
  unfold execLineGoesRecessive
  split
  case h_1 => exact ite (busy nofun) stay
  all_goals exact stay

theorem execSelectLowered_sends : s.outcomeSends (execSelectLowered s) := by
  refine ite stay ?_
  split
  · exact same rfl rfl
  · exact stay
  · exact stay

theorem execReplyBit_sends : s.outcomeSends (execReplyBit s) := by
  unfold execReplyBit
  split
  · exact same rfl rfl
  · exact stay
  · exact stay

theorem exec_sends (c : Instr) : s.outcomeSends (exec c s) := by
  cases c with
  | supplyStart a b => exact busy nofun
  | rst micros => exact execRst_sends micros
  | rstRelease a b => exact ite (same rfl rfl) stay
  | memoryNoAcknowledge => exact ite (same rfl rfl) stay
  | readFailed cause => exact ite (same rfl rfl) stay
  | imageReadComplete image hold => exact ite (s.finishLoading_sends image hold) stay
  | senseSample x => exact ite (conclude _) stay
  | mainsHeldEvent => exact ite (sendIfFree _) stay
  | riseLimitExpiry i hold => exact ite (conclude _) stay
  | settleExpiry i hold => exact ite (conclude _) stay
  | fallLimitExpiry i hold => exact ite (conclude _) stay
  | dischargeExpiry i hold => exact ite (conclude _) stay
  | blankWaitExpiry hold => exact ite (conclude _) stay
  | minimumHold hold => exact ite (conclude _) stay
  | reclaimDelayEnd => exact execReclaimDelayEnd_sends
  | rise => exact ite (conclude _) stay
  | holdLineFault => exact execHoldLineFault_sends
  | rollTimeoutExpiry hold => exact ite (sendIfFree _) stay
  | phaseLimitExpiry hold => exact ite (sendIfFree _) stay
  | windowExpiry => exact ite (sendIfFree _) stay
  | budgetExpiry => exact execBudgetExpiry_sends
  | quietTimerExpiry => exact ite (same (by simp) (by simp)) stay
  | retryDelayExpiry => exact ite (ite (sendIfFree _) (same rfl rfl)) stay
  | restTimeExpiry => exact execRestTimeExpiry_sends
  | muteReleaseExpiry => exact ite (same (by simp) (by simp)) stay
  | busFree => exact execBusFree_sends
  | frameStart slots => exact execFrameStart_sends slots
  | frameAbandoned => exact execFrameAbandoned_sends
  | objectedFrame => exact execObjectedFrame_sends
  | foreignFrame => exact execForeignFrame_sends
  | sagTaken hold => exact next (·.take)
  | commitTaken hold => exact next (·.take)
  | faultTaken hold => exact next (·.take)
  | mainsOkTaken hold => exact next (·.take)
  | fallTaken hold => exact next (·.take)
  | riseTaken hold => exact next (·.take)
  | rollTaken hold => exact next (·.take)
  | tallyTaken hold => exact next (·.take)
  | breakDriveEnd => exact ite (same rfl rfl) stay
  | breakDetected => exact execBreakDetected_sends
  | linkStuck => exact execLinkStuck_sends
  | periodBoundary hold => exact ite (conclude _) stay
  | silenceTimeout => exact ite (same rfl rfl) stay
  | measurementOverflow => exact ite (same rfl rfl) stay
  | selectLowered => exact execSelectLowered_sends
  | selectRaised => exact same rfl rfl
  | readState hold => exact next fun h => (h.seeHold hold).acceptByte _
  | readRails => exact next (·.acceptByte _)
  | readRecord => exact next (·.acceptByte _)
  | readLastRecord => exact next (·.acceptByte _)
  | readRoster => exact next (·.acceptByte _)
  | acknowledge => exact next (·.acceptByte _)
  | unknownCommand code => exact ite (next (·.acceptByte _)) stay
  | commandBit bit hold => exact next fun h => (h.seeHold hold).takeBit bit
  | replyBit => exact execReplyBit_sends
  | transitionBoostEnd i => exact ite (same rfl rfl) stay
  | activeTimeEnd => exact ite (same rfl rfl) stay
  | lineGoesRecessive => exact execLineGoesRecessive_sends
  | dimInSample level => exact ite (same (by simp) (by simp)) stay

theorem step_sends (h : s.sendsWhenFree) (steps : step s = .next t) : t.sendsWhenFree := by
  unfold step at steps
  split at steps
  case h_1 =>
    unfold State.idleStep at steps
    split at steps
    · exact exec_sends _ h t steps
    · cases steps
      exact h
  case h_2 rest _ => exact exec_sends _ (h.congr (t := { s with pending := rest }) rfl rfl) t steps

end Sends

end Sys2Proof.Machine

namespace Sys2Proof

open Machine

/-- Settles O57: the claims and the report are invariants that every step keeps, and every command
that can free the line or queue a notice looks at the line last. -/
theorem everyStepKeepsClaimsAndReport : Obligations.EveryStepKeepsClaimsAndReport :=
  ⟨fun _ _ claims report steps =>
    ⟨(step_keeps steps).claims claims, (step_keeps steps).report report⟩,
    fun _ _ sends steps => step_sends sends steps⟩

/-- Settles O60: the state after reset is a fresh one, and its link is dormant. -/
theorem resetHasTheInvariants : Obligations.ResetHasTheInvariants := by
  have fresh : State.reset.fresh := ⟨rfl, rfl, rfl, rfl, rfl, rfl⟩
  obtain ⟨coherent, off⟩ := State.reset.railsFine_iff.mp fresh.railsFine
  exact ⟨fresh.phaseLegal, coherent, off, fresh.claims, fresh.report, fresh.attempts,
    fresh.resends, fresh.filters, fresh.roster, State.lineBusy.sends nofun⟩

end Sys2Proof

/-! The queue and the station's own events: what the list of events that are due holds. -/

namespace Sys2Proof.Machine

section DueEvents

variable {s : State} {c : Instr}

theorem OneShot.due_iff (t : OneShot) : t.due = true ↔ t = .running 0 := by
  cases t <;> simp [OneShot.due]

theorem mem_railIndices : ∀ i : Fin 8, i ∈ railIndices := by decide

theorem dueIf_eq_some {cond : Bool} {d : Instr} :
    dueIf cond d = some c ↔ cond = true ∧ c = d := by
  simp [dueIf, eq_comm]

theorem State.railDue_eq_some {i : Fin 8} :
    s.railDue i = some c ↔
      (s.rail i).timer = .running 0 ∧
        ((s.rail i).state = .ramping ∧ c = .riseLimitExpiry i s.line.high ∨
          (s.rail i).state = .settling ∧ c = .settleExpiry i s.line.high ∨
          (s.rail i).state = .falling ∧ c = .fallLimitExpiry i s.line.high ∨
          (s.rail i).state = .discharging ∧ c = .dischargeExpiry i s.line.high) := by
  unfold State.railDue
  rw [← OneShot.due_iff]
  split
  case isTrue due => cases state : (s.rail i).state <;> simp [due, eq_comm]
  case isFalse due => simp [due]

theorem State.boostDue_eq_some {i : Fin 8} :
    s.boostDue i = some c ↔ (s.rail i).boost = some 0 ∧ c = .transitionBoostEnd i := by
  rw [State.boostDue, dueIf_eq_some, beq_iff_eq]

theorem State.phaseDue_eq_some :
    s.phaseDue = some c ↔
      s.timers.phase = .running 0 ∧
        (s.timers.phaseSetting = .phaseLimit ∧ c = .phaseLimitExpiry s.line.high ∨
          s.timers.phaseSetting = .rollTimeout ∧ c = .rollTimeoutExpiry s.line.high) := by
  unfold State.phaseDue
  rw [← OneShot.due_iff]
  split
  case isTrue due => cases setting : s.timers.phaseSetting <;> simp [due, eq_comm]
  case isFalse due => simp [due]

theorem State.retryDue_eq_some :
    s.retryDue = some c ↔
      s.timers.retry = .running 0 ∧
        (s.timers.retrySetting = .retryDelay ∧ c = .retryDelayExpiry ∨
          s.timers.retrySetting = .restTime ∧ c = .restTimeExpiry) := by
  unfold State.retryDue
  rw [← OneShot.due_iff]
  split
  case isTrue due => cases setting : s.timers.retrySetting <;> simp [due, eq_comm]
  case isFalse due => simp [due]

/-- An event that is due is a rail's, a boost's or one of the single counters'. -/
theorem State.mem_dueList :
    some c ∈ s.dueList ↔
      (∃ i, s.railDue i = some c) ∨ (∃ i, s.boostDue i = some c) ∨
        s.ctl.blankTimer.due = true ∧ c = .blankWaitExpiry s.line.high ∨
        s.holdUp.windowDue = true ∧ c = .windowExpiry ∨
        s.holdUp.budgetDue = true ∧ c = .budgetExpiry ∨
        s.phaseDue = some c ∨
        s.timers.quiet.due = true ∧ c = .quietTimerExpiry ∨
        s.retryDue = some c ∨
        s.timers.mute.due = true ∧ c = .muteReleaseExpiry ∨
        s.dwellDue = true ∧ c = .mainsHeldEvent ∨
        s.minHoldDue = true ∧ c = .minimumHold s.line.high ∨
        s.line.reclaim = some 0 ∧ c = .reclaimDelayEnd ∨
        s.overlongDue = true ∧ c = .frameAbandoned ∨
        s.ownBreakDue = true ∧ c = .breakDetected ∨
        s.notices.breakDrive = some 0 ∧ c = .breakDriveEnd ∨
        s.boundaryDue = true ∧ c = .periodBoundary s.line.high ∨
        s.dim.activeLeft = some 0 ∧ c = .activeTimeEnd ∨
        s.silenceDue = true ∧ c = .silenceTimeout ∨
        s.overflowDue = true ∧ c = .measurementOverflow ∨
        s.sampleDue = true ∧ c = .senseSample { s.front.levels with hold := s.line.high } ∨
        s.dimInSampleDue = true ∧ c = .dimInSample s.front.dimInLevel := by
  unfold State.dueList
  simp only [List.mem_append, List.mem_map, mem_railIndices, true_and, List.mem_cons,
    List.not_mem_nil, or_false, eq_comm (a := some c), dueIf_eq_some, beq_iff_eq, or_assoc]

theorem State.dwellDue_iff :
    s.dwellDue = true ↔
      s.front.msns.accepted = some .ok ∧
        ∃ n, s.front.dwell = some n ∧ s.settings.recoveryDwell * 100 ≤ n := by
  unfold State.dwellDue
  cases s.front.dwell with
  | none => simp
  | some n => simp [show Config.tenthMs = 100 from rfl, and_comm]

theorem State.minHoldDue_iff :
    s.minHoldDue = true ↔
      s.line.claimed = true ∧ s.line.minHold = false ∧ s.line.minHoldLeft = some 0 := by
  simp [State.minHoldDue, and_assoc]

theorem State.breakLasted_iff (us : Nat) :
    s.breakLasted us = true ↔ ∃ n, s.notices.breakDrive = some n ∧ us + n ≤ 48 := by
  unfold State.breakLasted
  cases s.notices.breakDrive <;> simp [show Config.breakDrive = 48 from rfl]

theorem State.overlongDue_iff :
    s.overlongDue = true ↔
      (∃ f, s.notices.link = .frame f) ∧ ∃ n, s.notices.breakDrive = some n ∧ 8 + n ≤ 48 := by
  rw [← State.breakLasted_iff]
  unfold State.overlongDue
  cases s.notices.link <;> simp [Config.overlongSlot]

theorem State.ownBreakDue_iff :
    s.ownBreakDue = true ↔
      (s.notices.link = .waiting ∨ s.notices.link = .free ∨ ∃ f, s.notices.link = .frame f) ∧
        ∃ n, s.notices.breakDrive = some n ∧ 32 + n ≤ 48 := by
  rw [← State.breakLasted_iff]
  unfold State.ownBreakDue
  cases s.notices.link <;> simp [Config.breakSeen]

theorem State.silenceDue_iff :
    s.silenceDue = true ↔
      s.captures = true ∧
        (s.dim.capture = .level ∧ s.dim.measurement ≠ none ∧ 65000 ≤ s.dim.silence ∨
          s.dim.capture = .tracking ∧
            ∃ p, s.dim.pair = some p ∧ 3 * p.period ≤ s.dim.silence) := by
  unfold State.silenceDue
  cases s.dim.capture <;> cases s.dim.pair <;>
    simp [show Config.levelSilence = 65000 from rfl, Option.isSome_iff_ne_none]

theorem State.overflowDue_iff :
    s.overflowDue = true ↔
      s.captures = true ∧ ∃ m, s.dim.measurement = some m ∧ 65536 ≤ m.since := by
  unfold State.overflowDue
  cases s.dim.measurement <;> simp [show Config.measurementLimit = 65536 from rfl]

theorem State.boundaryDue_iff :
    s.boundaryDue = true ↔
      s.loaded = true ∧ s.settings.roles.backlight = true ∧ s.dim.boundaryLeft = some 0 := by
  simp [State.boundaryDue, State.hasDimming, and_assoc]

/-- An event that is taken is due. -/
theorem State.mem_dueList_of_dueEvent (h : s.dueEvent = some c) : some c ∈ s.dueList := by
  obtain ⟨d, mem, same⟩ := List.exists_of_findSome?_eq_some h
  rwa [show d = some c from same] at mem

theorem State.not_mem_dueList_of_dueEvent (h : s.dueEvent = none) (c : Instr) :
    some c ∉ s.dueList := fun due =>
  absurd (List.findSome?_eq_none_iff.mp h _ due) (by simp)

end DueEvents

end Sys2Proof.Machine

namespace Sys2Proof

open Machine

/-- Settles O1: a step looks at the queue first. -/
theorem stepTakesTheFrontCommand : Obligations.StepTakesTheFrontCommand := by
  intro c rest s queue
  unfold step
  rw [queue]

/-- Settles O2: the list of events that are due is read off one event at a time. -/
theorem stepOnAnEmptyQueue : Obligations.StepOnAnEmptyQueue := by
  refine ⟨fun s empty => ⟨fun c due => ?_, fun none' => ?_⟩, fun s => ?_⟩
  · simp only [step, empty, State.idleStep, due]
  · simp only [step, empty, State.idleStep, none']
  · refine ⟨fun c => State.mem_dueList_of_dueEvent,
      fun none' => State.not_mem_dueList_of_dueEvent none', fun i => ?_, ?_, ?_, ?_, ?_, ?_, ?_, ?_,
      ?_, ?_, ?_, ?_, ?_, ?_, ?_, ?_, ?_, ?_, ?_, ?_, fun x => ?_, fun level => ?_⟩
    case refine_1 =>
      simp [State.mem_dueList, State.railDue_eq_some, State.boostDue_eq_some,
        State.phaseDue_eq_some, State.retryDue_eq_some, and_comm]
    all_goals
      simp [State.mem_dueList, State.railDue_eq_some, State.boostDue_eq_some,
        State.phaseDue_eq_some, State.retryDue_eq_some, OneShot.due_iff, HoldUp.windowDue_iff,
        HoldUp.budgetDue_iff, State.dwellDue_iff, State.minHoldDue_iff, State.overlongDue_iff,
        State.ownBreakDue_iff, State.boundaryDue_iff, State.silenceDue_iff, State.overflowDue_iff,
        State.sampleDue, State.dimInSampleDue, and_assoc]

end Sys2Proof

/-! Start-up, the timed drives, the one-shot counters, the sequence timers and the link at the
line: what each command does where its event is due, and that it does nothing elsewhere. -/

namespace Sys2Proof.Machine

section Counters

theorem countDown_eq_map (o : Option Nat) : countDown o = o.map (· - 1) := by cases o <;> rfl

theorem countUp_eq_map (o : Option Nat) : countUp o = o.map (· + 1) := by cases o <;> rfl

theorem ite_succ_eq_add (b : Bool) (n : Nat) : (if b then n + 1 else n) = n + b.toNat := by
  cases b <;> rfl

theorem Rail.tick_eq (r : Rail) :
    r.tick =
      { r with
        timer := r.timer.tick
        enableClock := r.enableClock + r.applied.toNat
        boost := r.boost.map (· - 1) } := by
  simp only [Rail.tick, countDown_eq_map, ite_succ_eq_add]

theorem State.rail_tick (s : State) (i : Fin 8) : s.tick.rail i = (s.rail i).tick := by
  simp [State.rail, State.tick]

theorem NoticeInterface.tick_eq (n : NoticeInterface) :
    n.tick =
      { n with
        breakDrive := n.breakDrive.map (· - 1)
        drive :=
          match n.link with
          | .frame _ => { n.drive with ticks := n.drive.ticks + 1 }
          | .dormant | .waiting | .free | .broken => n.drive } := by
  unfold NoticeInterface.tick
  rw [countDown_eq_map]
  cases link : n.link <;> simp [LinkState.inFrame]

theorem Dimming.tick_eq (captures : Bool) (d : Dimming) :
    d.tick captures =
      { d with
        measurement := d.measurement.map fun m => { m with since := m.since + captures.toNat }
        silence := d.silence + captures.toNat
        boundaryLeft := d.boundaryLeft.map (· - 1), activeLeft := d.activeLeft.map (· - 1) } := by
  cases captures <;> cases measured : d.measurement <;>
    simp [Dimming.tick, countDown_eq_map, Measurement.tick, measured]

theorem Loader.tick_eq (l : Loader) :
    l.tick = { l with busTicks := l.busTicks + l.reading.toNat } := by
  obtain ⟨held, reading, ticks, cause, profile, reason, detail⟩ := l
  cases reading <;> rfl

theorem HoldUp.tick_of_below {h : HoldUp} (runs : h.running = true) (below : h.sub + 1 < 100) :
    h.tick = { h with sub := h.sub + 1 } :=
  (if_pos runs).trans (if_pos below)

theorem HoldUp.tick_of_whole {h : HoldUp} (runs : h.running = true) (whole : 100 ≤ h.sub + 1) :
    h.tick = { h with sub := 0, count := satInc h.count } :=
  (if_pos runs).trans (if_neg (Nat.not_lt.mpr whole))

/-- Below a whole unit the ticks are counted one by one. -/
theorem HoldUp.tick_iterate_of_lt {h : HoldUp} (runs : h.running = true) (n : Nat)
    (below : h.sub + n < 100) : HoldUp.tick^[n] h = { h with sub := h.sub + n } := by
  induction n with
  | zero => rfl
  | succ n ih =>
    rw [Function.iterate_succ_apply', ih (by omega)]
    exact HoldUp.tick_of_below runs below

/-- A whole unit of the hold-up timer is 100 ticks, wherever in a unit it begins (R43). -/
theorem HoldUp.tick_iterate_hundred {h : HoldUp} (runs : h.running = true) (below : h.sub < 100) :
    HoldUp.tick^[100] h = { h with count := satInc h.count } := by
  have whole : HoldUp.tick { h with sub := 99 } = { h with sub := 0, count := satInc h.count } :=
    HoldUp.tick_of_whole runs le_rfl
  have before : HoldUp.tick^[99 - h.sub] h = { h with sub := 99 } := by
    rw [HoldUp.tick_iterate_of_lt runs _ (by omega), show h.sub + (99 - h.sub) = 99 by omega]
  have after : HoldUp.tick^[h.sub] { h with sub := 0, count := satInc h.count } =
      { h with count := satInc h.count } := by
    rw [HoldUp.tick_iterate_of_lt (by exact runs) _ (by simpa using below)]
    simp
  rw [show 100 = h.sub + (1 + (99 - h.sub)) by omega, Function.iterate_add_apply,
    Function.iterate_add_apply, before, Function.iterate_one, whole, after]

end Counters

section Expiries

variable {s : State}

theorem Dimming.silent_of_level {d : Dimming} (h : d.capture = .level) :
    d.silent = { d with measurement := none } := by
  simp [Dimming.silent, h]

theorem Dimming.silent_of_tracking {d : Dimming} (h : d.capture = .tracking) :
    d.silent = { d with capture := .level, pair := none, measurement := none } := by
  simp [Dimming.silent, h, Dimming.toLevel]

theorem Dimming.overflow_of_measuring {d : Dimming} {m : Measurement} (h : d.measurement = some m) :
    d.overflow = { d with capture := .level, pair := none, measurement := none } := by
  simp [Dimming.overflow, h, Dimming.toLevel]

theorem State.retryTimedBy_iff (c : RetrySetting) :
    s.retryTimedBy c = true ↔ s.timers.retry = .running 0 ∧ s.timers.retrySetting = c := by
  simp [State.retryTimedBy, OneShot.due_iff]

theorem State.windowExpired_eq (s : State) :
    s.windowExpired =
      { s with
        notices :=
          { s.notices with
            outbound :=
              { s.notices.outbound with
                commit :=
                  if s.seq.mode = .riding then some ⟨1, BitVec.ofNat 8 s.seq.phase, 0⟩
                  else s.notices.outbound.commit } } } := by
  unfold State.windowExpired
  split <;> rfl

end Expiries

end Sys2Proof.Machine

namespace Sys2Proof

open Machine

/-- Settles O5: an RST shorter than 10 µs leaves the choice to a free value. -/
theorem supplyStartAndRst : Obligations.SupplyStartAndRst := by
  refine ⟨fun _ _ _ => rfl, fun micros s => ⟨fun long => if_pos long, fun short => ?_⟩,
    fun prof1 prof0 s => ⟨fun held => if_pos held, fun free => if_neg (by simp [free])⟩⟩
  have rst : exec (.rst micros) s =
      if Config.shortRstTaken s.freeIndex then .next s.nextFree.heldInReset
      else .next s.nextFree := if_neg (Nat.not_le.mpr short)
  rw [rst]
  split
  · exact .inl rfl
  · exact .inr rfl

/-- Settles O6: neither outcome touches more than the loader and the mode. -/
theorem loadWithoutAnAcceptedImage : Obligations.LoadWithoutAnAcceptedImage := by
  refine ⟨fun _ s reads => ⟨if_pos reads, if_pos reads⟩,
    fun image hold r d s reads length refused => ?_⟩
  have ends : exec (.imageReadComplete image hold) s = .next (s.finishLoading image hold) :=
    if_pos (by simp [reads, length, Config.imageLength])
  rw [ends, State.finishLoading, refused]
  rfl

/-- Settles O22: each drive and each measurement ends at its own due event. -/
theorem timedDrivesEnd : Obligations.TimedDrivesEnd := by
  intro s i
  have silence : ∀ h : s.silenceDue = true,
      exec .silenceTimeout s = .next { s with dim := s.dim.silent } := fun h => if_pos h
  refine ⟨fun due => if_pos (by simp [due]), fun early => if_neg (by simpa using early),
    fun due => if_pos (by simp [due]), fun early => if_neg (by simpa using early),
    fun due => if_pos (by simp [due]), fun early => if_neg (by simpa using early),
    fun due level => ?_, fun due tracks => ?_, fun early => ?_, fun due => ?_, fun early => ?_⟩
  · rw [silence (State.silenceDue_iff.mpr due), Dimming.silent_of_level level]
  · rw [silence (State.silenceDue_iff.mpr due), Dimming.silent_of_tracking tracks]
  · exact if_neg (early ∘ State.silenceDue_iff.mp)
  · have ends : exec .measurementOverflow s = .next { s with dim := s.dim.overflow } :=
      if_pos (State.overflowDue_iff.mpr due)
    obtain ⟨-, _, measures, -⟩ := due
    rw [ends, Dimming.overflow_of_measuring measures]
  · exact if_neg (early ∘ State.overflowDue_iff.mp)

/-- Settles O31: a base tick, component by component. -/
theorem oneShotCounterTakesItsCommands : Obligations.OneShotCounterTakesItsCommands := by
  refine ⟨fun v n => ?_, fun s => ⟨fun i => (s.rail_tick i).trans (Rail.tick_eq _), ?_⟩⟩
  · have smaller : min v n = if v < n then v else n := by
      split <;> omega
    simp [OneShot.start, OneShot.startHeld, OneShot.pause, OneShot.resume, OneShot.shorten,
      OneShot.due, OneShot.tick, smaller]
  · simp only [State.tick, FrontEnd.tick, Timers.tick, countDown_eq_map, countUp_eq_map,
      NoticeInterface.tick_eq, Dimming.tick_eq, Loader.tick_eq] <;> rfl

/-- Settles O32: a hundred ticks carry the count by one, and a compare that is reached is
disarmed. -/
theorem holdUpTimerCountsAndCompares : Obligations.HoldUpTimerCountsAndCompares := by
  refine ⟨fun h below => ⟨fun runs => HoldUp.tick_iterate_hundred runs below,
    fun stands => if_neg (by simp [stands])⟩, fun s => ⟨fun early => ?_, fun due => ?_,
    fun early => ?_, fun due first => ?_⟩⟩
  · exact if_neg (early ∘ (HoldUp.windowDue_iff _).mp)
  · have ends : exec .windowExpiry s =
        .next ({ s with holdUp := s.holdUp.matchA }).windowExpired.sendIfFree :=
      if_pos ((HoldUp.windowDue_iff _).mpr due)
    rw [ends, State.windowExpired_eq]
    rfl
  · refine if_neg fun due => ?_
    obtain ⟨reached, first⟩ := (HoldUp.budgetDue_iff _).mp due
    exact early.elim (· reached) first
  · have ends : exec .budgetExpiry s = .next ({ s with holdUp := s.holdUp.matchP }).budgetExpired :=
      if_pos ((HoldUp.budgetDue_iff _).mpr ⟨due, first⟩)
    rw [ends]
    refine ⟨fun mode => ?_, fun mode => ?_, fun descends rides => ?_⟩
    · simp [State.budgetExpired, mode, HoldUp.matchP]
    · simp [State.budgetExpired, mode, HoldUp.matchP]
    · cases mode : s.seq.mode <;>
        simp_all [State.budgetExpired, HoldUp.matchP]

/-- Settles O33: each timer's expiry looks at the mode, and the retry timer's at the wait. -/
theorem sequenceTimersAct : Obligations.SequenceTimersAct := by
  refine ⟨fun s => ⟨fun early => ?_, fun due => ?_, fun early => ?_, fun due => ?_⟩,
    fun s => ⟨fun early => ?_, fun due => ⟨fun waits => ?_, fun other => ?_⟩, fun early => ?_,
      fun due => ⟨fun waits => ⟨fun returned => ?_, fun gone => ?_⟩, fun other => ?_⟩⟩⟩
  · exact if_neg (early ∘ (OneShot.due_iff _).mp)
  · have ends : exec .quietTimerExpiry s = .next s.quietExpired :=
      if_pos ((OneShot.due_iff _).mpr due)
    rw [ends, State.quietExpired]
    dsimp only
    split <;> rfl
  · exact if_neg (early ∘ (OneShot.due_iff _).mp)
  · have ends : exec .muteReleaseExpiry s = .next s.muteExpired :=
      if_pos ((OneShot.due_iff _).mpr due)
    rw [ends, State.muteExpired]
    dsimp only
    split <;> rfl
  · exact if_neg (early ∘ (State.retryTimedBy_iff _).mp)
  · exact (if_pos ((State.retryTimedBy_iff _).mpr due)).trans (if_pos waits)
  · exact (if_pos ((State.retryTimedBy_iff _).mpr due)).trans (if_neg other)
  · exact if_neg (early ∘ (State.retryTimedBy_iff _).mp)
  · exact (if_pos ((State.retryTimedBy_iff _).mpr due)).trans
      ((if_pos waits).trans (if_pos returned))
  · exact (if_pos ((State.retryTimedBy_iff _).mpr due)).trans
      ((if_pos waits).trans (if_neg (by simpa using gone)))
  · exact (if_pos ((State.retryTimedBy_iff _).mpr due)).trans (if_neg other)

/-- Settles O36: each of the three events moves one state of the link. -/
theorem linkFollowsTheLine : Obligations.LinkFollowsTheLine := by
  intro s
  refine ⟨fun link => ?_, fun link => ?_, fun link => ⟨?_, fun drive => ?_, fun drive => ?_⟩,
    fun link => ⟨?_, ?_⟩⟩
  · show execBusFree s = _
    rw [execBusFree, link]
  · show execBusFree s = _
    unfold execBusFree
    split
    case h_1 waits => exact absurd waits link
    all_goals rfl
  · show execLinkStuck s = _
    rw [execLinkStuck, link]
  · show execLineGoesRecessive s = _
    rw [execLineGoesRecessive, link]
    exact if_pos (by simp [drive])
  · show execLineGoesRecessive s = _
    rw [execLineGoesRecessive, link]
    exact if_neg (by simpa using drive)
  · show execLinkStuck s = _
    unfold execLinkStuck
    split
    case h_1 broken => exact absurd broken link
    all_goals rfl
  · show execLineGoesRecessive s = _
    unfold execLineGoesRecessive
    split
    case h_1 broken => exact absurd broken link
    all_goals rfl

end Sys2Proof

/-! The pins: each output read off the state, and the first levels of a read of the serial
memory. -/

namespace Sys2Proof.Machine

section Levels

variable {s : State}

@[simp] theorem Pin.drive_true : Pin.drive true = .high := rfl

@[simp] theorem Pin.drive_false : Pin.drive false = .low := rfl

theorem Mode.loaded_eq_false_iff (m : Mode) :
    m.loaded = false ↔ m = .loading ∨ m = .silent ∨ m = .unconfigured := by
  cases m <;> simp [Mode.loaded]

theorem State.lgood_iff :
    s.lgood = true ↔
      (s.seq.mode = .on ∨ s.seq.mode = .riding) ∧
        ∀ i, (s.entry i).present = true → (s.rail i).state ≠ .shed → (s.rail i).state = .good := by
  simp only [State.lgood, Bool.and_eq_true, Bool.or_eq_true, beq_iff_eq, List.all_eq_true,
    mem_railIndices, forall_const, Bool.not_eq_true']
  refine and_congr_right fun _ => forall_congr' fun i => ?_
  cases (s.entry i).present <;> simp [or_iff_not_imp_left]

theorem State.enPin_of_absent {i : Fin 8} (h : s.loaded = false ∨ (s.entry i).present = false) :
    s.enPin i = .highImpedance := by
  rcases h with h | h <;> simp [State.enPin, h]

theorem State.enPin_of_present {i : Fin 8} (loaded : s.loaded = true)
    (present : (s.entry i).present = true) : s.enPin i = (s.rail i).enablePin (s.entry i) := by
  simp [State.enPin, loaded, present]

theorem Rail.enablePin_of_not_asserted {e : RailEntry} {r : Rail} (h : r.applied = e.activeLow) :
    r.enablePin e = .low := by
  cases drive : e.drive <;> simp [Rail.enablePin, enableLevel, h, drive]

theorem Rail.enablePin_of_asserted {e : RailEntry} {r : Rail} (h : r.applied ≠ e.activeLow) :
    (e.drive = .pushPull → r.enablePin e = .high) ∧
      (e.drive = .openDrain → r.enablePin e = .highImpedance) ∧
      (e.drive = .openDrainBoost →
        r.enablePin e = if r.boost = none then .highImpedance else .high) := by
  have level : enableLevel e r.applied = true := by simpa [enableLevel] using h
  refine ⟨fun drive => ?_, fun drive => ?_, fun drive => ?_⟩
  · simp [Rail.enablePin, level, drive]
  · simp [Rail.enablePin, level, drive]
  · cases boost : r.boost <;> simp [Rail.enablePin, level, drive, boost]

theorem Rail.applyEnable_of_ne {e : RailEntry} {r : Rail} {level : Bool} (h : r.applied ≠ level) :
    r.applyEnable e level =
      { r with
        applied := level
        boost := if e.drive = .openDrainBoost then some 1 else r.boost
        enableClock := if level then 0 else r.enableClock } :=
  if_neg h

theorem Rail.applyEnable_self (e : RailEntry) (r : Rail) : r.applyEnable e r.applied = r :=
  if_pos rfl

theorem State.discharges_iff {k : Fin 4} :
    s.discharges k = true ↔
      ∃ i, (s.entry i).present = true ∧ (s.entry i).discharge = some k ∧
        (s.rail i).dischargeRequest = true := by
  simp [State.discharges, mem_railIndices, and_assoc]

theorem State.disPin_of_loaded {k : Fin 4} (loaded : s.loaded = true) :
    s.disPin k = .drive (s.discharges k) := if_pos loaded

theorem State.alert_iff :
    s.alert = true ↔ s.seq.mode = .unconfigured ∨ s.loaded = true ∧ s.cur.alertPending = true := by
  simp [State.alert]

theorem State.drivesMute_iff :
    s.drivesMute = true ↔
      s.seq.mode = .unconfigured ∨ s.loaded = true ∧ s.settings.roles.panel = true := by
  simp [State.drivesMute]

theorem State.dimActive_iff :
    s.dimActive = true ↔ (s.seq.mode = .on ∨ s.seq.mode = .riding) ∧ s.dim.active = true := by
  simp [State.dimActive]

theorem State.dimOutPin_of_dims (h : s.loaded = true ∧ s.settings.roles.backlight = true) :
    s.dimOutPin = .drive (s.dimActive != s.settings.dimActiveLow) := by
  simp [State.dimOutPin, State.hasDimming, h]

end Levels

/-! ### DATA -/

section Data

variable {s : State} {f : Frame}

theorem State.dataPin_of_break (h : s.notices.breakDrive ≠ none) : s.dataPin = .low := by
  simp [State.dataPin, Option.isSome_iff_ne_none.mpr h]

theorem State.dataPin_of_no_frame (released : s.notices.breakDrive = none)
    (h : ∀ f, s.notices.link ≠ .frame f) : s.dataPin = .highImpedance := by
  have idle : s.notices.link.inFrame = false := by
    cases link : s.notices.link with
    | frame f => exact absurd link (h f)
    | dormant | waiting | free | broken => rfl
  simp [State.dataPin, released, State.drivesSlot, idle]

/-- DATA in a frame: low while the drive of the slot lasts. -/
theorem State.dataPin_of_frame (released : s.notices.breakDrive = none)
    (link : s.notices.link = .frame f) :
    s.dataPin =
      if s.notices.drive.ticks % 8 < s.slotMicros (s.notices.drive.ticks / 8) then .low
      else .highImpedance := by
  simp [State.dataPin, released, State.drivesSlot, link, LinkState.inFrame,
    show Config.slotTime = 8 from rfl]

theorem State.slotMicros_of_ne {k : Nat} (h : k ≠ 32) :
    s.slotMicros k = s.notices.drive.micros.getD k 0 :=
  if_neg h

theorem State.slotMicros_last (link : s.notices.link = .frame f) :
    s.slotMicros 32 =
      if f.sending then 2
      else if f.received then dominantMicros f.checkMatches
      else 0 := by
  have last : s.slotMicros 32 = match s.lastSlotBit with
    | some bit => dominantMicros bit
    | none => 0 := if_pos rfl
  rw [last]
  unfold State.lastSlotBit State.objectionBit
  cases sending : f.sending <;> cases received : f.received <;>
    simp [link, sending, received, dominantMicros]

end Data

/-! ### The serial memory -/

section Bus

theorem busLevelsFrom_clock_of_lt (rest : List BusPhase) {t : Nat} (h : t < 10) :
    busLevelsFrom (busClock true ++ rest) true t = (decide (5 ≤ t), true) := by
  simp only [busClock, List.cons_append, List.nil_append, busLevelsFrom, Option.getD_none,
    Option.getD_some]
  split
  · simp; omega
  · split
    · simp; omega
    · rw [if_pos (by omega)]; simp; omega

theorem busLevelsFrom_clock_of_ge (rest : List BusPhase) {t : Nat} (h : 10 ≤ t) :
    busLevelsFrom (busClock true ++ rest) true t = busLevelsFrom rest true (t - 10) := by
  simp only [busClock, List.cons_append, List.nil_append, busLevelsFrom, Option.getD_none,
    Option.getD_some]
  rw [if_neg (by omega), if_neg (by omega), if_neg (by omega), Nat.sub_sub, Nat.sub_sub]

/-- SCL in clocks with SDA released, and where what follows them begins. -/
theorem busLevelsFrom_clocks (rest : List BusPhase) (n t : Nat) :
    busLevelsFrom ((List.replicate n (busClock true)).flatten ++ rest) true t =
      if t < 10 * n then (decide (5 ≤ t % 10), true) else busLevelsFrom rest true (t - 10 * n) := by
  induction n generalizing t with
  | zero => simp
  | succ n ih =>
    rw [List.replicate_succ, List.flatten_cons, List.append_assoc]
    by_cases first : t < 10
    · rw [busLevelsFrom_clock_of_lt _ first, if_pos (by omega), Nat.mod_eq_of_lt first]
    · rw [busLevelsFrom_clock_of_ge _ (by omega), ih]
      by_cases within : t < 10 * (n + 1)
      · rw [if_pos within, if_pos (by omega), show t % 10 = (t - 10) % 10 by omega]
      · rw [if_neg within, if_neg (by omega)]
        congr 1
        omega

/-- The levels of a stop and of the start after it, from SDA released. -/
theorem busLevelsFrom_stop_start (rest : List BusPhase) {t : Nat} (h : 5 ≤ t) (bound : t < 25) :
    busLevelsFrom (BusAction.phases .stop ++ (BusAction.phases .start ++ rest)) true t =
      (true, decide (10 ≤ t ∧ t < 20)) := by
  simp only [BusAction.phases, busClock, List.cons_append, List.nil_append, busLevelsFrom,
    Option.getD_none, Option.getD_some]
  repeat' split
  all_goals
    simp
    omega

/-- What the loader does first: nine clocks, a stop and a start. -/
theorem busLevels_eq (t : Nat) :
    ∃ rest, busLevels t =
      if t < 90 then (decide (5 ≤ t % 10), true)
      else
        busLevelsFrom (BusAction.phases .stop ++ (BusAction.phases .start ++ rest)) true
          (t - 90) := by
  have frees : freeBus.flatMap BusAction.phases =
      (List.replicate 9 (busClock true)).flatten ++ BusAction.phases .stop := rfl
  obtain ⟨actions, reads⟩ : ∃ actions, readTransaction = .start :: actions := ⟨_, rfl⟩
  refine ⟨actions.flatMap BusAction.phases, ?_⟩
  rw [busLevels, List.flatMap_append, frees, reads, List.flatMap_cons, List.append_assoc,
    busLevelsFrom_clocks]

section Read

variable {s : State}

theorem Pin.openDrain_ne_high (released : Bool) : Pin.openDrain released ≠ .high := by
  cases released <;> nofun

theorem State.sclPin_of_read (reads : s.readsImage = true) :
    s.sclPin = .openDrain (busLevels s.loader.busTicks).1 := by
  simp [State.sclPin, reads]

theorem State.sdaPin_of_read (reads : s.readsImage = true) :
    s.sdaPin = .openDrain (busLevels s.loader.busTicks).2 := by
  simp [State.sdaPin, reads]

/-- In the nine clocks SDA stays released (R161). -/
theorem State.read_clocks (reads : s.readsImage = true) (h : s.loader.busTicks < 90) :
    s.sdaPin = .highImpedance ∧
      s.sclPin = if s.loader.busTicks % 10 < 5 then .low else .highImpedance := by
  obtain ⟨rest, levels⟩ := busLevels_eq s.loader.busTicks
  rw [State.sdaPin_of_read reads, State.sclPin_of_read reads, levels, if_pos h]
  by_cases low : s.loader.busTicks % 10 < 5
  · simp [Pin.openDrain, low]
  · simp [Pin.openDrain, low, Nat.not_lt.mp low]

/-- SCL stays released while SDA rises and falls for the stop and the start (R161, R162). -/
theorem State.read_stop_start (reads : s.readsImage = true) (h : 95 ≤ s.loader.busTicks)
    (bound : s.loader.busTicks < 115) :
    s.sclPin = .highImpedance ∧
      s.sdaPin =
        if 100 ≤ s.loader.busTicks ∧ s.loader.busTicks < 110 then .highImpedance else .low := by
  obtain ⟨rest, levels⟩ := busLevels_eq s.loader.busTicks
  rw [State.sdaPin_of_read reads, State.sclPin_of_read reads, levels, if_neg (by omega),
    busLevelsFrom_stop_start _ (by omega) (by omega)]
  refine ⟨rfl, ?_⟩
  by_cases released : 100 ≤ s.loader.busTicks ∧ s.loader.busTicks < 110
  · rw [if_pos released, decide_eq_true (by omega)]; rfl
  · rw [if_neg released, decide_eq_false (by omega)]; rfl

end Read

end Bus

end Sys2Proof.Machine

namespace Sys2Proof

open Machine

/-- Settles O54: each pin is one function of the state, and it is read off case by case. -/
theorem outputPinsFollowTheState : Obligations.OutputPinsFollowTheState := by
  intro s
  refine ⟨⟨State.lgood_iff, fun mode => ?_, fun loaded good => ?_, fun loaded bad => ?_⟩,
    fun i => ⟨State.enPin_of_absent, fun loaded present => ?_,
      fun level change => Rail.applyEnable_of_ne change, Rail.applyEnable_self _ _⟩,
    fun k => ⟨fun unloaded => ?_, fun loaded asked => ?_, fun loaded idle => ?_⟩,
    fun mode => ?_, fun mode => ?_, fun off loading silent => ?_, fun alerts => ?_, fun quiet => ?_,
    fun mutes => ?_, fun free => ?_, fun dims active => ?_, fun dims dark => ?_, fun none' => ?_,
    rfl, State.dataPin_of_break, fun released => ⟨State.dataPin_of_no_frame released,
      fun f link => ⟨fun slot us drives => ?_, fun slot ends => ?_, fun slot => ?_⟩⟩,
    fun g flies => ?_, fun f link => ⟨fun short => ?_, fun whole receives => ?_,
      fun whole sends => ?_⟩, fun idle => ?_, fun unread => ?_, Pin.openDrain_ne_high _,
    Pin.openDrain_ne_high _, fun reads => ⟨State.read_clocks reads, fun from' until' => ?_,
      fun from' until' => ?_⟩, fun port => ?_, fun bits port => ?_, fun r port => ?_⟩
  · have unloaded : s.loaded = false := (Mode.loaded_eq_false_iff _).mpr mode
    simp [State.lgoodPin, unloaded]
  · simp [State.lgoodPin, loaded, good]
  · simp [State.lgoodPin, loaded, bad]
  · rw [State.enPin_of_present loaded present]
    exact ⟨Rail.enablePin_of_not_asserted, Rail.enablePin_of_asserted⟩
  · simp [State.disPin, unloaded]
  · rw [State.disPin_of_loaded loaded, State.discharges_iff.mpr asked]; rfl
  · rw [State.disPin_of_loaded loaded, Bool.eq_false_iff.mpr (idle ∘ State.discharges_iff.mp)]; rfl
  · simp [State.readyPin, State.loaded, State.ready, mode, Mode.loaded]
  · rcases mode with mode | mode <;> simp [State.readyPin, State.loaded, mode, Mode.loaded]
  · have known : (s.loaded || s.seq.mode == .unconfigured) = true := by
      cases mode : s.seq.mode <;> simp_all [State.loaded, Mode.loaded]
    simp [State.readyPin, known, State.ready, beq_eq_false_iff_ne.mpr off]
  · simp [State.alertPin, State.alert_iff.mpr alerts]
  · simp [State.alertPin, Bool.eq_false_iff.mpr (quiet ∘ State.alert_iff.mp)]
  · simp [State.mutePin, State.drivesMute_iff.mpr mutes, Pin.drive]
  · simp [State.mutePin, Bool.eq_false_iff.mpr (free ∘ State.drivesMute_iff.mp)]
  · rw [State.dimOutPin_of_dims dims, State.dimActive_iff.mpr active]
    cases s.settings.dimActiveLow <;> rfl
  · rw [State.dimOutPin_of_dims dims, Bool.eq_false_iff.mpr (dark ∘ State.dimActive_iff.mp)]
    cases s.settings.dimActiveLow <;> rfl
  · have off : (s.loaded && s.hasDimming) = false := by
      rwa [Bool.eq_false_iff, ne_eq, Bool.and_eq_true]
    simp [State.dimOutPin, off]
  · rw [State.dataPin_of_frame released link, State.slotMicros_of_ne slot, List.getD_eq_getElem?_getD,
      drives]
    rfl
  · rw [State.dataPin_of_frame released link, State.slotMicros_of_ne slot, List.getD_eq_getElem?_getD,
      ends]
    simp
  · rw [State.dataPin_of_frame released link, slot, State.slotMicros_last link]
    refine ⟨fun one => ?_, fun receives whole differs => ?_, fun receives short => ?_⟩
    · rcases one with sends | ⟨whole, same⟩
      · simp [sends]
      · cases sends : f.sending <;> simp [whole, same, dominantMicros]
    · simp [receives, whole, differs, dominantMicros]
    · simp [receives, short]
  · simp [State.offeredSlots, flies, State.ownNotice]
  · simp [State.objectionBit, link, short]
  · simp [State.objectionBit, link, whole, receives]
  · simp [State.objectionBit, link, whole, sends]
  · cases link : s.notices.link with
    | frame f => exact absurd link (idle f)
    | dormant | waiting | free | broken => simp [State.objectionBit, link]
  · simp [State.sclPin, State.sdaPin, unread, Pin.openDrain]
  · obtain ⟨scl, sda⟩ := State.read_stop_start reads (by omega) (by omega)
    refine ⟨scl, sda.trans ?_⟩
    by_cases early : s.loader.busTicks < 100
    · rw [if_pos early, if_neg (by omega)]
    · rw [if_neg early, if_pos (by omega)]
  · obtain ⟨scl, sda⟩ := State.read_stop_start reads (by omega) (by omega)
    exact ⟨scl, sda.trans (if_neg (by omega))⟩
  · simp [State.dataOutPin, port]
  · simp [State.dataOutPin, port]
  · simp [State.dataOutPin, port, Pin.drive]

end Sys2Proof

/-! The status port: the bits of an exchange, and every field of the replies. -/

namespace Sys2Proof.Machine

/-! ### The exchange -/

section Exchange

variable {s : State} {bits : List Bool} {code : Byte}

theorem bitsToByte_byteBits : ∀ b : Byte, bitsToByte (byteBits b) = b := by decide

theorem ofCode_eq_unknown_iff : PortCommand.ofCode code = .unknown ↔ code ∉ knownCodes := by
  unfold PortCommand.ofCode knownCodes
  split_ifs <;> simp_all

theorem State.acceptByte_of_prefix (port : s.port = .command bits)
    (begins : bits <+: byteBits code) : s.acceptByte code = s.completeCommand code := by
  simp [State.acceptByte, port, begins]

theorem State.acceptByte_of_no_command (h : ∀ bits, s.port ≠ .command bits) :
    s.acceptByte code = s := by
  unfold State.acceptByte
  split
  case h_1 port => exact absurd port (h _)
  all_goals rfl

theorem State.completeCommand_of_ne_acknowledge {c : PortCommand}
    (named : PortCommand.ofCode code = c) (other : c ≠ .acknowledge) :
    s.completeCommand code = { s with port := .reply ⟨s.snapshot c, c.filler, 0, false⟩ } := by
  subst named
  exact if_neg other

theorem execUnknownCommand_of_unknown (h : code ∉ knownCodes) (s : State) :
    exec (.unknownCommand code) s = .next (s.acceptByte code) :=
  if_pos (ofCode_eq_unknown_iff.mpr h)

theorem execUnknownCommand_of_no_command (h : ∀ bits, s.port ≠ .command bits) :
    exec (.unknownCommand code) s = .next s := by
  have stays : .next (s.acceptByte code) = (Host.Outcome.next s : Result) := by
    rw [State.acceptByte_of_no_command h]
  show (if _ then _ else _) = _
  rw [stays, ite_self]

theorem State.takeBit_of_short (port : s.port = .command bits) (short : bits.length < 7)
    (bit : Bool) : s.takeBit bit = { s with port := .command (bits ++ [bit]) } := by
  simp [State.takeBit, port, short]

theorem State.takeBit_of_no_command (h : ∀ bits, s.port ≠ .command bits) (bit : Bool) :
    s.takeBit bit = s := by
  unfold State.takeBit
  split
  case h_1 port => exact absurd port (h _)
  all_goals rfl

/-- The eighth bit does what the command of the byte does. -/
theorem State.takeBit_eq_acceptByte {bit : Bool} (port : s.port = .command bits)
    (byte : byteBits code = bits ++ [bit]) : s.takeBit bit = s.acceptByte code := by
  have seven : bits.length = 7 := by simpa [byteBits] using (congrArg List.length byte).symm
  have begins : bits <+: byteBits code := byte ▸ List.prefix_append bits [bit]
  rw [State.acceptByte_of_prefix port begins]
  simp [State.takeBit, port, seven, ← byte, bitsToByte_byteBits]

end Exchange

/-! ### Fields of bytes -/

section Fields

theorem Mode.code_le (m : Mode) : m.code ≤ 10 := by cases m <;> decide

theorem Cause.code_le (c : Cause) : c.code ≤ 4 := by cases c <;> decide

theorem Wait.code_le (w : Wait) : w.code ≤ 4 := by cases w <;> decide

theorem LoadReason.code_le (r : LoadReason) : r.code ≤ 10 := by cases r <;> decide

theorem LinkState.code_le (l : LinkState) : l.code ≤ 4 := by cases l <;> simp [LinkState.code]

theorem RailState.code_le (r : RailState) : r.code ≤ 9 := by cases r <;> decide

theorem zoneCode_le (z : Option Zone) : zoneCode z ≤ 4 := by
  rcases z with - | z
  · decide
  · cases z <;> decide

theorem mainsZoneCode_le (z : Option MainsZone) : mainsZoneCode z ≤ 2 := by
  rcases z with - | z
  · decide
  · cases z <;> decide

theorem faultReasonCode_le (r : Option RailReason) : faultReasonCode r ≤ 4 := by
  rcases r with - | r
  · decide
  · cases r <;> decide

theorem halfBytes_toNat (h : Half) :
    256 * (h.extractLsb' 8 8).toNat + (h.extractLsb' 0 8).toNat = h.toNat := by
  simp only [BitVec.extractLsb'_toNat]
  omega

/-- The place of a byte in blocks of one width. -/
theorem getD_flatMap {α β : Type} {f : α → List β} {w : Nat} (width : ∀ x, (f x).length = w)
    (l : List α) (k : Fin l.length) {b : Nat} (within : b < w) (d : β) :
    (l.flatMap f).getD (w * k + b) d = (f l[k]).getD b d := by
  induction l with
  | nil => exact k.elim0
  | cons x l ih =>
    rw [List.flatMap_cons]
    refine Fin.cases ?_ (fun k => ?_) k
    · rw [List.getD_append _ _ _ _ (by simpa [width] using within)]
      simp
    · rw [List.getD_append_right _ _ _ _ (by simp [width, Nat.mul_succ]; omega)]
      rw [show w * (Fin.succ k : Fin (l.length + 1)).val + b - (f x).length = w * k + b by
        simp [width, Nat.mul_succ]; omega]
      exact ih k

end Fields

/-! ### The replies -/

section Replies

variable {s : State}

theorem State.readyPin_high (s : State) : decide (s.readyPin = .high) = s.ready := by
  cases mode : s.seq.mode <;>
    simp [State.readyPin, State.ready, State.loaded, mode, Mode.loaded] <;> rfl

theorem State.mutePin_high (s : State) : decide (s.mutePin = .high) = s.muteAsserted := by
  cases drives : s.drivesMute <;> cases mute : s.mute <;>
    simp [State.mutePin, State.muteAsserted, drives, mute]

theorem bitsToByte_bit : ∀ b7 b6 b5 b4 b3 b2 b1 b0 : Bool,
    let v := (bitsToByte [b7, b6, b5, b4, b3, b2, b1, b0]).toNat
    v % 2 = b0.toNat ∧ v / 2 % 2 = b1.toNat ∧ v / 4 % 2 = b2.toNat ∧ v / 8 % 2 = b3.toNat ∧
      v / 16 % 2 = b4.toNat ∧ v / 32 % 2 = b5.toNat ∧ v / 64 % 2 = b6.toNat ∧
      v / 128 % 2 = b7.toNat := by
  decide

/-- Byte 5 of READ STATE has the bit of a kind at its code (R169). -/
theorem kindsByte_bit (o : Outbound) (k : Kind) :
    o.kindsByte.toNat / 2 ^ k.code % 2 = (o.get k).isSome.toNat := by
  obtain ⟨sag, commit, fault, mainsOk, fall, rise, roll, tally⟩ := bitsToByte_bit o.tally.isSome
    o.roll.isSome o.rise.isSome o.fall.isSome o.mainsOk.isSome o.fault.isSome o.commit.isSome
    o.sag.isSome
  cases k with
  | sag =>
    rw [Kind.code, pow_zero, Nat.div_one]
    exact sag
  | commit => exact commit
  | fault => exact fault
  | mainsOk => exact mainsOk
  | fall => exact fall
  | rise => exact rise
  | roll => exact roll
  | tally => exact tally

theorem State.railReply_length (s : State) (i : Fin 8) : (s.railReply i).length = 6 := by
  unfold State.railReply
  dsimp only
  split <;> rfl

/-- READ RAILS gives each rail its six bytes (R170). -/
theorem State.railsReply_getD (s : State) (i : Fin 8) {b : Nat} (within : b < 6) :
    s.railsReply.getD (6 * i.val + b) 0 = (s.railReply i).getD b 0 := by
  have place : ∀ i : Fin 8, railIndices[i] = i := by decide
  exact (getD_flatMap s.railReply_length railIndices i within 0).trans
    (congrArg (fun j => (s.railReply j).getD b 0) (place i))

theorem rosterBytes_length (e : Option RosterEntry) : (rosterBytes e).length = 2 := by
  cases e <;> rfl

/-- READ ROSTER gives each number its two bytes (R172). -/
theorem State.rosterReply_getD (s : State) (n : Nibble) {b : Nat} (within : b < 2) :
    s.rosterReply.getD (2 * n.toNat + b) 0 = (rosterBytes (s.rosterEntry n)).getD b 0 := by
  have place : ∀ n : Nibble, stationNumbers[n.toFin] = n := by decide
  exact (getD_flatMap (fun n => rosterBytes_length (s.rosterEntry n)) stationNumbers n.toFin
    within 0).trans (congrArg (fun m => (rosterBytes (s.rosterEntry m)).getD b 0) (place n))

theorem State.railsReply_length (s : State) : s.railsReply.length = 48 := by
  simp [State.railsReply, s.railReply_length, railIndices]

theorem State.rosterReply_length (s : State) : s.rosterReply.length = 32 := by
  simp [State.rosterReply, rosterBytes_length, stationNumbers]

theorem firstFaultBytes_length (f : Option FirstFault) : (firstFaultBytes f).length = 4 := by
  cases f <;> rfl

theorem RunRecord.reply_length (r : RunRecord) : r.reply.length = 23 := by
  simp [RunRecord.reply, halfBytes, firstFaultBytes_length]

/-- The values that the fields of READ STATE hold without a premise (R169). -/
theorem State.stateFields_le (s : State) :
    let q := s.seq
    (q.mode.code ≤ 10 ∧ q.cause.code ≤ 4 ∧ q.lastCause.code ≤ 4 ∧ q.wait.code ≤ 4 ∧
      mainsZoneCode s.front.msns.accepted ≤ 2 ∧ s.loader.reason.code ≤ 10 ∧
      s.notices.link.code ≤ 4 ∧ q.sagCount.toNat < 16 ∧ (q.lead.getD 0).toNat < 16 ∧
      s.loader.profile.toNat < 4) ∧
      (s.loader.resetCause == .rst).toNat ≤ 1 ∧ s.urgent.toNat ≤ 1 ∧ s.line.claimed.toNat ≤ 1 ∧
      s.line.high.toNat ≤ 1 ∧ q.lead.isSome.toNat ≤ 1 ∧ q.mainsReturned.toNat ≤ 1 ∧
      q.owed.toNat ≤ 1 ∧ s.front.mainsHeld.toNat ≤ 1 ∧ s.notices.stuck.toNat ≤ 1 ∧
      s.cur.alertPending.toNat ≤ 1 ∧ s.ready.toNat ≤ 1 ∧ s.lgood.toNat ≤ 1 ∧
      s.muteAsserted.toNat ≤ 1 := by
  refine ⟨⟨Mode.code_le _, Cause.code_le _, Cause.code_le _, Wait.code_le _, mainsZoneCode_le _,
    LoadReason.code_le _, LinkState.code_le _, BitVec.isLt _, BitVec.isLt _, BitVec.isLt _⟩, ?_⟩
  simp only [Bool.toNat_le, and_self]

/-- The bytes of READ STATE but byte 5, as sums of their fields (R169). -/
theorem State.stateReply_bytes (phase : s.seq.phase ≤ 15) (attempts : s.seq.attempts ≤ 4)
    (detail : s.loader.detail ≤ 15) :
    let q := s.seq
    (s.stateReply.getD 0 0).toNat = 16 * q.mode.code + q.phase ∧
      (s.stateReply.getD 1 0).toNat =
        32 * q.cause.code + 4 * q.lastCause.code + 2 * (s.loader.resetCause == .rst).toNat +
          s.urgent.toNat ∧
      (s.stateReply.getD 2 0).toNat =
        32 * q.attempts + 4 * q.wait.code + 2 * s.line.claimed.toNat + s.line.high.toNat ∧
      (s.stateReply.getD 3 0).toNat = 16 * q.sagCount.toNat + (q.lead.getD 0).toNat ∧
      (s.stateReply.getD 4 0).toNat =
        128 * q.lead.isSome.toNat + 64 * q.mainsReturned.toNat + 32 * q.owed.toNat +
          16 * s.front.mainsHeld.toNat + 4 * mainsZoneCode s.front.msns.accepted +
          2 * s.notices.stuck.toNat + s.cur.alertPending.toNat ∧
      (s.stateReply.getD 6 0).toNat = 16 * s.loader.reason.code + s.loader.detail ∧
      (s.stateReply.getD 7 0).toNat =
        32 * s.notices.link.code + 8 * s.loader.profile.toNat + 4 * s.ready.toNat +
          2 * s.lgood.toNat + s.muteAsserted.toNat := by
  obtain ⟨codes, bits⟩ := s.stateFields_le
  refine ⟨?_, ?_, ?_, ?_, ?_, ?_, ?_⟩ <;> exact Nat.mod_eq_of_lt (by omega)

theorem State.railReply_absent {i : Fin 8} (h : (s.entry i).present = false) :
    s.railReply i = [0, 0, 0, 0, 0, 0] := by
  simp [State.railReply, h]

theorem Rail.fields_le (r : Rail) :
    (r.state.code ≤ 9 ∧ faultReasonCode r.faultReason ≤ 4) ∧ r.slowFall.toNat ≤ 1 ∧
      r.restoring.toNat ≤ 1 ∧ r.requested.toNat ≤ 1 ∧ r.applied.toNat ≤ 1 ∧
      r.dischargeRequest.toNat ≤ 1 ∧ r.riseTime.isSome.toNat ≤ 1 := by
  refine ⟨⟨RailState.code_le _, faultReasonCode_le _⟩, ?_⟩
  simp only [Bool.toNat_le, and_self]

/-- The bytes of a present rail, the first two and the last as sums of their fields (R170). -/
theorem State.railReply_bytes {i : Fin 8} (present : (s.entry i).present = true) :
    let r := s.rail i
    let reply := s.railReply i
    (reply.getD 0 0).toNat = 16 * r.state.code + 8 + zoneCode (s.zone i) ∧
      (reply.getD 1 0).toNat =
        32 * faultReasonCode r.faultReason + 16 * r.slowFall.toNat + 8 * r.restoring.toNat +
          4 * r.requested.toNat + 2 * r.applied.toNat + r.dischargeRequest.toNat ∧
      256 * (reply.getD 2 0).toNat + (reply.getD 3 0).toNat = (r.riseTime.getD 0).toNat ∧
      (reply.getD 4 0).toNat = r.glitches.toNat ∧
      (reply.getD 5 0).toNat = 128 * r.riseTime.isSome.toNat := by
  have zone := zoneCode_le (s.zone i)
  obtain ⟨codes, bits⟩ := (s.rail i).fields_le
  simp only [State.railReply, present, if_true]
  exact ⟨Nat.mod_eq_of_lt (by omega), Nat.mod_eq_of_lt (by omega), halfBytes_toNat _, rfl,
    Nat.mod_eq_of_lt (by omega)⟩

theorem firstFaultBytes_eq (f : Option FirstFault) :
    ∃ a b c d, firstFaultBytes f = [a, b, c, d] := by
  cases f <;> exact ⟨_, _, _, _, rfl⟩

/-- The bytes of a run record (R171). -/
theorem RunRecord.reply_eq {r : RunRecord} {x3 x4 x5 x6 : Byte}
    (four : firstFaultBytes r.firstFault = [x3, x4, x5, x6]) :
    r.reply =
      [r.runNumber.extractLsb' 8 8, r.runNumber.extractLsb' 0 8, BitVec.ofNat 8 r.outcome.code,
        x3, x4, x5, x6, r.laterFaults, r.sags, leadByte r.lead,
        r.longestHoldUp.extractLsb' 8 8, r.longestHoldUp.extractLsb' 0 8, commitByte r.commitCause,
        BitVec.ofNat 8
          (4 * r.mainsReturned.toNat + 2 * r.numberClash.toNat + r.alertPending.toNat),
        r.mismatchSet.extractLsb' 8 8, r.mismatchSet.extractLsb' 0 8, r.objections, r.dropped,
        r.foreign, r.breaks, r.leadConflicts, r.blankMisses, r.phaseDisagreements] := by
  rw [RunRecord.reply, four]
  rfl

end Replies

end Sys2Proof.Machine

namespace Sys2Proof

open Machine

/-- Settles O53: a bit that does not complete the byte is kept, and the eighth gives the byte. -/
theorem exchangeMovesBitByBit : Obligations.ExchangeMovesBitByBit := by
  intro s
  refine ⟨fun free idle => ?_, fun closed => ?_, rfl, fun bits bit hold port => ?_,
    fun bit hold none' => ?_, fun r port => ?_, fun other => ?_⟩
  · show execSelectLowered s = _
    simp [execSelectLowered, free, idle]
  · show execSelectLowered s = _
    unfold execSelectLowered
    split
    case isTrue => rfl
    case isFalse free =>
      split
      case h_1 idle => exact absurd idle (closed.resolve_left free)
      all_goals rfl
  · have seen : (s.seeHold hold).port = .command bits := by simpa using port
    have completes : ∀ {code : Byte}, byteBits code = bits ++ [bit] →
        exec (.commandBit bit hold) s = .next ((s.seeHold hold).acceptByte code) := fun byte =>
      congrArg Host.Outcome.next (State.takeBit_eq_acceptByte seen byte)
    refine ⟨fun short => ?_, completes, completes, completes, completes, completes, completes,
      fun code byte unknown => ?_⟩
    · exact congrArg Host.Outcome.next (State.takeBit_of_short seen short bit)
    · rw [completes byte, execUnknownCommand_of_unknown unknown]
  · exact congrArg Host.Outcome.next (State.takeBit_of_no_command (by simpa using none') bit)
  · show execReplyBit s = _
    simp only [execReplyBit, port]
    rfl
  · show execReplyBit s = _
    unfold execReplyBit
    split
    case h_1 port => exact absurd port (other _)
    all_goals rfl

/-- Settles O52: each reply is a list of bytes, and each byte a sum of fields within their
widths. -/
theorem commandBytesTakeTheirSnapshot : Obligations.CommandBytesTakeTheirSnapshot := by
  refine ⟨fun s hold code => ⟨fun bits port => ?_, fun none' => ?_, rfl, ?_, ?_, ?_, ?_⟩,
    fun s phase attempts detail => ?_, fun s i => ⟨fun absent b within => ?_, fun present => ?_⟩,
    fun r => ?_, fun s n => ⟨fun none' => ?_, fun e known count => ?_⟩, by decide⟩
  · have accepts : ∀ {u : State} {b : Byte} {c : PortCommand}, u.port = .command bits →
        bits <+: byteBits b → PortCommand.ofCode b = c → c ≠ .acknowledge →
        Host.Outcome.next (u.acceptByte b) =
          (.next { u with port := .reply ⟨u.snapshot c, c.filler, 0, false⟩ } : Result) :=
      fun port begins named other => congrArg _ ((State.acceptByte_of_prefix port begins).trans
        (State.completeCommand_of_ne_acknowledge named other))
    refine ⟨fun begins => accepts (by simpa using port) begins rfl nofun,
      fun begins => accepts port begins rfl nofun, fun begins => accepts port begins rfl nofun,
      fun begins => accepts port begins rfl nofun, fun begins => accepts port begins rfl nofun,
      fun begins => congrArg _ ((State.acceptByte_of_prefix port begins).trans rfl),
      fun unknown begins => ?_⟩
    rw [execUnknownCommand_of_unknown unknown]
    exact accepts port begins (ofCode_eq_unknown_iff.mpr unknown) nofun
  · have stays : ∀ b : Byte, Host.Outcome.next (s.acceptByte b) = (.next s : Result) :=
      fun b => congrArg _ (State.acceptByte_of_no_command none')
    exact ⟨congrArg _ (State.acceptByte_of_no_command (by simpa using none')), stays _, stays _,
      stays _, stays _, stays _, execUnknownCommand_of_no_command none'⟩
  · exact s.railsReply_length
  · exact s.cur.reply_length
  · exact s.last.reply_length
  · exact s.rosterReply_length
  · obtain ⟨b0, b1, b2, b3, b4, b6, b7⟩ := State.stateReply_bytes phase attempts detail
    obtain ⟨codes, bits⟩ := s.stateFields_le
    dsimp only
    rw [s.readyPin_high, s.mutePin_high, ← beq_eq_decide, b0, b1, b2, b3, b4, b6, b7]
    refine ⟨by omega, by omega, by omega, by omega, by omega, by omega, by omega, by omega,
      by omega, by omega, by omega, ?_, by omega, by omega, by omega, by omega, by omega, by omega,
      by omega, kindsByte_bit _, by omega, by omega, by omega, by omega, by omega, by omega,
      by omega⟩
    have low : (s.seq.lead.getD 0).toNat =
        (16 * s.seq.sagCount.toNat + (s.seq.lead.getD 0).toNat) / 2 ^ 0 % 2 ^ 4 := by omega
    rw [← low]
    cases s.seq.lead <;> rfl
  · dsimp only
    rw [s.railsReply_getD i within, State.railReply_absent absent]
    interval_cases b <;> rfl
  · obtain ⟨b0, b1, b23, b4, b5⟩ := State.railReply_bytes present
    have place := fun b within => congrArg BitVec.toNat (s.railsReply_getD i (b := b) within)
    obtain ⟨codes, bits⟩ := (s.rail i).fields_le
    have zone := zoneCode_le (s.zone i)
    have riseTime : ((s.rail i).riseTime.getD 0).toNat =
        match (s.rail i).riseTime with
        | some x => x.toNat
        | none => 0 := by
      cases (s.rail i).riseTime <;> rfl
    dsimp only
    rw [place 0 (by decide), place 1 (by decide), place 2 (by decide), place 3 (by decide),
      place 4 (by decide), place 5 (by decide), b0, b1, b23, b4, b5]
    exact ⟨by omega, by omega, by omega, by omega, by omega, by omega, by omega, by omega, by omega,
      riseTime, rfl, rfl⟩
  · obtain ⟨x3, x4, x5, x6, four⟩ := firstFaultBytes_eq r.firstFault
    dsimp only
    rw [RunRecord.reply_eq four]
    refine ⟨halfBytes_toNat _, ?_, fun none' => ?_, fun f fault reason phase => ?_, rfl, rfl, ?_,
      halfBytes_toNat _, ?_, ?_, halfBytes_toNat _, rfl, rfl, rfl, rfl, rfl, rfl, rfl⟩
    · cases r.outcome <;> rfl
    · rw [none'] at four
      cases four
      exact ⟨rfl, rfl, rfl, rfl⟩
    · rw [fault] at four
      cases four
      have sender := f.sender.isLt
      refine ⟨?_, Nat.mod_eq_of_lt (by omega), rfl, Nat.mod_eq_of_lt (by omega)⟩
      show (128 + f.reason.toNat % 32) % 256 = _
      omega
    · cases lead : r.lead with
      | none => rfl
      | some n => have := n.isLt; exact Nat.mod_eq_of_lt (by omega)
    · cases cause : r.commitCause with
      | none => rfl
      | some c => cases c <;> rfl
    · have := Bool.toNat_le r.mainsReturned
      have := Bool.toNat_le r.numberClash
      have := Bool.toNat_le r.alertPending
      exact Nat.mod_eq_of_lt (by omega)
  · dsimp only
    rw [s.rosterReply_getD n (b := 0) (by decide), s.rosterReply_getD n (b := 1) (by decide), none']
    exact ⟨rfl, rfl⟩
  · dsimp only
    rw [s.rosterReply_getD n (b := 0) (by decide), s.rosterReply_getD n (b := 1) (by decide), known]
    have := Bool.toNat_le e.heard; have := Bool.toNat_le e.mismatch
    have := Bool.toNat_le e.outOfStep; have := Bool.toNat_le e.clash
    exact ⟨rfl, Nat.mod_eq_of_lt (by omega)⟩

end Sys2Proof

/-! The frame of a notice, and the image: what its checks say and the station that an accepted one
makes. -/

namespace Sys2Proof.Machine

/-! ### The frame of a notice -/

section Frames

theorem Kind.ofCode_code (k : Kind) : Kind.ofCode k.code = some k := by cases k <;> rfl

theorem Kind.code_lt (k : Kind) : k.code < 8 := by cases k <;> decide

variable {n : Notice} {sending : Bool}

/-- A byte of the slots of a notice is the byte that the notice gives it. -/
theorem Notice.slotByte_slots (n : Notice) :
    slotByte n.slots 0 = n.head ∧ slotByte n.slots 1 = n.arg1 ∧ slotByte n.slots 2 = n.arg2 ∧
      slotByte n.slots 3 = n.check :=
  ⟨bitsToByte_byteBits _, bitsToByte_byteBits _, bitsToByte_byteBits _, bitsToByte_byteBits _⟩

theorem Notice.head_toNat (n : Notice) : n.head.toNat = 16 * n.kind.code + n.sender.toNat := by
  have kind := n.kind.code_lt
  have sender := n.sender.isLt
  exact Nat.mod_eq_of_lt (by omega)

theorem Notice.checkMatches_slots : (Frame.mk n.slots sending).checkMatches = true := by
  obtain ⟨head, arg1, arg2, check⟩ := n.slotByte_slots
  simp only [Frame.checkMatches, head, arg1, arg2, check, Notice.check, beq_self_eq_true]

theorem Notice.content_slots : (Frame.mk n.slots sending).content = some n := by
  obtain ⟨head, arg1, arg2, -⟩ := n.slotByte_slots
  have sender := n.sender.isLt
  have high : n.head.toNat / 16 = n.kind.code := by rw [n.head_toNat]; omega
  have low : BitVec.ofNat 4 (n.head.toNat % 16) = n.sender := by
    rw [n.head_toNat, show (16 * n.kind.code + n.sender.toNat) % 16 = n.sender.toNat by omega]
    simp
  simp only [Frame.content, head, arg1, arg2, high, low, Kind.ofCode_code]

theorem Notice.notice_slots (legal : n.wellFormed = true) :
    (Frame.mk n.slots sending).notice = some n := by
  have received : (Frame.mk n.slots sending).received = true := rfl
  simp only [Frame.notice, received, Notice.checkMatches_slots, Notice.content_slots, legal,
    Bool.and_self, if_true]

end Frames

/-! ### The checks of an image -/

section Checks

variable {image : List Byte} {p : BitVec 2}

/-- The rail checks name the first rail that fails the first check that fails (R164). -/
theorem railChecks_eq_some {reason : LoadReason} {d : Nat} :
    railChecks image p = some (reason, d) ↔
      ∃ i : Fin 8, d = i.val ∧
        (reason = .badRail ∧ firstFailing (railConsistent image p) = some i ∨
          reason = .ascentBound ∧ firstFailing (railConsistent image p) = none ∧
            firstFailing
              (fun j => ascentBound (imageSettings image p) (imageEntry image p j)) = some i ∨
          reason = .descentBound ∧ firstFailing (railConsistent image p) = none ∧
            firstFailing
              (fun j => ascentBound (imageSettings image p) (imageEntry image p j)) = none ∧
            firstFailing
              (fun j => descentBound (imageSettings image p) (imageEntry image p j)) = some i) := by
  unfold railChecks
  dsimp only
  split
  case h_1 i first => simp [first, eq_comm, and_comm]
  case h_2 consistent =>
    split
    case h_1 i first => simp [consistent, first, eq_comm, and_comm]
    case h_2 rises =>
      split
      case h_1 i first => simp [consistent, rises, first, eq_comm, and_comm]
      case h_2 falls => simp [consistent, rises, falls]

/-- The rail check of the ascent bound, by what the rail has (R164). -/
theorem ascentBound_iff_cases (i : Fin 8) :
    let b := imageByte image
    let half := imageHalf image
    let bit : Nat → Nat → Prop := fun k j => (image.getD k 0).getLsbD j = true
    let r := entryOffset p i
    let o := profileOffset p
    ascentBound (imageSettings image p) (imageEntry image p i) = true ↔
      (bit r 7 →
        (bit r 6 → bit r 1 → half (r + 5) + b (r + 7) + 10 * b o < 100 * b 8) ∧
          (bit r 6 → ¬bit r 1 → half (r + 5) + b (r + 7) < 100 * b 8) ∧
          (¬bit r 6 → bit r 1 → b (r + 7) + 10 * b o < 100 * b 8) ∧
          (¬bit r 6 → ¬bit r 1 → b (r + 7) < 100 * b 8)) := by
  intro b half bit r o
  refine (ascentBound_iff image p i).trans (imp_congr_right fun _ => ?_)
  by_cases sensed : bit r 6 <;> by_cases aligned : bit r 1 <;>
    simp_all [b, half, bit, r, o]

theorem railCheck_first {check : Fin 8 → Bool} {holds : Fin 8 → Prop}
    (reads : ∀ i, check i = true ↔ holds i) (i : Fin 8) :
    firstFailing check = some i ↔ ¬holds i ∧ ∀ j, j < i → holds j := by
  rw [firstFailing_eq_some]
  simp only [← Bool.not_eq_true, reads]

theorem railCheck_none {check : Fin 8 → Bool} {holds : Fin 8 → Prop}
    (reads : ∀ i, check i = true ↔ holds i) : firstFailing check = none ↔ ∀ j, holds j := by
  rw [firstFailing_eq_none]
  simp only [reads]

end Checks

end Sys2Proof.Machine

namespace Sys2Proof

open Machine

/-- Settles O41: the slots of a notice are its bytes, and the bytes are its fields. -/
theorem frameOfANoticeSpellsTheNotice : Obligations.FrameOfANoticeSpellsTheNotice :=
  ⟨fun _ _ legal => ⟨rfl, Notice.checkMatches_slots, Notice.notice_slots legal⟩,
    by decide +kernel⟩

/-- Settles O7: the checks in order, and the rail checks rail by rail. -/
theorem imageChecksRunInOrder : Obligations.ImageChecksRunInOrder := by
  intro image p b half bit o r stationRecord profileSettings consistent rises falls fails
  have station : stationInRange image = true ↔ stationRecord := stationInRange_iff image
  have profile : profileInRange image p = true ↔ profileSettings := profileInRange_iff image p
  have consistents : ∀ i, railConsistent image p i = true ↔ consistent i :=
    railConsistent_iff image p
  have ascents : ∀ i, ascentBound (imageSettings image p) (imageEntry image p i) = true ↔ rises i :=
    ascentBound_iff_cases
  have descents : ∀ i, descentBound (imageSettings image p) (imageEntry image p i) = true ↔
      falls i := descentBound_iff image p
  have enabled : natBit (imageByte image 15) p.toNat = true ↔ bit 15 p.toNat := by
    rw [natBit_imageByte]
  have crc : imageCheckMatches image = true ↔ crc8 (image.take 464) = image.getD 464 0 :=
    beq_iff_eq
  have fails_of {c : Bool} {P : Prop} (reads : c = true ↔ P) (h : ¬P) : c = false :=
    Bool.eq_false_iff.mpr (h ∘ reads.mp)
  have passes_of {c : Bool} {P : Prop} (reads : c = true ↔ P) (h : P) : ¬c = false :=
    Bool.not_eq_false _ |>.mpr (reads.mpr h)
  refine ⟨fun marker => if_pos (not_and_or.mpr marker), fun b0 b1 => ?_⟩
  have marker : checkImage image p = _ := if_neg (not_not.mpr ⟨b0, b1⟩)
  rw [marker]
  refine ⟨fun version => if_pos version, fun b2 => ?_⟩
  rw [if_neg (show ¬imageByte image 2 ≠ 1 from not_not.mpr b2)]
  refine ⟨fun check => if_pos (fails_of crc check), fun check => ?_⟩
  rw [if_neg (passes_of crc check)]
  refine ⟨fun disabled => if_pos (fails_of enabled disabled), fun on => ?_⟩
  rw [if_neg (passes_of enabled on)]
  refine ⟨fun range => if_pos (fails_of station range), fun range => ?_⟩
  rw [if_neg (passes_of station range)]
  refine ⟨fun range => if_pos (fails_of profile range), fun range reason d => ?_⟩
  rw [if_neg (passes_of profile range), railChecks_eq_some]
  simp only [railCheck_first consistents, railCheck_none consistents, railCheck_first ascents,
    railCheck_none ascents, railCheck_first descents]
  exact Iff.rfl

end Sys2Proof

namespace Sys2Proof.Machine

/-! ### The station of an accepted image -/

section Accepted

variable {s : State}

theorem DriveMode.ofCode_eq (n : Nat) :
    DriveMode.ofCode n =
      match n with
      | 0 => .pushPull
      | 1 => .openDrain
      | _ => .openDrainBoost := by
  match n with
  | 0 => rfl
  | 1 => rfl
  | n + 2 => rfl

theorem dischargeOf_eq (n : Nat) :
    dischargeOf n =
      match n with
      | 1 => some 0
      | 2 => some 1
      | 3 => some 2
      | 4 => some 3
      | _ => none := by
  match n with
  | 0 => rfl
  | 1 => rfl
  | 2 => rfl
  | 3 => rfl
  | 4 => rfl
  | n + 5 => rfl

theorem SamplePeriod.ofCode_eq (n : Nat) :
    SamplePeriod.ofCode n =
      match n with
      | 0 => .us2
      | 1 => .us8
      | 2 => .us32
      | _ => .us128 := by
  match n with
  | 0 => rfl
  | 1 => rfl
  | 2 => rfl
  | n + 3 => rfl

theorem imageEntry_of_absent {image : List Byte} {p : BitVec 2} {i : Fin 8}
    (h : (image.getD (entryOffset p i) 0).getLsbD 7 = false) :
    imageEntry image p i = RailEntry.absent := by
  have unset : natBit (imageByte image (entryOffset p i)) 7 = false := by
    rw [natBit_imageByte, h]
  simp [imageEntry, unset]

/-- A boundary with the ceiling at 0 keeps it there, and DIM_OUT inactive (R149, R151). -/
theorem State.boundary_of_dark (setting : s.dim.setting = .zero)
    (ceiling : s.dim.ceiling = .limited 0) (capture : s.dim.capture = .level) :
    s.boundary =
      { s with
        dim :=
          { s.dim with
            outPeriod := s.settings.fallbackPeriod
            boundaryLeft := some s.settings.fallbackPeriod
            active := false, activeLeft := none } } := by
  have period : s.nextPeriod = s.settings.fallbackPeriod := by
    simp [State.nextPeriod, capture]
  have next : s.nextCeiling = .limited 0 := by simp [State.nextCeiling, setting]
  have ramp : s.nextRampIndex = s.dim.rampIndex := by simp [State.nextRampIndex, setting]
  have stays : s.nextSetting = s.dim.setting := by simp [State.nextSetting, setting]
  simp [State.boundary, period, next, ramp, stays, State.setCeiling, Ceiling.clip, ceiling]

theorem State.firstBoundary_of_dark (setting : s.dim.setting = .zero)
    (ceiling : s.dim.ceiling = .limited 0) (capture : s.dim.capture = .level) :
    s.firstBoundary =
      { s with
        dim :=
          if s.settings.roles.backlight then
            { s.dim with
              outPeriod := s.settings.fallbackPeriod
              boundaryLeft := some s.settings.fallbackPeriod
              active := false, activeLeft := none }
          else s.dim } := by
  unfold State.firstBoundary State.hasDimming
  split
  · exact State.boundary_of_dark setting ceiling capture
  · rfl

/-- The requester's part of an entry to OFF without a descent before it (R96). -/
theorem State.requesterEntersOff_of_no_cause (cause : s.seq.lastCause = .none) :
    s.requesterEntersOff =
      { s with
        notices :=
          { s.notices with
            outbound :=
              { s.notices.outbound with
                rise :=
                  if s.settings.roles.requester && s.front.pwrReq.level then some ⟨0, 0, 0⟩
                  else s.notices.outbound.rise } }
        seq :=
          { s.seq with
            wait := if s.settings.roles.requester then .none else s.seq.wait } } := by
  unfold State.requesterEntersOff
  cases requester : s.settings.roles.requester
  · rfl
  · cases level : s.front.pwrReq.level
    · rfl
    · simp only [if_true, Bool.and_self, State.requestAtOff, cause]
      rfl

theorem State.queueRoll_eq (s : State) :
    s.queueRoll =
      { s with
        notices :=
          { s.notices with
            outbound :=
              { s.notices.outbound with
                roll :=
                  some ⟨rollArg1 s.settings.roles s.loader.profile, rollArg2 s.settings, 0⟩ } } } :=
  rfl

end Accepted

end Sys2Proof.Machine
namespace Sys2Proof

open Machine

/-- Settles O8: an accepted image makes the station of its bytes, and the first boundary, the
requester's part and the ROLL follow. -/
theorem acceptedImageBringsTheStationToOff : Obligations.AcceptedImageBringsTheStationToOff := by
  intro image hold s reads length accepted roster setting ceiling capture b half bit p o c entry wants
  have settings : imageSettings image p = c := by
    simp only [imageSettings, natBit_imageByte, SamplePeriod.ofCode_eq]
    rfl
  have entries : imageEntry image p = entry := by
    funext i
    cases present : (image.getD (entryOffset p i) 0).getLsbD 7
    · rw [imageEntry_of_absent present]
      exact (if_neg (Bool.eq_false_iff.mp present)).symm
    · rw [imageEntry_of_present present]
      simp only [DriveMode.ofCode_eq, dischargeOf_eq]
      exact (if_pos present).symm
  have ends : exec (.imageReadComplete image hold) s = .next (s.finishLoading image hold) :=
    if_pos (by simp [reads, length, Config.imageLength])
  rw [ends, State.finishLoading, accepted]
  dsimp only
  obtain ⟨-, -, -, -, station, -, -⟩ := (checkImage_eq_none_iff image p).mp accepted
  obtain ⟨-, low, -⟩ := (stationInRange_iff image).mp station
  have roll : rollArg1 c.roles p = BitVec.ofNat 8 (b 4 + p.toNat) :=
    rollArg1_ofByte (image.getD 4 0) p low
  have configured : s.configured image hold =
      { s with
        settings := c
        table := Vector.ofFn entry
        holdUp :=
          { s.holdUp with
            compareA := some (BitVec.ofNat 16 (half (o + 5)))
            compareP := some (BitVec.ofNat 16 (half (o + 7))) }
        line := { s.line with high := hold, riseTaken := false, highTwo := false }
        notices := { s.notices with link := .waiting }
        seq := { s.seq with mode := .off, lastCause := .none, roster := [ownEntry c p] }
        front := { s.front with sampleLeft := some 0, dimInDue := true }
        loader := { s.loader with reading := false, reason := .none, detail := 15 } } := by
    rw [State.configured, State.takeImage, settings, entries]
    simp only [State.putEntry, State.watchLines, State.beginSampling, roster]
    rfl
  rw [State.loadSucceeds_eq, configured,
    State.firstBoundary_of_dark (by exact setting) (by exact ceiling) (by exact capture),
    State.requesterEntersOff_of_no_cause rfl, State.queueRoll_eq]
  dsimp only
  rw [roll]
  rfl

end Sys2Proof

/-! The rails, one operation at a time: each operation of the rail controller on one rail as the
rail it leaves (R7 to R18). -/

namespace Sys2Proof.Machine

section OneRail

variable {s : State} {i : Fin 8}

/-! ### Enable, fall and rise -/

/-- The enable is applied alike to the rail whose timer and marks a switch off has taken. -/
theorem Rail.applyEnable_stopped (e : RailEntry) (level : Bool) (r : Rail) :
    { r with timer := .stopped, restoring := false, requested := false }.applyEnable e level =
      { r.applyEnable e level with timer := .stopped, restoring := false, requested := false } := by
  unfold Rail.applyEnable
  split <;> rfl

@[simp] theorem Rail.applyEnable_faultReason (e : RailEntry) (level : Bool) (r : Rail) :
    (r.applyEnable e level).faultReason = r.faultReason := by
  unfold Rail.applyEnable; split <;> rfl

@[simp] theorem Rail.applyEnable_slowFall (e : RailEntry) (level : Bool) (r : Rail) :
    (r.applyEnable e level).slowFall = r.slowFall := by
  unfold Rail.applyEnable; split <;> rfl

theorem State.enterFalling_eq (s : State) (i : Fin 8) (forced : Bool) :
    s.enterFalling i forced = s.setRail i (s.fallenRail i (forced || s.urgent)) := by
  unfold State.enterFalling State.fallenRail
  dsimp only
  congr 1
  by_cases off : (s.entry i).sense = true ∧ s.zone i = some .off
  · rw [if_pos off, if_pos (by simp [off])]
    rfl
  · rw [if_neg off, if_neg (by simpa using off)]
    rfl

theorem State.enterSettling_eq (s : State) (i : Fin 8) :
    s.enterSettling i =
      s.setRail i
        { (s.rail i).applyEnable (s.entry i) true with
          state := .settling, timer := s.railTimer (s.entry i).settleTime } := rfl

/-- The ramping rail that a HIGH zone faults at once (R29). -/
def State.rampingRail (s : State) (i : Fin 8) : Rail :=
  { (s.rail i).applyEnable (s.entry i) true with
    state := .ramping, timer := s.railTimer (s.entry i).riseLimit }

/-- Where a rail is sensed HIGH, it faults as it begins to ramp (R29). -/
theorem State.bringUp_of_high (sense : (s.entry i).sense = true) (zone : s.zone i = some .high) :
    s.bringUp i = (s.setRail i (s.rampingRail i)).railFault i .over := by
  simp only [State.bringUp, sense, if_true, State.enterRamping, zone]
  rfl

theorem State.raisedRail_of_unsensed (sense : (s.entry i).sense = false) (r : Rail) :
    s.raisedRail i r =
      { r.applyEnable (s.entry i) true with
        state := .settling, timer := s.railTimer (s.entry i).settleTime } :=
  if_pos sense

theorem State.raisedRail_of_good (sense : (s.entry i).sense = true)
    (zone : s.zone i = some .good) (r : Rail) :
    s.raisedRail i r =
      { r.applyEnable (s.entry i) true with
        state := .settling, timer := s.railTimer (s.entry i).settleTime
        riseTime :=
          some
            (BitVec.ofNat 16 (min 65535 ((r.applyEnable (s.entry i) true).enableClock / 100))) } :=
  (if_neg (by simp [sense])).trans (if_pos zone)

theorem State.raisedRail_of_not_good (sense : (s.entry i).sense = true)
    (zone : s.zone i ≠ some .good) (r : Rail) :
    s.raisedRail i r =
      { r.applyEnable (s.entry i) true with
        state := .ramping, timer := s.railTimer (s.entry i).riseLimit } :=
  (if_neg (by simp [sense])).trans (if_neg zone)

theorem Rail.applyEnable_of_applied {r : Rail} {level : Bool} (h : r.applied = level)
    (e : RailEntry) : r.applyEnable e level = r :=
  if_pos h

/-- A rail whose enable is applied on settles at GOOD, with the time of its rise (R13). -/
theorem State.rampedUp_eq (applied : (s.rail i).applied = true) :
    s.rampedUp i =
      s.setRail i
        { s.rail i with
          state := .settling, timer := s.railTimer (s.entry i).settleTime
          riseTime := some (BitVec.ofNat 16 (min 65535 ((s.rail i).enableClock / 100))) } := by
  rw [State.rampedUp, State.enterSettling_eq, State.rail_modifyRail_self,
    Rail.applyEnable_of_applied (by exact applied)]
  simp only [State.modifyRail, State.setRail_setRail]
  rfl

/-- A rail that is not sensed HIGH rises (R7, R10, R29). -/
theorem State.bringUp_of_not_high (h : ¬((s.entry i).sense = true ∧ s.zone i = some .high)) :
    s.bringUp i = s.setRail i (s.raisedRail i (s.rail i)) := by
  cases sense : (s.entry i).sense with
  | false =>
    rw [State.bringUp, if_neg (by simp [sense]), State.raisedRail_of_unsensed sense]
    rfl
  | true =>
    rw [State.bringUp, if_pos sense]
    by_cases good : s.zone i = some .good
    · have ramps : s.enterRamping i = (s.setRail i (s.rampingRail i)).rampedUp i := by
        simp only [State.enterRamping, good]
        rfl
      rw [ramps, State.rampedUp_eq (by simp [State.rampingRail]), State.setRail_setRail,
        State.raisedRail_of_good sense good, State.rail_setRail_self]
      rfl
    · have ramps : s.enterRamping i = s.setRail i (s.rampingRail i) := by
        unfold State.enterRamping
        split
        case h_1 zone => exact absurd zone good
        case h_2 zone => exact absurd ⟨sense, zone⟩ h
        all_goals rfl
      rw [ramps, State.raisedRail_of_not_good sense good]
      rfl

/-! ### Faults -/

theorem State.fallenRail_setFault (s : State) (i : Fin 8) (reason : RailReason) (urgent : Bool) :
    (s.modifyRail i fun r => { r with faultReason := some reason }).fallenRail i urgent =
      { s.fallenRail i urgent with faultReason := some reason } := by
  have applied : { s.rail i with faultReason := some reason }.applyEnable (s.entry i) false =
      { (s.rail i).applyEnable (s.entry i) false with faultReason := some reason } := by
    unfold Rail.applyEnable
    split <;> rfl
  simp only [State.fallenRail, State.entry_modifyRail, State.zone_modifyRail,
    State.rail_modifyRail_self, applied]
  split <;> rfl

/-- A rail fault, step by step (R18). -/
theorem State.railFault_eq (s : State) (i : Fin 8) (reason : RailReason) :
    s.railFault i reason =
      (s.setRail i
        { s.fallenRail i true with
          faultReason := some reason }).tidyBlankWait.reportRailFault i reason := by
  unfold State.railFault
  rw [State.enterFalling_eq, Bool.true_or, State.fallenRail_setFault]
  simp only [State.modifyRail, State.setRail_setRail]

@[simp] theorem State.rail_tidyBlankWait (s : State) (i : Fin 8) :
    s.tidyBlankWait.rail i = s.rail i := State.rail_congr (by simp) i

@[simp] theorem State.rail_joinBlankWait (s : State) (i : Fin 8) :
    s.joinBlankWait.rail i = s.rail i := State.rail_congr (by simp) i

theorem State.rail_railFault (s : State) (i j : Fin 8) (reason : RailReason) :
    (s.railFault i reason).rail j =
      if j = i then { s.fallenRail i true with faultReason := some reason } else s.rail j := by
  rw [State.railFault_eq, State.rail_congr (State.reportRailFault_rails _ i reason),
    State.rail_tidyBlankWait, State.rail_setRail]

theorem State.fallenRail_of_off {urgent : Bool} (h : (s.entry i).sense = true ∧ s.zone i = some .off) :
    s.fallenRail i urgent =
      { (s.rail i).applyEnable (s.entry i) false with
        urgentFall := urgent, state := .off, timer := .stopped, dischargeRequest := false
        restoring := false, requested := false } :=
  if_pos h

theorem State.fallenRail_of_not_off {urgent : Bool}
    (h : ¬((s.entry i).sense = true ∧ s.zone i = some .off)) :
    s.fallenRail i urgent =
      { (s.rail i).applyEnable (s.entry i) false with
        urgentFall := urgent, state := .falling, requested := false, restoring := false
        timer :=
          .running ((if urgent then (s.entry i).urgentFallLimit else (s.entry i).fallLimit) * 100)
        dischargeRequest := urgent || (!(s.entry i).sense && (s.entry i).discharge.isSome) } :=
  if_neg h

/-- Whether it falls or is OFF at once, a fallen rail has its enable released and is requested
off. -/
theorem State.fallenRail_released (s : State) (i : Fin 8) (urgent : Bool) :
    (s.fallenRail i urgent).applied = false ∧ (s.fallenRail i urgent).requested = false ∧
      (s.fallenRail i urgent).restoring = false := by
  by_cases off : (s.entry i).sense = true ∧ s.zone i = some .off
  · rw [State.fallenRail_of_off off]
    exact ⟨by simp, rfl, rfl⟩
  · rw [State.fallenRail_of_not_off off]
    exact ⟨by simp, rfl, rfl⟩

end OneRail

end Sys2Proof.Machine

namespace Sys2Proof.Machine

section RailEvents

variable {s : State} {i : Fin 8}

/-! ### Switch on and switch off -/

theorem State.switchOn_of_not (h : (s.entry i).present = false ∨ (s.rail i).state ≠ .off) :
    s.switchOn i = s :=
  if_neg (by rcases h with h | h <;> simp [h])

/-- A switch on that is taken clears the record, and the rail waits for blanking or comes up. -/
theorem State.switchOn_of_taken (present : (s.entry i).present = true)
    (off : (s.rail i).state = .off) :
    s.switchOn i =
      if (s.entry i).blankAligned = true ∧ s.urgent = false ∧ s.ctl.solo = false then
        (s.setRail i { (s.rail i).cleared with state := .armedOn }).joinBlankWait
      else (s.setRail i (s.rail i).cleared).bringUp i := by
  have taken : s.switchOn i = if (s.entry i).blankAligned && !s.urgent && !s.ctl.solo then
      ((s.modifyRail i Rail.cleared).modifyRail i fun r => { r with state := .armedOn }).joinBlankWait
      else (s.modifyRail i Rail.cleared).bringUp i := if_pos (by simp [present, off])
  rw [taken]
  simp only [Bool.and_eq_true, Bool.not_eq_true', and_assoc, State.modifyRail,
    State.setRail_setRail, State.rail_setRail_self]

theorem State.bringUp_setRail_of_not_high (r : Rail)
    (h : ¬((s.entry i).sense = true ∧ s.zone i = some .high)) :
    (s.setRail i r).bringUp i = s.setRail i (s.raisedRail i r) := by
  rw [State.bringUp_of_not_high (by exact h), State.setRail_setRail, State.rail_setRail_self]
  rfl

theorem State.bringUp_setRail_of_high (r : Rail) (sense : (s.entry i).sense = true)
    (zone : s.zone i = some .high) :
    (s.setRail i r).bringUp i =
      (s.setRail i
        { r.applyEnable (s.entry i) true with
          state := .ramping, timer := s.railTimer (s.entry i).riseLimit }).railFault i .over := by
  rw [State.bringUp_of_high (by exact sense) (by exact zone), State.setRail_setRail,
    State.rampingRail, State.rail_setRail_self]
  rfl

theorem State.switchOff_of_absent (h : (s.entry i).present = false) : s.switchOff i = s :=
  if_neg (by simp [h])

theorem State.switchOff_of_serving (present : (s.entry i).present = true)
    (serves : (s.rail i).state = .ramping ∨ (s.rail i).state = .settling ∨
      (s.rail i).state = .good) :
    s.switchOff i =
      if (s.entry i).blankAligned = true ∧ s.urgent = false ∧ s.ctl.solo = false then
        (s.setRail i
          { s.rail i with
            state := .armedOff, timer := .stopped, restoring := false
            requested := false }).joinBlankWait
      else if (s.entry i).dimGated = true ∧ s.urgent = false ∧ s.zeroReport = false then
        s.setRail i
          { s.rail i with
            state := .dimWait, timer := .stopped, restoring := false, requested := false }
      else s.setRail i (s.fallenRail i s.urgent) := by
  have serving : s.switchOff i = s.switchOffServing i := by
    rcases serves with st | st | st <;> simp [State.switchOff, present, st]
  rw [serving, State.switchOffServing, State.enterFalling_eq, Bool.false_or]
  simp only [Bool.and_eq_true, Bool.not_eq_true', and_assoc]
  rfl

/-- Switch off finds nothing to do at a rail that does not serve, wait or stand shed. -/
theorem State.switchOff_of_resting (h : (s.rail i).state = .off ∨ (s.rail i).state = .armedOff ∨
    (s.rail i).state = .dimWait ∨ (s.rail i).state = .falling ∨ (s.rail i).state = .discharging) :
    s.switchOff i = s := by
  unfold State.switchOff
  rcases h with st | st | st | st | st <;> simp [st]

theorem State.switchOff_of_armedOn (present : (s.entry i).present = true)
    (st : (s.rail i).state = .armedOn) :
    s.switchOff i = (s.setRail i (s.rail i).rests).tidyBlankWait := by
  simp only [State.switchOff, present, st, if_true]
  rfl

theorem State.switchOff_of_shed (present : (s.entry i).present = true)
    (st : (s.rail i).state = .shed) : s.switchOff i = s.setRail i (s.rail i).rests := by
  simp only [State.switchOff, present, st, if_true]
  rfl

/-! ### Reports -/

theorem State.heldFaults_congr {t : State} (h : t.notices = s.notices) :
    t.heldFaults = s.heldFaults := by
  simp only [State.heldFaults, State.pendingOf, h]

theorem State.refusesFault_congr {t : State} (h : t.notices = s.notices) (b : Byte) :
    t.refusesFault b = s.refusesFault b := by
  simp only [State.refusesFault, State.heldFaults_congr h]

theorem State.queueNotice_of_refused {a b : Byte} (h : s.refusesFault a = true) :
    s.queueNotice .fault a b = s.countLaterFault := if_pos ⟨rfl, h⟩

theorem State.queueNotice_fault_of_place {a b : Byte} (h : s.refusesFault a = false) :
    s.queueNotice .fault a b = s.setPending .fault (some ⟨a, b, 0⟩) := if_neg (by simp [h])

/-- The answer to a rail fault, in the notices and the record (R91). -/
theorem State.reportRailFault_notices {s u : State} (seq : u.seq = s.seq)
    (notices : u.notices = s.notices) (cur : u.cur = s.cur) (i : Fin 8) (reason : RailReason) :
    let t := u.reportRailFault i reason
    let b : Byte := BitVec.ofNat 8 i.val
    (s.seq.mode.active = true →
      (s.refusesFault b = false →
        t.notices =
            { s.notices with
              outbound :=
                { s.notices.outbound with fault := some ⟨b, BitVec.ofNat 8 reason.code, 0⟩ } } ∧
          t.cur = s.cur) ∧
      (s.refusesFault b = true →
        t.notices = s.notices ∧
          t.cur = { s.cur with laterFaults := satInc s.cur.laterFaults })) ∧
    (s.seq.mode.active = false →
      t.notices = s.notices ∧
        t.cur = { s.cur with laterFaults := satInc s.cur.laterFaults }) := by
  intro t b
  rw [← seq, ← notices, ← cur, ← State.refusesFault_congr notices]
  refine ⟨fun active => ⟨fun place => ?_, fun refused => ?_⟩, fun calm => ?_⟩
  · have queues : t = u.setPending .fault (some ⟨b, BitVec.ofNat 8 reason.code, 0⟩) :=
      (if_pos active).trans (State.queueNotice_fault_of_place place)
    rw [queues]
    exact ⟨rfl, rfl⟩
  · have counts : t = u.countLaterFault :=
      (if_pos active).trans (State.queueNotice_of_refused refused)
    rw [counts]
    exact ⟨rfl, rfl⟩
  · have counts : t = u.countLaterFault := if_neg (by simp [calm])
    rw [counts]
    exact ⟨rfl, rfl⟩

/-- The rail sag report queues COMMIT in RIDING only (R140). -/
theorem State.reportRailSag_eq (s : State) :
    s.reportRailSag =
      if s.seq.mode = .riding then
        { s with
          notices :=
            { s.notices with
              outbound :=
                { s.notices.outbound with
                  commit := some ⟨3, BitVec.ofNat 8 s.seq.phase, 0⟩ } } }
      else s := rfl

/-! ### Zone events -/

theorem State.rampedUp_eq_capture (s : State) (i : Fin 8) :
    s.rampedUp i =
      s.setRail i
        { (s.rail i).captureRise.applyEnable (s.entry i) true with
          state := .settling, timer := s.railTimer (s.entry i).settleTime } := by
  rw [State.rampedUp, State.enterSettling_eq, State.rail_modifyRail_self]
  simp only [State.modifyRail, State.setRail_setRail]
  rfl

@[simp] theorem Rail.applyEnable_riseTime (e : RailEntry) (level : Bool) (r : Rail) :
    (r.applyEnable e level).riseTime = r.riseTime := by
  unfold Rail.applyEnable; split <;> rfl

/-- OFF, ARMED(on) and SHED rails take no zone event (R13 to R17). -/
theorem State.zoneEvent_of_idle (z : Zone)
    (h : (s.rail i).state = .off ∨ (s.rail i).state = .armedOn ∨ (s.rail i).state = .shed) :
    s.zoneEvent i z = s := by
  rcases h with st | st | st
  · cases z <;> simp [State.zoneEvent, State.zoneGood, State.zoneHigh, State.zoneLow, st]
  · cases z <;> simp [State.zoneEvent, State.zoneGood, State.zoneHigh, State.zoneLow, st]
  · exact State.zoneEvent_of_shed st z

/-- Zone HIGH is an OVER fault of a rail whose enable is applied. -/
theorem State.zoneEvent_high {z : Zone} (high : z = .high) (h : (s.rail i).state = .ramping ∨ (s.rail i).state = .settling ∨
    (s.rail i).state = .good ∨ (s.rail i).state = .armedOff ∨ (s.rail i).state = .dimWait) :
    s.zoneEvent i z = s.railFault i .over := by
  subst high
  rcases h with st | st | st | st | st <;> simp [State.zoneEvent, State.zoneHigh, st]

theorem State.zoneEvent_eq_zoneLow {z : Zone} (low : z = .low ∨ z = .off) :
    ∃ isOff, s.zoneEvent i z = s.zoneLow i isOff := by
  rcases low with rfl | rfl
  · exact ⟨false, rfl⟩
  · exact ⟨true, rfl⟩

theorem State.zoneEvent_of_ramping {z : Zone} (st : (s.rail i).state = .ramping)
    (low : z = .off ∨ z = .low) : s.zoneEvent i z = s := by
  obtain ⟨isOff, event⟩ := State.zoneEvent_eq_zoneLow (s := s) (i := i) low.symm
  rw [event, State.zoneLow, st]

theorem State.zoneEvent_of_settling {z : Zone} (st : (s.rail i).state = .settling)
    (low : z = .low ∨ z = .off) :
    s.zoneEvent i z = if s.ctl.ride then s.dipSettling i else s.railFault i .dip := by
  obtain ⟨isOff, event⟩ := State.zoneEvent_eq_zoneLow (s := s) (i := i) low
  rw [event, State.zoneLow, st]

theorem State.zoneEvent_of_good {z : Zone} (st : (s.rail i).state = .good)
    (low : z = .low ∨ z = .off) :
    s.zoneEvent i z = if s.ctl.ride then s.dipGood i else s.railFault i .dip := by
  obtain ⟨isOff, event⟩ := State.zoneEvent_eq_zoneLow (s := s) (i := i) low
  rw [event, State.zoneLow, st]

theorem State.zoneEvent_of_waiting {z : Zone}
    (h : (s.rail i).state = .armedOff ∨ (s.rail i).state = .dimWait) (other : z ≠ .high) :
    s.zoneEvent i z = s := by
  rcases h with st | st <;> cases z <;>
    simp [State.zoneEvent, State.zoneGood, State.zoneLow, st] at other ⊢

/-- A rail that falls or discharges waits for zone OFF (R16, R17). -/
theorem State.zoneEvent_of_falling {z : Zone}
    (h : (s.rail i).state = .falling ∨ (s.rail i).state = .discharging) (other : z ≠ .off) :
    s.zoneEvent i z = s := by
  rcases h with st | st <;> cases z <;>
    simp [State.zoneEvent, State.zoneGood, State.zoneHigh, State.zoneLow, st] at other ⊢

theorem State.zoneEvent_off_of_falling {z : Zone} (off : z = .off)
    (h : (s.rail i).state = .falling ∨ (s.rail i).state = .discharging) :
    s.zoneEvent i z = s.setRail i (s.rail i).rests := by
  subst off
  rcases h with st | st
  · simp only [State.zoneEvent, State.zoneLow, st, if_true]; rfl
  · simp only [State.zoneEvent, State.zoneLow, st, if_true]; rfl

/-! ### Timer expiries -/

@[simp] theorem State.rail_seeHold (s : State) (hold : Bool) (i : Fin 8) :
    (s.seeHold hold).rail i = s.rail i := State.rail_congr (by simp) i

@[simp] theorem State.entry_seeHold (s : State) (hold : Bool) (i : Fin 8) :
    (s.seeHold hold).entry i = s.entry i := State.entry_congr (by simp) i

@[simp] theorem State.zone_seeHold (s : State) (hold : Bool) (i : Fin 8) :
    (s.seeHold hold).zone i = s.zone i := State.zone_congr (by simp) i

@[simp] theorem State.urgent_seeHold (s : State) (hold : Bool) :
    (s.seeHold hold).urgent = s.urgent := State.urgent_congr (by simp)

theorem State.timedIn_iff {st : RailState} :
    s.timedIn i st = true ↔ (s.rail i).state = st ∧ (s.rail i).timer = .running 0 := by
  simp [State.timedIn, OneShot.due_iff]

/-- The fall of a sensed rail ends in discharge where it names an output and is not urgent
(R16). -/
theorem State.fallExpired_of_discharges
    (h : (s.entry i).sense = true ∧ (s.rail i).urgentFall = false ∧ s.urgent = false ∧
      (s.entry i).discharge ≠ none) :
    s.fallExpired i =
      s.setRail i
        { s.rail i with
          state := .discharging, dischargeRequest := true
          timer := .running ((s.entry i).fallLimit * 100) } := by
  obtain ⟨sense, slow, calm, names⟩ := h
  exact if_pos (by simp [sense, slow, calm, Option.isSome_iff_ne_none.mpr names])

theorem State.fallExpired_of_sensed
    (h : ¬((s.entry i).sense = true ∧ (s.rail i).urgentFall = false ∧ s.urgent = false ∧
      (s.entry i).discharge ≠ none)) (sense : (s.entry i).sense = true) :
    s.fallExpired i = s.setRail i { (s.rail i).rests with slowFall := true } := by
  refine (if_neg fun discharges => h ?_).trans (if_pos sense)
  simpa [and_assoc, Option.isSome_iff_ne_none] using discharges

theorem State.fallExpired_of_unsensed (sense : (s.entry i).sense = false) :
    s.fallExpired i = s.setRail i (s.rail i).rests :=
  (if_neg (by simp [sense])).trans (if_neg (by simp [sense]))

@[simp] theorem State.fallenRail_slowFall (s : State) (i : Fin 8) (urgent : Bool) :
    (s.fallenRail i urgent).slowFall = (s.rail i).slowFall := by
  unfold State.fallenRail
  dsimp only
  split <;> simp [Rail.rests]

@[simp] theorem State.raisedRail_slowFall (s : State) (i : Fin 8) (r : Rail) :
    (s.raisedRail i r).slowFall = r.slowFall := by
  unfold State.raisedRail
  dsimp only
  repeat' split
  all_goals simp

end RailEvents

end Sys2Proof.Machine

namespace Sys2Proof

open Machine

/-- Settles O15: a switch on brings the cleared rail up, and a switch off that finds a serving rail
lets it wait or fall. -/
theorem switchOnAndSwitchOffOfARail : Obligations.SwitchOnAndSwitchOffOfARail := by
  refine ⟨fun s i => ⟨State.switchOn_of_not, fun present off => ?_⟩,
    fun s i => ⟨fun rests => ?_, fun present => ⟨fun st => ?_, fun st => ?_, fun serves => ?_⟩⟩⟩
  · have taken := State.switchOn_of_taken present off
    refine ⟨fun wait => taken.trans (if_pos wait), fun now sense => ?_, fun now sense good high => ?_,
      fun now sense good => ?_, fun now sense high => ?_⟩
    · rw [taken, if_neg now, State.bringUp_setRail_of_not_high _ (by simp [sense]),
        State.raisedRail_of_unsensed sense]
      rfl
    · rw [taken, if_neg now, State.bringUp_setRail_of_not_high _ (by simp [high]),
        State.raisedRail_of_not_good sense good]
      rfl
    · rw [taken, if_neg now, State.bringUp_setRail_of_not_high _ (by simp [good]),
        State.raisedRail_of_good sense good]
      rfl
    · rw [taken, if_neg now, State.bringUp_setRail_of_high _ sense high]
      rfl
  · rcases rests with absent | rests
    · exact State.switchOff_of_absent absent
    · exact State.switchOff_of_resting rests
  · rw [State.switchOff_of_armedOn present st]
    simp [Rail.rests]
  · exact State.switchOff_of_shed present st
  · have off := State.switchOff_of_serving present serves
    refine ⟨fun wait => off.trans (if_pos wait),
      fun now dims => (off.trans (if_neg now)).trans (if_pos dims),
      fun now lit => ⟨fun dark => ?_, fun bright => ⟨fun urgent => ?_, fun calm => ?_⟩⟩⟩
    · rw [off, if_neg now, if_neg lit, State.fallenRail_of_off dark,
        Rail.applyEnable_stopped]
    · rw [off, if_neg now, if_neg lit, State.fallenRail_of_not_off bright,
        Rail.applyEnable_stopped, urgent]
      rfl
    · rw [off, if_neg now, if_neg lit, State.fallenRail_of_not_off bright,
        Rail.applyEnable_stopped, calm]
      rfl

/-- Settles O17: the rail falls under urgent timing, and the report is the only other change. -/
theorem railFaultEndsTheService : Obligations.RailFaultEndsTheService := by
  intro s i reason t r b
  have rail : r = { s.fallenRail i true with faultReason := some reason } := by
    simp only [r, t, State.rail_railFault, if_true]
  have others : ∀ j, j ≠ i → t.rail j = s.rail j := fun j apart => by
    rw [State.rail_railFault, if_neg apart]
  obtain ⟨applied, requested, restoring⟩ := s.fallenRail_released i true
  have frame := RailFrame.railFault i reason s
  have reports := State.reportRailFault_notices (s := s)
    (u := (s.setRail i { s.fallenRail i true with faultReason := some reason }).tidyBlankWait)
    (by simp) (by simp) (by simp) i reason
  rw [← State.railFault_eq] at reports
  obtain ⟨active, calm⟩ := reports
  refine ⟨by rw [rail], by rw [rail]; exact requested, by rw [rail]; exact applied,
    by rw [rail]; exact restoring, fun off => ?_, fun on => ?_, others, active, calm,
    frame.settings, frame.table, frame.front, frame.timers, frame.holdUp, frame.line, frame.seq,
    frame.last, frame.mute, frame.dim, frame.port, frame.loader⟩
  · rw [rail, State.fallenRail_of_off off]
    exact ⟨rfl, rfl, rfl⟩
  · rw [rail, State.fallenRail_of_not_off on]
    exact ⟨rfl, rfl, rfl⟩

/-- Settles O18, rail state by rail state. -/
theorem zoneEventsActByRailState : Obligations.ZoneEventsActByRailState := by
  intro s i z st t timed sags
  have sag : ∀ u : State, u.seq = s.seq → u.reportRailSag = sags u := fun u seq => by
    simp only [State.reportRailSag_eq, sags, seq]
  refine ⟨State.zoneEvent_of_idle z, fun ramps => ⟨State.zoneEvent_of_ramping ramps, fun good => ?_,
    fun high => State.zoneEvent_high high (.inl ramps)⟩,
    fun settles => ⟨fun good => ?_, fun high => State.zoneEvent_high high (.inr (.inl settles)),
      fun low => ⟨fun calm => ?_, fun rides => ?_⟩⟩,
    fun serves => ⟨fun good => ?_,
      fun high => State.zoneEvent_high high (.inr (.inr (.inl serves))),
      fun low => ⟨fun calm => ?_, fun rides => ?_⟩⟩,
    fun waits => ⟨State.zoneEvent_of_waiting waits,
      fun high => State.zoneEvent_high high (.inr (.inr (.inr waits)))⟩,
    fun falls => ⟨State.zoneEvent_of_falling falls,
      fun off => State.zoneEvent_off_of_falling off falls⟩⟩
  · have settles : t = s.rampedUp i := by
      simp only [t, good, State.zoneEvent, State.zoneGood]
      rw [show (s.rail i).state = .ramping from ramps]
    rw [settles, State.rampedUp_eq_capture, State.rail_setRail_self]
    exact ⟨rfl, by simp, rfl, by simp [Rail.captureRise]; rfl, rfl⟩
  · simp only [t, good, State.zoneEvent, State.zoneGood]
    rw [show (s.rail i).state = .settling from settles]
  · exact (State.zoneEvent_of_settling settles low).trans (if_neg (by simp [calm]))
  · exact ((State.zoneEvent_of_settling settles low).trans (if_pos rides)).trans (sag _ rfl)
  · simp only [t, good, State.zoneEvent, State.zoneGood]
    rw [show (s.rail i).state = .good from serves]
  · exact (State.zoneEvent_of_good serves low).trans (if_neg (by simp [calm]))
  · exact ((State.zoneEvent_of_good serves low).trans (if_pos rides)).trans (sag _ rfl)

/-- Settles O19: each expiry belongs to one state of its rail. -/
theorem railTimerExpiriesAct : Obligations.RailTimerExpiriesAct := by
  refine ⟨fun s i hold => ⟨fun early => if_neg (by simp [early]), fun due => ?_⟩,
    fun s i hold => ⟨fun early => if_neg (by simp [early]), fun due => ?_⟩,
    fun s i hold => ⟨fun early => if_neg (by simp [early]), fun due =>
      ⟨fun discharges => ?_, fun stays sense => ?_, fun blind => ?_⟩⟩⟩
  · refine (if_pos due).trans ?_
    rw [State.riseLimitExpired, State.stopRailTimer, State.modifyRail, State.rail_seeHold]
  · refine (if_pos due).trans ?_
    rw [State.settleExpired, State.modifyRail, State.rail_seeHold]
  · refine (if_pos due).trans ?_
    rw [State.fallExpired_of_discharges (by simpa using discharges), State.rail_seeHold,
      State.entry_seeHold]
  · refine (if_pos due).trans ?_
    rw [State.fallExpired_of_sensed (by simpa using stays) (by simpa using sense),
      State.rail_seeHold]
    rfl
  · refine (if_pos due).trans ?_
    rw [State.fallExpired_of_unsensed (by simpa using blind), State.rail_seeHold]
    rfl

/-- Settles O20: a DISCHARGING rail waits for zone OFF or its expiry, and only the switch on of an
OFF rail clears the mark. -/
theorem dischargingRailTakesItsEvents : Obligations.DischargingRailTakesItsEvents := by
  refine ⟨fun s i hold discharges => ⟨State.zoneEvent_off_of_falling rfl (.inr discharges), fun due => ?_,
    State.zoneEvent_of_falling (.inr discharges) nofun,
    State.zoneEvent_of_falling (.inr discharges) nofun,
    State.zoneEvent_of_falling (.inr discharges) nofun, by simp [State.urgentRail, discharges]⟩,
    fun s i off => ⟨fun present => ?_, ?_, ?_, ?_, ?_, fun z => ?_⟩⟩
  · refine (if_pos (State.timedIn_iff.mpr ⟨discharges, due⟩)).trans ?_
    rw [State.dischargeExpired, State.modifyRail, State.rail_seeHold]
    rfl
  · rw [State.switchOn_of_taken present off]
    split
    · rw [State.rail_joinBlankWait, State.rail_setRail_self]
      rfl
    · by_cases high : (s.entry i).sense = true ∧ s.zone i = some .high
      · rw [State.bringUp_setRail_of_high _ high.1 high.2, State.rail_railFault, if_pos rfl]
        simp [Rail.cleared]
      · rw [State.bringUp_setRail_of_not_high _ high, State.rail_setRail_self,
          State.raisedRail_slowFall]
        rfl
  · rw [State.switchOff_of_resting (.inl off)]
  · rw [State.shed_of_not_sheds (by simp [State.Sheds, off, RailState.serving])]
  · rw [State.restore, if_neg (by simp [off])]
  · simp [State.forceRailOff, off]
  · rw [State.zoneEvent_of_idle z (.inl off)]

end Sys2Proof

namespace Sys2Proof.Machine

/-! ### The station at a taken notice -/

section AtNotice

variable {s t : State} {n : Notice} {own hold : Bool} {k : Kind}
  {act : Notice → Bool → State → State}

theorem State.atNotice_eq (s : State) (n : Notice) (own hold : Bool) :
    s.atNotice n own hold =
      (((((s.frameTaken own).withdrawForTaken n.kind own).seeHold hold).countTaken n).checkClash
        n own) := rfl

/-- The station just before the common steps of a taken notice: the frame is over, the
withdrawals are made, HOLD is seen. -/
def State.frameOver (s : State) (k : Kind) (own hold : Bool) : State :=
  ((s.frameTaken own).withdrawForTaken k own).seeHold hold

/-- A received notice acts after the common steps, and what follows a step comes last. -/
theorem State.take_of_takes (h : s.takes n own) (kind : n.kind = k) :
    s.take k hold act =
      (act n own ((s.frameOver k own hold).beforeNotice n own)).conclude := by
  have received : s.receive k = some (n, own, (s.frameTaken own).withdrawForTaken k own) :=
    receive_eq_some.mpr ⟨h, kind, rfl⟩
  unfold State.take
  rw [received]
  rfl

@[simp] theorem State.frameTaken_seq : (s.frameTaken own).seq = s.seq := rfl

@[simp] theorem State.frameTaken_cur : (s.frameTaken own).cur = s.cur := rfl

@[simp] theorem State.frameTaken_line : (s.frameTaken own).line = s.line := rfl

@[simp] theorem State.frameOver_seq : (s.frameOver k own hold).seq = s.seq := by
  simp [State.frameOver]

theorem State.frameOver_line : (s.frameOver k own hold).line = (s.seeHold hold).line := by
  have loaded : ((s.frameTaken own).withdrawForTaken k own).loaded = s.loaded := by
    simp [State.loaded]
  unfold State.frameOver State.seeHold
  rw [loaded]
  split <;> simp

theorem changesMode_loaded {m : Mode} (h : changesMode m k = true) : m.loaded = true := by
  revert h
  cases m <;> simp [changesMode, Mode.loaded]

theorem State.seeHold_line_of_loaded (live : s.loaded = true) :
    (s.seeHold hold).line =
      { s.line with high := hold, riseTaken := s.line.riseTaken && s.line.high && hold } := by
  simp [State.seeHold, live]

theorem State.riseBefore_of_noRise
    (h : changesMode s.seq.mode k = false ∨ s.line.claimed = true ∨ s.line.high = false ∨
      s.line.riseTaken = true) : s.riseBefore k = s := by
  unfold State.riseBefore
  rcases h with h | h | h | h <;> simp [h]

/-- Where no rise is taken first, the notice acts in the mode and phase that stand. -/
theorem State.beforeNotice_of_noRiseFirst (h : s.noRiseFirst n.kind hold) :
    (s.frameOver n.kind own hold).beforeNotice n own = s.atNotice n own hold := by
  have none : (s.frameOver n.kind own hold).riseBefore n.kind = s.frameOver n.kind own hold := by
    apply State.riseBefore_of_noRise
    by_cases changes : changesMode s.seq.mode n.kind = true
    · have line := (s.seeHold_line_of_loaded (hold := hold) (changesMode_loaded changes))
      rw [State.frameOver_line, line, State.frameOver_seq]
      rcases h with same | claimed | low | taken
      · exact .inl same
      · exact .inr (.inl claimed)
      · exact .inr (.inr (.inl low))
      · cases hold
        · exact .inr (.inr (.inl rfl))
        · exact .inr (.inr (.inr (by simpa [State.riseAlreadyTaken] using taken)))
    · exact .inl (by simpa using changes)
  unfold State.beforeNotice
  rw [none]
  rfl

theorem State.take_atNotice (h : s.takes n own) (kind : n.kind = k)
    (noRise : s.noRiseFirst k hold) :
    s.take k hold act = (act n own (s.atNotice n own hold)).conclude := by
  subst kind
  rw [State.take_of_takes h rfl, State.beforeNotice_of_noRiseFirst noRise]

/-- Where no rise is taken first and the act makes `v` of the station at the notice, what follows
the step comes after `v`. -/
theorem State.take_eq (h : s.takes n own) (kind : n.kind = k) (noRise : s.noRiseFirst k hold)
    (acts : act n own (s.atNotice n own hold) = t) :
    (.next (s.take k hold act) : Result) = .next t.conclude := by
  rw [State.take_atNotice h kind noRise, acts]

section Fields

variable (s n own hold)

@[simp] theorem State.atNotice_settings : (s.atNotice n own hold).settings = s.settings := by
  simp [State.atNotice]
@[simp] theorem State.atNotice_table : (s.atNotice n own hold).table = s.table := by
  simp [State.atNotice]
@[simp] theorem State.atNotice_rails : (s.atNotice n own hold).rails = s.rails := by
  simp [State.atNotice]
@[simp] theorem State.atNotice_ctl : (s.atNotice n own hold).ctl = s.ctl := by
  simp [State.atNotice]
@[simp] theorem State.atNotice_front : (s.atNotice n own hold).front = s.front := by
  simp [State.atNotice]
@[simp] theorem State.atNotice_timers : (s.atNotice n own hold).timers = s.timers := by
  simp [State.atNotice]
@[simp] theorem State.atNotice_holdUp : (s.atNotice n own hold).holdUp = s.holdUp := by
  simp [State.atNotice]
@[simp] theorem State.atNotice_last : (s.atNotice n own hold).last = s.last := by
  simp [State.atNotice]
@[simp] theorem State.atNotice_mute : (s.atNotice n own hold).mute = s.mute := by
  simp [State.atNotice]
@[simp] theorem State.atNotice_dim : (s.atNotice n own hold).dim = s.dim := by
  simp [State.atNotice]
@[simp] theorem State.atNotice_port : (s.atNotice n own hold).port = s.port := by
  simp [State.atNotice]
@[simp] theorem State.atNotice_loader : (s.atNotice n own hold).loader = s.loader := by
  simp [State.atNotice]
@[simp] theorem State.atNotice_freeIndex : (s.atNotice n own hold).freeIndex = s.freeIndex := by
  simp [State.atNotice]
@[simp] theorem State.atNotice_pending : (s.atNotice n own hold).pending = s.pending := by
  simp [State.atNotice]

@[simp] theorem State.atNotice_line :
    (s.atNotice n own hold).line = (s.seeHold hold).line := by
  rw [State.atNotice_eq, State.checkClash_line, State.countTaken_line]
  exact State.frameOver_line

end Fields

/-! What a number clash, the sender's count and the withdrawals change. -/

theorem State.queueNotice_cur_eq (s : State) (k : Kind) (a b : Byte) :
    ∃ later, (s.queueNotice k a b).cur = { s.cur with laterFaults := later } := by
  unfold State.queueNotice
  split
  · exact ⟨_, rfl⟩
  · exact ⟨s.cur.laterFaults, rfl⟩

theorem State.recordClash_cur_eq (s : State) :
    ∃ later, s.recordClash.cur =
      { s.cur with numberClash := true, alertPending := true, laterFaults := later } := by
  unfold State.recordClash; dsimp only
  split
  · exact State.queueNotice_cur_eq _ _ _ _
  · exact ⟨s.cur.laterFaults, rfl⟩

theorem State.recordClash_seq (s : State) :
    s.recordClash.seq =
      { s.seq with
        roster := s.seq.roster.map fun e =>
          if e.number = s.settings.number then { e with clash := true } else e } := by
  unfold State.recordClash; dsimp only
  split
  · exact State.queueNotice_seq _ _ _ _
  · rfl

theorem State.countTaken_seq (s : State) (n : Notice) :
    (s.countTaken n).seq =
      { s.seq with
        roster := s.seq.roster.map fun e =>
          if e.number = n.sender then { e with taken := satInc e.taken } else e } := by
  unfold State.countTaken; dsimp only
  repeat' split
  all_goals rfl

theorem State.countTaken_cur (s : State) (n : Notice) :
    (s.countTaken n).cur =
      { s.cur with
        phaseDisagreements :=
          if n.senderPhase = none ∨ n.senderPhase = some s.seq.phase then s.cur.phaseDisagreements
          else satInc s.cur.phaseDisagreements } := by
  unfold State.countTaken; dsimp only
  split
  case h_1 p some =>
    by_cases same : p = s.seq.phase
    · simp [same, some]
    · simp [same, some, State.countDisagreement]
  case h_2 none => simp [none]

theorem State.checkClash_eq (clash : n.sender ≠ s.settings.number ∨ own = true) :
    s.checkClash n own = s := by
  refine if_neg ?_
  rintro ⟨sender, other⟩
  rcases clash with h | h
  · exact h sender
  · simp [other] at h

theorem State.checkClash_of_clash (sender : n.sender = s.settings.number) :
    s.checkClash n false = s.recordClash := if_pos ⟨sender, rfl⟩

@[simp] theorem State.checkClash_link (s : State) (n : Notice) (own : Bool) :
    (s.checkClash n own).notices.link = s.notices.link := by
  unfold State.checkClash
  split <;> simp

theorem State.checkClash_seq_eq (s : State) (n : Notice) (own : Bool) :
    ∃ r, (s.checkClash n own).seq = { s.seq with roster := r } := by
  unfold State.checkClash
  split
  · exact ⟨_, s.recordClash_seq⟩
  · exact ⟨s.seq.roster, rfl⟩

theorem State.checkClash_cur_eq (s : State) (n : Notice) (own : Bool) :
    ∃ later clash alert, (s.checkClash n own).cur =
      { s.cur with laterFaults := later, numberClash := clash, alertPending := alert } := by
  unfold State.checkClash
  split
  · obtain ⟨later, eq⟩ := s.recordClash_cur_eq
    exact ⟨later, true, true, eq⟩
  · exact ⟨s.cur.laterFaults, s.cur.numberClash, s.cur.alertPending, rfl⟩

@[simp] theorem State.withdrawForTaken_link (s : State) (k : Kind) (own : Bool) :
    (s.withdrawForTaken k own).notices.link = s.notices.link := by
  unfold State.withdrawForTaken
  repeat' split
  all_goals rfl

@[simp] theorem State.withdrawForTaken_inFlight (s : State) (k : Kind) (own : Bool) :
    (s.withdrawForTaken k own).notices.inFlight = s.notices.inFlight := by
  unfold State.withdrawForTaken
  repeat' split
  all_goals rfl

section Fields

variable (s n own hold)

@[simp] theorem State.atNotice_link : (s.atNotice n own hold).notices.link = .waiting := by
  simp [State.atNotice]

/-- Before it acts, a taken notice changes nothing of the sequence but the roster. -/
theorem State.atNotice_seq_eq : ∃ r, (s.atNotice n own hold).seq = { s.seq with roster := r } := by
  rw [State.atNotice_eq]
  obtain ⟨r, eq⟩ :=
    (((((s.frameTaken own).withdrawForTaken n.kind own).seeHold hold).countTaken n)).checkClash_seq_eq
      n own
  rw [eq, State.countTaken_seq]
  exact ⟨r, by simp⟩

/-- Before it acts, a taken notice changes counts and flags of the record alone. -/
theorem State.atNotice_cur_eq :
    ∃ later clash alert disagreements, (s.atNotice n own hold).cur =
      { s.cur with
        laterFaults := later, numberClash := clash, alertPending := alert
        phaseDisagreements := disagreements } := by
  rw [State.atNotice_eq]
  obtain ⟨later, clash, alert, eq⟩ :=
    (((((s.frameTaken own).withdrawForTaken n.kind own).seeHold hold).countTaken n)).checkClash_cur_eq
      n own
  rw [eq, State.countTaken_cur]
  simp only [State.seeHold_cur, State.withdrawForTaken_cur, State.frameTaken_cur]
  exact ⟨later, clash, alert, _, rfl⟩

theorem State.atNotice_seq :
    (s.atNotice n own hold).seq =
      { s.seq with roster := (s.atNotice n own hold).seq.roster } := by
  obtain ⟨r, eq⟩ := s.atNotice_seq_eq n own hold
  rw [eq]

@[simp] theorem State.atNotice_mode : (s.atNotice n own hold).seq.mode = s.seq.mode := by
  rw [State.atNotice_seq]
@[simp] theorem State.atNotice_phase : (s.atNotice n own hold).seq.phase = s.seq.phase := by
  rw [State.atNotice_seq]
@[simp] theorem State.atNotice_returnMode :
    (s.atNotice n own hold).seq.returnMode = s.seq.returnMode := by
  rw [State.atNotice_seq]
@[simp] theorem State.atNotice_signature :
    (s.atNotice n own hold).seq.signature = s.seq.signature := by
  rw [State.atNotice_seq]
@[simp] theorem State.atNotice_lead : (s.atNotice n own hold).seq.lead = s.seq.lead := by
  rw [State.atNotice_seq]
@[simp] theorem State.atNotice_wait : (s.atNotice n own hold).seq.wait = s.seq.wait := by
  rw [State.atNotice_seq]
@[simp] theorem State.atNotice_owed : (s.atNotice n own hold).seq.owed = s.seq.owed := by
  rw [State.atNotice_seq]
@[simp] theorem State.atNotice_tally : (s.atNotice n own hold).seq.tally = s.seq.tally := by
  rw [State.atNotice_seq]
@[simp] theorem State.atNotice_sagCount :
    (s.atNotice n own hold).seq.sagCount = s.seq.sagCount := by
  rw [State.atNotice_seq]
@[simp] theorem State.atNotice_budgetPassed :
    (s.atNotice n own hold).seq.budgetPassed = s.seq.budgetPassed := by
  rw [State.atNotice_seq]
@[simp] theorem State.atNotice_attempts :
    (s.atNotice n own hold).seq.attempts = s.seq.attempts := by
  rw [State.atNotice_seq]
@[simp] theorem State.atNotice_lastCause :
    (s.atNotice n own hold).seq.lastCause = s.seq.lastCause := by
  rw [State.atNotice_seq]

@[simp] theorem State.atNotice_firstFault :
    (s.atNotice n own hold).cur.firstFault = s.cur.firstFault := by
  obtain ⟨_, _, _, _, eq⟩ := s.atNotice_cur_eq n own hold
  rw [eq]
@[simp] theorem State.atNotice_sags : (s.atNotice n own hold).cur.sags = s.cur.sags := by
  obtain ⟨_, _, _, _, eq⟩ := s.atNotice_cur_eq n own hold
  rw [eq]
@[simp] theorem State.atNotice_runNumber :
    (s.atNotice n own hold).cur.runNumber = s.cur.runNumber := by
  obtain ⟨_, _, _, _, eq⟩ := s.atNotice_cur_eq n own hold
  rw [eq]
@[simp] theorem State.atNotice_longestHoldUp :
    (s.atNotice n own hold).cur.longestHoldUp = s.cur.longestHoldUp := by
  obtain ⟨_, _, _, _, eq⟩ := s.atNotice_cur_eq n own hold
  rw [eq]

@[simp] theorem State.atNotice_inRollcall :
    (s.atNotice n own hold).inRollcall = s.inRollcall := by
  simp [State.inRollcall]

@[simp] theorem State.atNotice_phaseByte :
    (s.atNotice n own hold).phaseByte = s.phaseByte := by
  simp [State.phaseByte]

@[simp] theorem State.atNotice_entry (i : Fin 8) :
    (s.atNotice n own hold).entry i = s.entry i := by
  simp [State.entry]

@[simp] theorem State.atNotice_rail (i : Fin 8) :
    (s.atNotice n own hold).rail i = s.rail i := by
  simp [State.rail]

@[simp] theorem State.atNotice_zone (i : Fin 8) :
    (s.atNotice n own hold).zone i = s.zone i := by
  simp [State.zone]

end Fields

theorem changesMode_of_not_active {m : Mode} (h : m.active = false) :
    changesMode m k = false := by
  revert h
  cases m <;> simp [changesMode, Mode.active]

theorem State.noRiseFirst_of_not_active (h : s.seq.mode.active = false) :
    s.noRiseFirst k hold := .inl (changesMode_of_not_active h)

theorem State.noRiseFirst_of_kind (h : k = .mainsOk ∨ k = .rise ∨ k = .roll ∨ k = .tally) :
    s.noRiseFirst k hold := by
  refine .inl ?_
  rcases h with rfl | rfl | rfl | rfl <;> cases s.seq.mode <;> rfl

theorem State.recordFault_first (first : s.cur.firstFault = none) :
    s.recordFault n =
      { s with
        cur :=
          { s.cur with
            firstFault := some ⟨n.arg2, n.sender, n.arg1, s.seq.phase⟩, alertPending := true } } := by
  simp [State.recordFault, first]

theorem State.recordFault_later (later : s.cur.firstFault ≠ none) :
    s.recordFault n = s.countLaterFault := by
  obtain ⟨f, some⟩ := Option.ne_none_iff_exists'.mp later
  simp [State.recordFault, some]

theorem State.onFault_of_idle (idle : s.seq.mode.active = false) :
    s.onFault n own = s.recordFault n := by
  unfold State.onFault; dsimp only
  exact if_neg (by simp [idle])

end AtNotice

end Sys2Proof.Machine

namespace Sys2Proof
open Machine

/-- Settles O46. -/
theorem noticeOutsideTheActiveModesIsRecorded :
    Obligations.NoticeOutsideTheActiveModesIsRecorded := by
  unfold Obligations.NoticeOutsideTheActiveModesIsRecorded
  intro s n own hold takes idle u rests
  have idle' : ¬u.seq.mode.active = true := by simp [u, idle]
  have noRise : ∀ k, s.noRiseFirst k hold := fun _ => State.noRiseFirst_of_not_active idle
  refine ⟨fun kind => ⟨fun awake => ?_, fun resting => ?_⟩,
    fun kind => ⟨fun first => ?_, fun later => ?_⟩, fun kind => ?_⟩
  · refine State.take_eq takes kind (noRise _) ?_
    have awake' : ¬(u.seq.mode = .off ∧ u.seq.wait = .rest) := by simpa [u, rests] using awake
    exact (if_neg idle').trans (if_neg awake')
  · refine State.take_eq takes kind (noRise _) ?_
    have resting' : u.seq.mode = .off ∧ u.seq.wait = .rest := by simpa [u, rests] using resting
    refine ((if_neg idle').trans (if_pos resting')).trans ?_
    simp [State.stopRetry, u]
  · refine State.take_eq takes kind (noRise _) ?_
    refine (State.onFault_of_idle (by simpa using idle)).trans ?_
    refine (State.recordFault_first (by simpa using first)).trans ?_
    simp [u]
  · refine State.take_eq takes kind (noRise _) ?_
    refine (State.onFault_of_idle (by simpa using idle)).trans ?_
    exact State.recordFault_later (by simpa using later)
  · refine State.take_eq takes kind (noRise _) ?_
    refine (if_neg idle').trans ?_
    simp [State.raiseAlert, State.feed, u]

/-- Settles O50. -/
theorem tallyComparesTheSignature : Obligations.TallyComparesTheSignature := by
  unfold Obligations.TallyComparesTheSignature
  intro s n own hold takes kind u marked
  have noRise : s.noRiseFirst .tally hold := State.noRiseFirst_of_kind (by simp)
  have tally : u.seq.tally = s.seq.tally := State.atNotice_tally _ _ _ _
  refine ⟨fun elsewhere => ?_, fun on same => ?_, fun on differs => ?_⟩
  · refine State.take_eq takes kind noRise ?_
    exact if_neg (by simpa [u] using elsewhere)
  · refine State.take_eq takes kind noRise ?_
    exact (if_pos (by simpa [u] using on)).trans (if_pos (same.trans tally.symm))
  · refine State.take_eq takes kind noRise ?_
    exact (if_pos (by simpa [u] using on)).trans (if_neg fun same => differs (same.trans tally))

end Sys2Proof

namespace Sys2Proof.Machine

/-! ### A taken ROLL -/

section Roll

variable {s : State} {n : Notice} {own hold : Bool}

theorem State.atNotice_high (live : s.loaded = true) :
    (s.atNotice n own hold).line.high = hold := by
  rw [State.atNotice_line, State.seeHold_line_of_loaded live]

theorem State.answerRoll_of_inRollcall (mismatch : Bool) (h : s.inRollcall = true) :
    s.answerRoll mismatch = if mismatch then s.queueStationFault reasonConfigMismatch else s :=
  if_pos h

theorem State.answerRoll_of_active (mismatch : Bool) (h : s.inRollcall = false)
    (active : s.seq.mode.active = true) :
    s.answerRoll mismatch = s.queueStationFault reasonPeerRestart :=
  (if_neg (by simp [h])).trans (if_pos active)

theorem State.answerRoll_of_idle (mismatch : Bool) (h : s.inRollcall = false)
    (idle : s.seq.mode.active = false) : s.answerRoll mismatch = s :=
  (if_neg (by simp [h])).trans (if_neg (by simp [idle]))

/-- A FAULT is queued in the same way whatever the roster holds. -/
theorem State.queueStationFault_putEntry (e : RosterEntry) (r : Byte) :
    { (s.putEntry e).queueStationFault r with seq := s.seq } = s.queueStationFault r := by
  have refuses : (s.putEntry e).refusesFault stationLevel = s.refusesFault stationLevel := rfl
  unfold State.queueStationFault State.queueNotice
  rw [refuses]
  split <;> rfl

@[simp] theorem State.putEntry_inRollcall (e : RosterEntry) :
    (s.putEntry e).inRollcall = s.inRollcall := rfl

@[simp] theorem State.putEntry_mode (e : RosterEntry) :
    (s.putEntry e).seq.mode = s.seq.mode := rfl

/-- Everything in the entry that a ROLL makes or refreshes, but what an earlier entry adds. -/
theorem State.rolledEntry_facts (s : State) (n : Notice) :
    (s.rolledEntry n).number = n.sender ∧ (s.rolledEntry n).roles = Roles.ofByte n.arg1 ∧
      (s.rolledEntry n).profile = n.arg1.extractLsb' 0 2 ∧
      (s.rolledEntry n).phaseCount = n.arg2.toNat / 16 ∧
      (s.rolledEntry n).retryLimit = n.arg2.toNat % 4 ∧
      (s.rolledEntry n).mismatch =
        !decide (n.arg2.toNat / 16 = s.settings.phaseCount ∧
          n.arg2.toNat % 4 = s.settings.retryLimit) := by
  unfold State.rolledEntry; dsimp only
  cases found : s.rosterEntry n.sender with
  | none => simp [beq_eq_decide]
  | some e =>
    have number : e.number = n.sender := by
      have := List.find?_some found
      simpa using this
    simp [number, beq_eq_decide]

theorem State.rolledEntry_of_none (h : s.rosterEntry n.sender = none) :
    (s.rolledEntry n).heard = s.inRollcall ∧ (s.rolledEntry n).outOfStep = false ∧
      (s.rolledEntry n).clash = false ∧ (s.rolledEntry n).taken = 0 := by
  simp [State.rolledEntry, h]

theorem State.rolledEntry_of_some {f : RosterEntry} (h : s.rosterEntry n.sender = some f) :
    (s.rolledEntry n).heard = (f.heard || s.inRollcall) ∧
      (s.rolledEntry n).outOfStep = f.outOfStep ∧ (s.rolledEntry n).taken = f.taken ∧
      (s.rolledEntry n).clash =
        (f.clash || s.inRollcall && f.heard &&
          !decide (f.roles = (s.rolledEntry n).roles ∧
            f.profile = (s.rolledEntry n).profile)) := by
  simp [State.rolledEntry, h, beq_eq_decide]

end Roll

end Sys2Proof.Machine

namespace Sys2Proof
open Machine

/-- Settles O49. -/
theorem rollFillsTheRoster : Obligations.RollFillsTheRoster := by
  unfold Obligations.RollFillsTheRoster
  intro s n own hold takes kind u agrees
  have noRise : s.noRiseFirst .roll hold := State.noRiseFirst_of_kind (by simp)
  have mode : u.seq.mode = s.seq.mode := State.atNotice_mode _ _ _ _
  have roll : u.inRollcall = s.inRollcall := State.atNotice_inRollcall _ _ _ _
  refine ⟨fun mine => ⟨fun ⟨off, low⟩ => ?_, fun elsewhere live => ?_⟩,
    fun other clash => ⟨fun ⟨outside, active⟩ => ?_, fun agree => ?_⟩, fun other peer => ?_⟩
  · refine State.take_eq takes kind noRise ?_
    have high : u.line.high = hold := State.atNotice_high (by simp [State.loaded, off, Mode.loaded])
    exact (if_pos mine).trans (if_pos ⟨mode.trans off, high.trans low⟩)
  · refine State.take_eq takes kind noRise ?_
    have high : u.line.high = hold := State.atNotice_high live
    exact (if_pos mine).trans
      (if_neg fun ⟨off, low⟩ => elsewhere ⟨mode.symm.trans off, high.symm.trans low⟩)
  · refine State.take_eq takes kind noRise ?_
    have same : n.sender = u.settings.number := clash.trans (by simp [u])
    refine ((if_neg (by simp [other])).trans (if_pos same)).trans ?_
    exact State.answerRoll_of_active _ (roll.trans outside) (by rw [mode, active])
  · refine State.take_eq takes kind noRise ?_
    have same : n.sender = u.settings.number := clash.trans (by simp [u])
    refine ((if_neg (by simp [other])).trans (if_pos same)).trans ?_
    by_cases inside : u.inRollcall = true
    · exact State.answerRoll_of_inRollcall _ inside
    · have outside : u.inRollcall = false := by simpa using inside
      refine State.answerRoll_of_idle _ outside ?_
      rcases agree with h | h
      · exact absurd (roll.trans h) inside
      · rw [mode, h]
  · have differs : n.sender ≠ u.settings.number := by simpa [u] using peer
    obtain ⟨number, roles, profile, count, retry, wrong⟩ := u.rolledEntry_facts n
    have agrees' : (u.rolledEntry n).mismatch = !decide agrees := by
      rw [wrong]
      simp [u, agrees]
    refine ⟨u.rolledEntry n,
      (u.putEntry (u.rolledEntry n)).answerRoll (u.rolledEntry n).mismatch,
      State.take_eq takes kind noRise ((if_neg (by simp [other])).trans (if_neg differs)),
      State.answerRoll_seq _ _, number, roles, profile, count, retry, agrees', fun inside => ?_,
      fun none => ?_, fun f some => ?_, fun inside => ?_, fun outside active => ?_,
      fun outside idle => ?_⟩
    · cases found : u.rosterEntry n.sender with
      | none => exact (State.rolledEntry_of_none found).1.trans (roll.trans inside)
      | some f =>
        rw [(State.rolledEntry_of_some found).1, roll, inside, Bool.or_true]
    · rw [← roll]
      exact State.rolledEntry_of_none none
    · rw [← roll]
      exact State.rolledEntry_of_some some
    · rw [State.answerRoll_of_inRollcall _ (by simpa [roll] using inside), agrees']
      by_cases h : agrees
      · simp [h, State.putEntry]
      · simp only [h, decide_false, Bool.not_false, ↓reduceIte]
        exact State.queueStationFault_putEntry _ _
    · rw [State.answerRoll_of_active _ (by simpa [roll] using outside) (by simp [mode, active])]
      exact State.queueStationFault_putEntry _ _
    · rw [State.answerRoll_of_idle _ (by simpa [roll] using outside) (by simp [mode, idle])]
      rfl

end Sys2Proof

namespace Sys2Proof.Machine

/-! ### Queueing and claiming -/

section Claims

variable {s : State} {k : Kind}

theorem State.queueNotice_of_ne_fault (h : k ≠ .fault) (a b : Byte) :
    s.queueNotice k a b = s.setPending k (some ⟨a, b, 0⟩) := if_neg fun ⟨fault, _⟩ => h fault

theorem State.claimNow_of_claimed (h : s.line.claimed = true) : s.claimNow = s := if_pos h

/-- A new claim: the line pulled low, the minimum hold ahead (R51, log 9). -/
def PhaseLine.newClaim : PhaseLine :=
  { claimed := true, minHold := false, minHoldLeft := some 64, reclaim := none,
    high := false, riseTaken := false, highTwo := false, faultDelivered := false }

theorem State.claimNow_line_of_free (h : s.line.claimed = false) :
    s.claimNow.line = .newClaim := by
  unfold State.claimNow
  rw [if_neg (by simp [h])]
  rfl

/-- After a step that leaves the station outside SOLO with its minimum hold not over and the link
not free, nothing follows. -/
theorem State.conclude_of_resting (mode : s.seq.mode ≠ .solo) (keeps : s.canRelease = false)
    (link : s.notices.link ≠ .free) : s.conclude = s := by
  rw [s.conclude_of_not_solo mode]
  unfold State.releaseIfReady
  rw [if_neg (by simp [keeps]), s.sendIfFree_of_link link]

theorem State.canRelease_of_not_minHold (h : s.line.minHold = false) : s.canRelease = false := by
  simp [State.canRelease, h]

end Claims

/-! ### Entry to ROLLCALL -/

section Rollcall

variable (s : State) (atOnce : Bool)

/-- The station in ROLLCALL before the answers of its requester and its mains input. -/
def State.rollcallBegun : State :=
  let t := { s.rotate with seq := { s.rotate.seq with signature := 0xFFFF, tally := 0xFFFF } }
  let t := t.clearHeard true
  let t :=
    { t with
      seq :=
        { t.seq with
          mode := .rollcall, phase := 0, returnMode := .none, recovered := false,
          cause := .none, heldRise := none, mainsReturned := false } }
  let t := if atOnce then t.stopRetry.claimNow else t.stopRetry.claimLater
  t.queueRoll.startPhase .rollTimeout

theorem State.enterRollcall_eq :
    s.enterRollcall atOnce = (s.rollcallBegun atOnce).refuseRollcall.reportStandingSag := rfl

theorem State.refuseRollcall_cur : s.refuseRollcall.cur = s.cur := by
  unfold State.refuseRollcall
  rw [State.queueNotice_of_ne_fault (by decide)]
  split <;> rfl

theorem State.reportStandingSag_cur : s.reportStandingSag.cur = s.cur := by
  unfold State.reportStandingSag State.queueSag
  rw [State.queueNotice_of_ne_fault (by decide)]
  split <;> rfl

@[simp] theorem State.refuseRollcall_link : s.refuseRollcall.notices.link = s.notices.link := by
  unfold State.refuseRollcall
  split <;> simp

@[simp] theorem State.reportStandingSag_link :
    s.reportStandingSag.notices.link = s.notices.link := by
  unfold State.reportStandingSag State.queueSag
  split <;> simp

theorem State.enterRollcall_cur :
    (s.enterRollcall atOnce).cur =
      { RunRecord.cleared with
        runNumber := s.cur.runNumber + 1, alertPending := s.cur.alertPending } := by
  rw [State.enterRollcall_eq, State.reportStandingSag_cur, State.refuseRollcall_cur]
  unfold State.rollcallBegun; dsimp only
  rw [State.startPhase_cur, State.queueRoll_eq]
  split <;> simp [State.rotate]

theorem State.enterRollcall_last : (s.enterRollcall atOnce).last = s.cur := by
  rw [State.enterRollcall_eq]
  unfold State.rollcallBegun; dsimp only
  split <;> simp [State.rotate]

theorem State.enterRollcall_timers :
    (s.enterRollcall atOnce).timers =
      { s.timers with
        phase := .running (s.settings.rollTimeout * 10000), phaseSetting := .rollTimeout
        retry := .stopped } := by
  rw [State.enterRollcall_eq]
  unfold State.rollcallBegun; dsimp only
  split <;> simp [State.startPhase, State.stopRetry] <;> rfl

theorem State.enterRollcall_line_of_free (free : s.line.claimed = false) :
    (s.enterRollcall true).line = .newClaim := by
  rw [State.enterRollcall_eq]
  unfold State.rollcallBegun; dsimp only
  rw [if_pos rfl, State.reportStandingSag_line, State.refuseRollcall_line, State.startPhase_line,
    State.queueRoll_line]
  exact State.claimNow_line_of_free (by simpa using free)

@[simp] theorem State.enterRollcall_link :
    (s.enterRollcall atOnce).notices.link = s.notices.link := by
  rw [State.enterRollcall_eq]
  unfold State.rollcallBegun; dsimp only
  split <;> simp

@[simp] theorem State.enterRollcall_mode : (s.enterRollcall atOnce).seq.mode = .rollcall := by
  rw [State.enterRollcall_seq]

/-- What an entry to ROLLCALL leaves alone. -/
theorem State.enterRollcall_frame :
    let t := s.enterRollcall atOnce
    t.rails = s.rails ∧ t.ctl = s.ctl ∧ t.front = s.front ∧ t.holdUp = s.holdUp ∧
      t.dim = s.dim ∧ t.mute = s.mute ∧ t.settings = s.settings ∧ t.table = s.table ∧
      t.port = s.port ∧ t.loader = s.loader := by
  dsimp only
  rw [State.enterRollcall_eq]
  unfold State.rollcallBegun; dsimp only
  split <;> simp

theorem State.reportStandingSag_pendingOf_other {k : Kind} (h : k ≠ .sag) :
    s.reportStandingSag.pendingOf k = s.pendingOf k := by
  unfold State.reportStandingSag State.queueSag
  split
  · exact State.queueNotice_pendingOf_other _ _ _ h
  · rfl

theorem State.refuseRollcall_pendingOf_other {k : Kind} (h : k ≠ .fall) :
    s.refuseRollcall.pendingOf k = s.pendingOf k := by
  unfold State.refuseRollcall
  split
  · exact State.queueNotice_pendingOf_other _ _ _ h
  · rfl

theorem State.rollcallBegun_seq : (s.rollcallBegun atOnce).seq = (s.enterRollcall atOnce).seq := by
  rw [State.enterRollcall_eq]
  simp

@[simp] theorem State.rollcallBegun_settings :
    (s.rollcallBegun atOnce).settings = s.settings := by
  unfold State.rollcallBegun; dsimp only
  split <;> simp

@[simp] theorem State.rollcallBegun_front : (s.rollcallBegun atOnce).front = s.front := by
  unfold State.rollcallBegun; dsimp only
  split <;> simp

@[simp] theorem State.rollcallBegun_phaseByte : (s.rollcallBegun atOnce).phaseByte = 0 := by
  rw [State.phaseByte, State.rollcallBegun_seq, State.enterRollcall_seq]
  rfl

theorem State.enterRollcall_roll :
    (s.enterRollcall atOnce).pendingOf .roll =
      some ⟨rollArg1 s.settings.roles s.loader.profile, rollArg2 s.settings, 0⟩ := by
  rw [State.enterRollcall_eq, State.reportStandingSag_pendingOf_other _ (by decide),
    State.refuseRollcall_pendingOf_other _ (by decide)]
  unfold State.rollcallBegun; dsimp only
  have queued : ∀ u : State, (u.queueRoll.startPhase .rollTimeout).pendingOf .roll =
      some ⟨rollArg1 u.settings.roles u.loader.profile, rollArg2 u.settings, 0⟩ :=
    fun u => u.queueNotice_pendingOf .roll _ _ (by decide)
  rw [queued]
  split <;> simp

/-- A requester that no longer wants the set refuses the roll call (R98). -/
theorem State.enterRollcall_fall (requester : s.settings.roles.requester = true)
    (off : s.front.pwrReq.level = false) :
    (s.enterRollcall atOnce).pendingOf .fall = some ⟨0, 0, 0⟩ := by
  rw [State.enterRollcall_eq, State.reportStandingSag_pendingOf_other _ (by decide)]
  unfold State.refuseRollcall
  rw [if_pos (by simp [requester, off]), State.rollcallBegun_phaseByte]
  exact State.queueNotice_pendingOf _ _ _ _ (by decide)

/-- A MAINS station reports the sag that stands (R132). -/
theorem State.enterRollcall_sag (mains : s.settings.roles.mains = true)
    (sag : s.front.msns.accepted = some .sag) :
    (s.enterRollcall atOnce).pendingOf .sag = some ⟨0, 2, 0⟩ := by
  have mode : (s.rollcallBegun atOnce).refuseRollcall.seq.mode = .rollcall := by
    rw [State.refuseRollcall_seq, State.rollcallBegun_seq, State.enterRollcall_mode]
  have byte : (s.rollcallBegun atOnce).refuseRollcall.phaseByte = 0 := by
    rw [State.phaseByte, State.refuseRollcall_seq]
    exact State.rollcallBegun_phaseByte _ _
  rw [State.enterRollcall_eq]
  unfold State.reportStandingSag
  rw [if_pos (by simp [mains, sag]), State.queueSag, mode, byte]
  exact State.queueNotice_pendingOf _ _ _ _ (by decide)

end Rollcall

end Sys2Proof.Machine

namespace Sys2Proof
open Machine

/-- Settles O48. -/
theorem riseNoticeActsByMode : Obligations.RiseNoticeActsByMode := by
  unfold Obligations.RiseNoticeActsByMode
  have noRise : ∀ (s : State) (hold : Bool), s.noRiseFirst .rise hold :=
    fun s hold => State.noRiseFirst_of_kind (by simp)
  constructor
  · intro s n own hold takes kind free acts u
    have mode : u.seq.mode = s.seq.mode := State.atNotice_mode _ _ _ _
    let w : State :=
      { u with seq := { u.seq with attempts := if s.seq.mode = .lockout then 0 else s.seq.attempts } }
    have enters : u.onRise n own = w.enterRollcall true := by
      unfold State.onRise
      rw [mode]
      rcases acts with off | ⟨lockout, zero⟩
      · have attempts : u.seq.attempts = s.seq.attempts := State.atNotice_attempts _ _ _ _
        have same : w = u := by
          have unlocked : ¬s.seq.mode = .lockout := by simp [off]
          simp only [w, if_neg unlocked, ← attempts]
        rw [off, same]
      · rw [lockout]
        refine (if_pos zero).trans ?_
        simp [w, lockout]
    have line : (w.enterRollcall true).line = .newClaim := by
      refine State.enterRollcall_line_of_free w ?_
      show u.line.claimed = false
      rw [State.atNotice_line, State.seeHold_claimed, free]
    have rests : (w.enterRollcall true).conclude = w.enterRollcall true := by
      refine State.conclude_of_resting (by simp) (State.canRelease_of_not_minHold ?_) ?_
      · rw [line]; rfl
      · rw [State.enterRollcall_link]
        show u.notices.link ≠ .free
        simp [u]
    obtain ⟨rails, ctl, front, holdUp, dim, mute, settings, table, port, loader⟩ :=
      w.enterRollcall_frame true
    refine ⟨w.enterRollcall true, (State.take_eq takes kind (noRise s hold) enters).trans
        (congrArg Host.Outcome.next rests), w.enterRollcall_last true, ?_, ?_, line, ?_, ?_,
      fun requester level => ?_, fun mains sag => ?_, rails.trans ?_, ctl.trans ?_,
      front.trans ?_, holdUp.trans ?_, dim.trans ?_, mute.trans ?_, settings.trans ?_,
      table.trans ?_, port.trans ?_, loader.trans ?_⟩
    · rw [State.enterRollcall_cur]
      simp [w, u]
    · rw [State.enterRollcall_seq]
      simp [w, u]
    · rw [State.enterRollcall_timers]
      simp [w, u]
    · rw [State.enterRollcall_roll]
      simp [w, u]
    · exact w.enterRollcall_fall true (by simpa [w, u] using requester) (by simpa [w, u] using level)
    · exact w.enterRollcall_sag true (by simpa [w, u] using mains) (by simpa [w, u] using sag)
    all_goals simp [w, u]
  · intro s n own hold takes kind u
    have mode : u.seq.mode = s.seq.mode := State.atNotice_mode _ _ _ _
    refine ⟨fun waits => State.take_eq takes kind (noRise s hold) ?_,
      fun rest => State.take_eq takes kind (noRise s hold) ?_⟩
    · unfold State.onRise
      rw [mode]
      rcases waits with m | m <;> rw [m]
    · unfold State.onRise
      rw [mode]
      rcases rest with m | m | m | m | ⟨m, again⟩
      · rw [m]
      · rw [m]
      · rw [m]
      · rw [m]
      · rw [m]
        exact if_neg again

end Sys2Proof

/-! The loops over the rails: what one turn of a loop may change, and the rail that a loop leaves
at each place. -/

namespace Sys2Proof.Machine

/-! ### One turn of a loop -/

/-- Two states of one station between which only rails, the blank wait, FAULT, COMMIT and the
count of later faults change. -/
structure Alike (s t : State) : Prop where
  frame : RailFrame s t
  held : t.ctl.held = s.ctl.held
  ride : t.ctl.ride = s.ctl.ride
  solo : t.ctl.solo = s.ctl.solo

/-- One turn of a loop, at rail `i`: every other rail is as it was. -/
structure RailTurn (i : Fin 8) (s t : State) : Prop where
  alike : Alike s t
  others : ∀ j, j ≠ i → t.rail j = s.rail j

section Turns

variable {s t u : State} {i : Fin 8} {r : Rail}

theorem Alike.refl (s : State) : Alike s s := ⟨.refl s, rfl, rfl, rfl⟩

theorem Alike.trans (a : Alike s t) (b : Alike t u) : Alike s u :=
  ⟨a.frame.trans b.frame, b.held.trans a.held, b.ride.trans a.ride, b.solo.trans a.solo⟩

/-- A change that leaves the conditions of the rail controller alone. -/
theorem Alike.of_frame (frame : RailFrame s t) (ctl : t.ctl = s.ctl) : Alike s t :=
  ⟨frame, by rw [ctl], by rw [ctl], by rw [ctl]⟩

theorem RailTurn.refl (i : Fin 8) (s : State) : RailTurn i s s := ⟨.refl s, fun _ _ => rfl⟩

theorem RailTurn.trans (a : RailTurn i s t) (b : RailTurn i t u) : RailTurn i s u :=
  ⟨a.alike.trans b.alike, fun j apart => (b.others j apart).trans (a.others j apart)⟩

theorem RailTurn.ite {p : Prop} [Decidable p] (a : p → RailTurn i s t)
    (b : ¬p → RailTurn i s u) : RailTurn i s (if p then t else u) := by
  split
  case isTrue h => exact a h
  case isFalse h => exact b h

theorem RailTurn.of_rails (alike : Alike s t) (rails : t.rails = s.rails) : RailTurn i s t :=
  ⟨alike, fun j _ => State.rail_congr rails j⟩

theorem RailTurn.setRail (s : State) (i : Fin 8) (r : Rail) : RailTurn i s (s.setRail i r) :=
  ⟨.of_frame (.setRail i r s) rfl, fun _ apart => s.rail_setRail_other r apart⟩

theorem RailTurn.modifyRail (s : State) (i : Fin 8) (f : Rail → Rail) :
    RailTurn i s (s.modifyRail i f) := .setRail s i _

theorem RailTurn.blankTimer (s : State) (i : Fin 8) (timer : OneShot) :
    RailTurn i s { s with ctl := { s.ctl with blankTimer := timer } } :=
  .of_rails ⟨.ctl s _, rfl, rfl, rfl⟩ rfl

theorem RailTurn.tidyBlankWait (s : State) : RailTurn i s s.tidyBlankWait :=
  .ite (fun _ => .refl i s) fun _ => .blankTimer s i _

theorem RailTurn.joinBlankWait (s : State) : RailTurn i s s.joinBlankWait := by
  unfold State.joinBlankWait
  split
  · exact .blankTimer s i _
  · exact .refl i s
  · exact .refl i s

theorem RailTurn.enterFalling (s : State) (forced : Bool) :
    RailTurn i s (s.enterFalling i forced) := by
  rw [State.enterFalling_eq]
  exact .setRail s i _

theorem RailTurn.reportRailFault (s : State) (reason : RailReason) :
    RailTurn i s (s.reportRailFault i reason) :=
  .of_rails (.of_frame (.reportRailFault i reason s) (by simp)) (by simp)

theorem RailTurn.railFault (s : State) (reason : RailReason) :
    RailTurn i s (s.railFault i reason) := by
  rw [State.railFault_eq]
  exact ((RailTurn.setRail s i _).trans (.tidyBlankWait _)).trans (.reportRailFault _ reason)

theorem RailTurn.bringUp (s : State) : RailTurn i s (s.bringUp i) := by
  by_cases high : (s.entry i).sense = true ∧ s.zone i = some .high
  · rw [State.bringUp_of_high high.1 high.2]
    exact (RailTurn.setRail s i _).trans (.railFault _ _)
  · rw [State.bringUp_of_not_high high]
    exact .setRail s i _

theorem RailTurn.applyArmed (i : Fin 8) (s : State) : RailTurn i s (s.applyArmed i) := by
  unfold State.applyArmed
  split
  · exact .bringUp s
  · exact .enterFalling s _
  all_goals exact .refl i s

theorem RailTurn.switchOn (i : Fin 8) (s : State) : RailTurn i s (s.switchOn i) := by
  unfold State.switchOn
  refine .ite (fun _ => .ite (fun _ => ?_) fun _ => ?_) fun _ => .refl i s
  · exact ((RailTurn.modifyRail s i _).trans (.modifyRail _ i _)).trans (.joinBlankWait _)
  · exact (RailTurn.modifyRail s i _).trans (.bringUp _)

theorem RailTurn.switchOffServing (i : Fin 8) (s : State) :
    RailTurn i s (s.switchOffServing i) := by
  unfold State.switchOffServing
  refine .ite (fun _ => ?_) fun _ => .ite (fun _ => .modifyRail s i _) fun _ => .enterFalling s _
  exact (RailTurn.modifyRail s i _).trans (.joinBlankWait _)

theorem RailTurn.switchOff (i : Fin 8) (s : State) : RailTurn i s (s.switchOff i) := by
  unfold State.switchOff
  refine .ite (fun _ => ?_) fun _ => .refl i s
  split
  · exact (RailTurn.modifyRail s i _).trans (.tidyBlankWait _)
  · exact .switchOffServing i s
  · exact .switchOffServing i s
  · exact .switchOffServing i s
  · exact .modifyRail s i _
  all_goals exact .refl i s

theorem RailTurn.shed (i : Fin 8) (s : State) : RailTurn i s (s.shed i) :=
  .ite (fun _ => .modifyRail s i _) fun _ => .refl i s

theorem RailTurn.restore (i : Fin 8) (s : State) : RailTurn i s (s.restore i) :=
  .ite (fun _ => (RailTurn.modifyRail s i _).trans (.bringUp _)) fun _ => .refl i s

theorem RailTurn.forceRailOff (i : Fin 8) (s : State) : RailTurn i s (s.forceRailOff i) := by
  unfold State.forceRailOff State.hurryFall
  refine .ite (fun _ => ?_) fun _ => .refl i s
  split
  · exact .modifyRail s i _
  · exact .modifyRail s i _
  · exact .enterFalling s _
  · exact .enterFalling s _
  · exact .enterFalling s _
  · exact .enterFalling s _
  · exact .enterFalling s _
  · exact .modifyRail s i _
  all_goals exact .refl i s

theorem RailTurn.urgentRail (i : Fin 8) (s : State) : RailTurn i s (s.urgentRail i) := by
  unfold State.urgentRail
  split
  · exact .enterFalling s _
  · exact .enterFalling s _
  · exact .ite (fun _ => .refl i s) fun _ => .modifyRail s i _
  all_goals exact .refl i s

theorem RailTurn.soloRail (i : Fin 8) (s : State) : RailTurn i s (s.soloRail i) := by
  unfold State.soloRail
  split
  · exact .enterFalling s _
  · exact .modifyRail s i _
  all_goals exact .refl i s

theorem RailTurn.rideEndRail (i : Fin 8) (s : State) : RailTurn i s (s.rideEndRail i) :=
  .ite (fun _ => .railFault s _) fun _ => .refl i s

theorem RailTurn.dimWaitEnds (i : Fin 8) (s : State) : RailTurn i s (s.dimWaitEnds i) :=
  .ite (fun _ => .enterFalling s _) fun _ => .refl i s

end Turns

/-! ### The loop -/

section Loop

variable {f : Fin 8 → State → State} {s u : State}

theorem Alike.forEachRail (turns : ∀ i u, RailTurn i u (f i u)) (s : State) :
    Alike s (s.forEachRail f) :=
  State.forEachRail_keeps (P := Alike s) (fun i u h => h.trans (turns i u).alike) s (.refl s)

theorem railIndices_nodup : railIndices.Nodup := by decide

/-- Rail `i` is as the turn at `i` leaves it, in a state with the rail that stood there before the
loop. -/
theorem State.forEachRail_rail (turns : ∀ i u, RailTurn i u (f i u)) (s : State) (i : Fin 8) :
    ∃ u, Alike s u ∧ u.rail i = s.rail i ∧ (s.forEachRail f).rail i = (f i u).rail i := by
  have passes : ∀ (l : List (Fin 8)) (v : State), i ∉ l →
      (l.foldl (fun t j => f j t) v).rail i = v.rail i := by
    intro l
    induction l with
    | nil => exact fun _ _ => rfl
    | cons j l ih =>
      intro v absent
      have apart : i ≠ j := fun h => absent (h ▸ List.mem_cons_self)
      exact (ih _ fun h => absent (List.mem_cons_of_mem _ h)).trans ((turns j v).others i apart)
  have reaches : ∀ (l : List (Fin 8)) (v : State), l.Nodup → i ∈ l →
      ∃ u, Alike v u ∧ u.rail i = v.rail i ∧
        (l.foldl (fun t j => f j t) v).rail i = (f i u).rail i := by
    intro l
    induction l with
    | nil => exact fun _ _ h => absurd h List.not_mem_nil
    | cons j l ih =>
      intro v distinct mem
      obtain ⟨first, distinct⟩ := List.nodup_cons.mp distinct
      by_cases here : i = j
      · subst here
        exact ⟨v, .refl v, rfl, passes l _ first⟩
      · obtain ⟨u, alike, same, result⟩ :=
          ih (f j v) distinct ((List.mem_cons.mp mem).resolve_left here)
        exact ⟨u, (turns j v).alike.trans alike, same.trans ((turns j v).others i here), result⟩
  exact reaches railIndices s railIndices_nodup (mem_railIndices i)

end Loop

/-! ### What a turn reads is as before the loop -/

section Congruence

variable {s u : State} {i : Fin 8}

theorem Alike.entry (h : Alike s u) (i : Fin 8) : u.entry i = s.entry i :=
  State.entry_congr h.frame.table i

theorem Alike.zone (h : Alike s u) (i : Fin 8) : u.zone i = s.zone i :=
  State.zone_congr h.frame.front i

theorem Alike.urgent (h : Alike s u) : u.urgent = s.urgent :=
  State.urgent_congr h.frame.holdUp

theorem Alike.zeroReport (h : Alike s u) : u.zeroReport = s.zeroReport := by
  simp [State.zeroReport, h.frame.dim]

theorem Alike.fallenRail (h : Alike s u) (rail : u.rail i = s.rail i) (urgent : Bool) :
    u.fallenRail i urgent = s.fallenRail i urgent := by
  simp only [State.fallenRail, h.entry, h.zone, rail]

theorem Alike.raisedRail (h : Alike s u) (r : Rail) : u.raisedRail i r = s.raisedRail i r := by
  simp only [State.raisedRail, h.entry, h.zone, h.held]

theorem Alike.hurriedRail (h : Alike s u) (rail : u.rail i = s.rail i) :
    u.hurriedRail i = s.hurriedRail i := by
  simp only [State.hurriedRail, h.entry, rail]

theorem Alike.urgedRail (h : Alike s u) (rail : u.rail i = s.rail i) :
    u.urgedRail i = s.urgedRail i := by
  simp only [State.urgedRail, h.fallenRail rail, h.hurriedRail rail, rail]

theorem Alike.forcedRail (h : Alike s u) (rail : u.rail i = s.rail i) :
    u.forcedRail i = s.forcedRail i := by
  simp only [State.forcedRail, h.fallenRail rail, h.hurriedRail rail, rail]

theorem Alike.dips (h : Alike s u) (rail : u.rail i = s.rail i) : u.dips i ↔ s.dips i := by
  simp only [State.dips, h.zone, rail]

end Congruence

end Sys2Proof.Machine

/-! The rail that each command and each loop of the rail controller leaves at its place. -/

namespace Sys2Proof.Machine

section Commands

variable {s : State} {i : Fin 8}

theorem State.rail_enterFalling (s : State) (i : Fin 8) (forced : Bool) :
    (s.enterFalling i forced).rail i = s.fallenRail i (forced || s.urgent) := by
  rw [State.enterFalling_eq, State.rail_setRail_self]

/-! ### Urgency, force off, SOLO, dimming and ride -/

theorem State.rail_urgentRail (s : State) (i : Fin 8) :
    (s.urgentRail i).rail i = s.urgedRail i := by
  unfold State.urgentRail State.urgedRail
  cases st : (s.rail i).state with
  | armedOff => exact s.rail_enterFalling i true
  | dimWait => exact s.rail_enterFalling i true
  | falling =>
    dsimp only
    split
    · rfl
    · exact s.rail_modifyRail_self i _
  | _ => rfl

theorem State.rail_urgentRails (s : State) (i : Fin 8) :
    s.urgentRails.rail i = s.urgedRail i := by
  obtain ⟨u, alike, same, result⟩ := s.forEachRail_rail RailTurn.urgentRail i
  rw [State.urgentRails, State.rail_tidyBlankWait, result, State.rail_urgentRail,
    alike.urgedRail same]

theorem State.rail_forceRailOff (present : (s.entry i).present = true) :
    (s.forceRailOff i).rail i = s.forcedRail i := by
  unfold State.forceRailOff State.forcedRail
  rw [if_pos present]
  cases st : (s.rail i).state with
  | armedOn => exact s.rail_modifyRail_self i _
  | shed => exact s.rail_modifyRail_self i _
  | falling => exact s.rail_modifyRail_self i _
  | ramping => exact s.rail_enterFalling i true
  | settling => exact s.rail_enterFalling i true
  | good => exact s.rail_enterFalling i true
  | armedOff => exact s.rail_enterFalling i true
  | dimWait => exact s.rail_enterFalling i true
  | off => rfl
  | discharging => rfl

theorem State.rail_forceOff (present : (s.entry i).present = true) :
    s.forceOff.rail i = s.forcedRail i := by
  obtain ⟨u, alike, same, result⟩ := s.forEachRail_rail RailTurn.forceRailOff i
  rw [State.forceOff, State.rail_tidyBlankWait, result,
    State.rail_forceRailOff (by rw [alike.entry, present]), alike.forcedRail same]

/-- Rail `i` after the onset of solo (R19). -/
def State.soloedRail (s : State) (i : Fin 8) : Rail :=
  match (s.rail i).state with
  | .armedOff => s.fallenRail i s.urgent
  | .armedOn => (s.rail i).rests
  | .off | .ramping | .settling | .good | .shed | .dimWait | .falling | .discharging => s.rail i

theorem Alike.soloedRail {u : State} (h : Alike s u) (rail : u.rail i = s.rail i) :
    u.soloedRail i = s.soloedRail i := by
  simp only [State.soloedRail, h.fallenRail rail, h.urgent, rail]

theorem State.rail_soloRail (s : State) (i : Fin 8) :
    (s.soloRail i).rail i = s.soloedRail i := by
  unfold State.soloRail State.soloedRail
  cases st : (s.rail i).state with
  | armedOff => exact s.rail_enterFalling i false
  | armedOn => exact s.rail_modifyRail_self i _
  | _ => rfl

theorem State.rail_setSolo (s : State) (i : Fin 8) : s.setSolo.rail i = s.soloedRail i := by
  obtain ⟨u, alike, same, result⟩ :=
    ({ s with ctl := { s.ctl with solo := true } }).forEachRail_rail RailTurn.soloRail i
  rw [State.setSolo, State.rail_tidyBlankWait, result, State.rail_soloRail,
    alike.soloedRail same]
  rfl

theorem State.rail_dimWaitEnds (s : State) (i : Fin 8) :
    (s.dimWaitEnds i).rail i =
      if (s.rail i).state = .dimWait then s.fallenRail i s.urgent else s.rail i := by
  unfold State.dimWaitEnds
  split
  · exact s.rail_enterFalling i false
  · rfl

theorem State.rail_forEach_dimWaitEnds (s : State) (i : Fin 8) :
    (s.forEachRail State.dimWaitEnds).rail i =
      if (s.rail i).state = .dimWait then s.fallenRail i s.urgent else s.rail i := by
  obtain ⟨u, alike, same, result⟩ := s.forEachRail_rail RailTurn.dimWaitEnds i
  rw [result, State.rail_dimWaitEnds, alike.fallenRail same, alike.urgent, same]

/-- Rail `i` with the fault that the end of ride gives it (R15). -/
def State.dippedRail (s : State) (i : Fin 8) : Rail :=
  { s.fallenRail i true with faultReason := some .dip }

theorem State.rail_rideEndRail_of_dips (h : s.dips i) :
    (s.rideEndRail i).rail i = s.dippedRail i := by
  have faults : s.rideEndRail i = s.railFault i .dip := if_pos h
  rw [faults, State.rail_railFault, if_pos rfl]
  rfl

theorem State.rail_rideEndRail_of_not_dips (h : ¬s.dips i) :
    (s.rideEndRail i).rail i = s.rail i := by
  have stays : s.rideEndRail i = s := if_neg h
  rw [stays]

theorem State.rail_clearRide_of_dips (ride : s.ctl.ride = true) (h : s.dips i) :
    s.clearRide.rail i = s.dippedRail i := by
  obtain ⟨u, alike, same, result⟩ :=
    ({ s with ctl := { s.ctl with ride := false } }).forEachRail_rail RailTurn.rideEndRail i
  rw [State.clearRide, if_pos ride, result,
    State.rail_rideEndRail_of_dips ((alike.dips same).mpr h), State.dippedRail,
    alike.fallenRail same]
  rfl

theorem State.rail_clearRide_of_not_dips (h : ¬(s.ctl.ride = true ∧ s.dips i)) :
    s.clearRide.rail i = s.rail i := by
  by_cases ride : s.ctl.ride = true
  · obtain ⟨u, alike, same, result⟩ :=
      ({ s with ctl := { s.ctl with ride := false } }).forEachRail_rail RailTurn.rideEndRail i
    rw [State.clearRide, if_pos ride, result,
      State.rail_rideEndRail_of_not_dips fun dips => h ⟨ride, (alike.dips same).mp dips⟩, same]
    rfl
  · rw [State.clearRide, if_neg ride]

/-! ### Hold, resume, shed and restore -/

theorem State.rail_hold (s : State) (i : Fin 8) : s.hold.rail i = (s.rail i).pauseTimed := by
  obtain ⟨u, -, same, result⟩ :=
    ({ s with ctl := { s.ctl with held := true } }).forEachRail_rail
      (f := fun i t => t.modifyRail i Rail.pauseTimed) (fun i u => .modifyRail u i _) i
  rw [State.hold, result, State.rail_modifyRail_self, same]
  rfl

theorem State.rail_resume (s : State) (i : Fin 8) :
    s.resume.rail i = (s.rail i).resumeTimed := by
  obtain ⟨u, -, same, result⟩ :=
    ({ s with ctl := { s.ctl with held := false } }).forEachRail_rail
      (f := fun i t => t.modifyRail i Rail.resumeTimed) (fun i u => .modifyRail u i _) i
  rw [State.resume, result, State.rail_modifyRail_self, same]
  rfl

theorem Rail.pauseTimed_of_timed {r : Rail} (h : r.state = .ramping ∨ r.state = .settling) :
    r.pauseTimed = { r with timer := r.timer.pause } := if_pos (by simpa using h)

theorem Rail.pauseTimed_of_not {r : Rail} (ramps : r.state ≠ .ramping)
    (settles : r.state ≠ .settling) : r.pauseTimed = r := if_neg (by simp [ramps, settles])

theorem Rail.resumeTimed_of_timed {r : Rail} (h : r.state = .ramping ∨ r.state = .settling) :
    r.resumeTimed = { r with timer := r.timer.resume } := if_pos (by simpa using h)

theorem Rail.resumeTimed_of_not {r : Rail} (ramps : r.state ≠ .ramping)
    (settles : r.state ≠ .settling) : r.resumeTimed = r := if_neg (by simp [ramps, settles])

/-- A rail that a shed takes (R9). -/
def State.sheds (s : State) (i : Fin 8) : Prop :=
  (s.entry i).present = true ∧ (s.entry i).sheddable = true ∧ (s.rail i).state.serving = true

theorem State.rail_shed_of_sheds (h : s.sheds i) :
    (s.shed i).rail i =
      { (s.rail i).applyEnable (s.entry i) false with
        state := .shed, timer := .stopped, restoring := false, requested := false } := by
  obtain ⟨present, sheddable, serving⟩ := h
  unfold State.shed
  rw [if_pos (by simp [present, sheddable, serving]), State.rail_modifyRail_self]

theorem State.rail_shed_of_not (h : ¬s.sheds i) : (s.shed i).rail i = s.rail i := by
  unfold State.shed
  rw [if_neg]
  simpa [State.sheds, and_assoc] using h

theorem Alike.sheds {u : State} (h : Alike s u) (rail : u.rail i = s.rail i) :
    u.sheds i ↔ s.sheds i := by
  simp only [State.sheds, h.entry, rail]

theorem State.rail_forEach_shed_of_sheds (h : s.sheds i) :
    (s.forEachRail State.shed).rail i =
      { (s.rail i).applyEnable (s.entry i) false with
        state := .shed, timer := .stopped, restoring := false, requested := false } := by
  obtain ⟨u, alike, same, result⟩ := s.forEachRail_rail RailTurn.shed i
  rw [result, State.rail_shed_of_sheds ((alike.sheds same).mpr h), alike.entry, same]

theorem State.rail_forEach_shed_of_not (h : ¬s.sheds i) :
    (s.forEachRail State.shed).rail i = s.rail i := by
  obtain ⟨u, alike, same, result⟩ := s.forEachRail_rail RailTurn.shed i
  rw [result, State.rail_shed_of_not fun sheds => h ((alike.sheds same).mp sheds), same]

/-- A rail brought up where it is sensed HIGH falls with OVER (R29). -/
theorem State.rail_bringUp_of_high (sense : (s.entry i).sense = true)
    (zone : s.zone i = some .high) :
    ((s.bringUp i).rail i).state = .falling ∧ ((s.bringUp i).rail i).faultReason = some .over := by
  rw [State.bringUp_of_high sense zone, State.rail_railFault, if_pos rfl,
    State.fallenRail_of_not_off (by simp [zone])]
  exact ⟨rfl, rfl⟩

theorem State.rail_bringUp_of_not_high
    (h : ¬((s.entry i).sense = true ∧ s.zone i = some .high)) :
    (s.bringUp i).rail i = s.raisedRail i (s.rail i) := by
  rw [State.bringUp_of_not_high h, State.rail_setRail_self]

/-! ### Blank wait -/

theorem State.applyArmed_of_not_armed (on : (s.rail i).state ≠ .armedOn)
    (off : (s.rail i).state ≠ .armedOff) : s.applyArmed i = s := by
  unfold State.applyArmed
  cases st : (s.rail i).state with
  | armedOn => exact absurd st on
  | armedOff => exact absurd st off
  | _ => rfl

theorem State.applyArmed_of_armedOff (st : (s.rail i).state = .armedOff) :
    s.applyArmed i = s.enterFalling i false := by
  unfold State.applyArmed
  rw [st]

theorem State.applyArmed_of_armedOn (st : (s.rail i).state = .armedOn) :
    s.applyArmed i = s.bringUp i := by
  unfold State.applyArmed
  rw [st]

/-! ### Switch on and switch off -/

/-- What a switch off leaves of a rail that serves, waits to serve or stands shed (R8). -/
def State.switchedOffRail (s : State) (i : Fin 8) : Rail :=
  let r := s.rail i
  let waits := { r with timer := .stopped, restoring := false, requested := false }
  match r.state with
  | .armedOn | .shed => r.rests
  | .ramping | .settling | .good =>
    if (s.entry i).blankAligned = true ∧ s.urgent = false ∧ s.ctl.solo = false then
      { waits with state := .armedOff }
    else if (s.entry i).dimGated = true ∧ s.urgent = false ∧ s.zeroReport = false then
      { waits with state := .dimWait }
    else s.fallenRail i s.urgent
  | .off | .armedOff | .dimWait | .falling | .discharging => r

theorem Alike.switchedOffRail {u : State} (h : Alike s u) (rail : u.rail i = s.rail i) :
    u.switchedOffRail i = s.switchedOffRail i := by
  simp only [State.switchedOffRail, h.entry, h.urgent, h.solo, h.zeroReport, h.fallenRail rail,
    rail]

theorem State.switchedOffRail_of_serving
    (serves : (s.rail i).state = .ramping ∨ (s.rail i).state = .settling ∨
      (s.rail i).state = .good) :
    s.switchedOffRail i =
      if (s.entry i).blankAligned = true ∧ s.urgent = false ∧ s.ctl.solo = false then
        { s.rail i with
          timer := .stopped, restoring := false, requested := false, state := .armedOff }
      else if (s.entry i).dimGated = true ∧ s.urgent = false ∧ s.zeroReport = false then
        { s.rail i with
          timer := .stopped, restoring := false, requested := false, state := .dimWait }
      else s.fallenRail i s.urgent := by
  rcases serves with st | st | st <;> simp only [State.switchedOffRail, st]

theorem State.rail_switchOff_of_serving (present : (s.entry i).present = true)
    (serves : (s.rail i).state = .ramping ∨ (s.rail i).state = .settling ∨
      (s.rail i).state = .good) :
    (s.switchOff i).rail i = s.switchedOffRail i := by
  rw [State.switchOff_of_serving present serves, State.switchedOffRail_of_serving serves]
  split
  · rw [State.rail_joinBlankWait, State.rail_setRail_self]
  · split
    · rw [State.rail_setRail_self]
    · rw [State.rail_setRail_self]

theorem State.rail_switchOff (present : (s.entry i).present = true) :
    (s.switchOff i).rail i = s.switchedOffRail i := by
  cases st : (s.rail i).state with
  | ramping => exact State.rail_switchOff_of_serving present (by simp [st])
  | settling => exact State.rail_switchOff_of_serving present (by simp [st])
  | good => exact State.rail_switchOff_of_serving present (by simp [st])
  | armedOn =>
    rw [State.switchOff_of_armedOn present st, State.rail_tidyBlankWait, State.rail_setRail_self]
    simp only [State.switchedOffRail, st]
  | shed =>
    rw [State.switchOff_of_shed present st, State.rail_setRail_self]
    simp only [State.switchedOffRail, st]
  | _ =>
    rw [State.switchOff_of_resting (by simp [st])]
    simp only [State.switchedOffRail, st]

/-- A rail named by a switch off of phase `d`. -/
def State.inDownPhase (s : State) (d : Nat) (i : Fin 8) : Prop :=
  (s.entry i).present = true ∧ (s.entry i).downPhase = d

theorem RailTurn.switchOffIf (d : Nat) (i : Fin 8) (s : State) :
    RailTurn i s (if (s.entry i).downPhase = d then s.switchOff i else s) :=
  .ite (fun _ => .switchOff i s) fun _ => .refl i s

theorem State.rail_switchOffPhase {d : Nat} (h : s.inDownPhase d i) :
    (s.switchOffPhase d).rail i = s.switchedOffRail i := by
  obtain ⟨u, alike, same, result⟩ := s.forEachRail_rail (RailTurn.switchOffIf d) i
  rw [State.switchOffPhase, result, if_pos (by rw [alike.entry, h.2]),
    State.rail_switchOff (by rw [alike.entry, h.1]), alike.switchedOffRail same]

theorem State.rail_switchOffPhase_other {d : Nat} (h : ¬s.inDownPhase d i) :
    (s.switchOffPhase d).rail i = s.rail i := by
  obtain ⟨u, alike, same, result⟩ := s.forEachRail_rail (RailTurn.switchOffIf d) i
  rw [State.switchOffPhase, result, alike.entry]
  split
  case isTrue down =>
    have absent : (s.entry i).present = false := by
      rw [← Bool.not_eq_true]
      exact fun present => h ⟨present, down⟩
    rw [State.switchOff_of_absent (by rw [alike.entry, absent]), same]
  case isFalse => exact same

/-- The rail that a switch on has taken: it is requested on, waiting or rising, or falls at once
with OVER (R7, R29). -/
def Rail.switchedOn (r : Rail) : Prop :=
  ((r.state = .armedOn ∨ r.state = .ramping ∨ r.state = .settling) ∧ r.requested = true) ∨
    r.state = .falling ∧ r.faultReason = some .over

theorem Rail.switchedOn.rises_or_faults {r : Rail} (h : r.switchedOn) :
    (r.state = .armedOn ∨ r.state = .ramping ∨ r.state = .settling) ∧ r.requested = true ∨
      r.faultReason = some .over := h.imp_right And.right

theorem Rail.switchedOn.not_good {r : Rail} (h : r.switchedOn) : r.state ≠ .good := by
  rcases h with ⟨st | st | st, -⟩ | ⟨st, -⟩ <;> simp [st]

@[simp] theorem Rail.applyEnable_requested (e : RailEntry) (level : Bool) (r : Rail) :
    (r.applyEnable e level).requested = r.requested := by
  unfold Rail.applyEnable; split <;> rfl

theorem State.raisedRail_rises (s : State) (i : Fin 8) (r : Rail) :
    ((s.raisedRail i r).state = .ramping ∨ (s.raisedRail i r).state = .settling) ∧
      (s.raisedRail i r).requested = r.requested := by
  unfold State.raisedRail; dsimp only
  repeat' split
  all_goals simp

theorem State.rail_switchOn (present : (s.entry i).present = true)
    (off : (s.rail i).state = .off) : ((s.switchOn i).rail i).switchedOn := by
  rw [State.switchOn_of_taken present off]
  split
  · rw [State.rail_joinBlankWait, State.rail_setRail_self]
    exact .inl ⟨.inl rfl, rfl⟩
  · by_cases high : (s.entry i).sense = true ∧ s.zone i = some .high
    · refine .inr (State.rail_bringUp_of_high ?_ ?_)
      · exact high.1
      · exact high.2
    · rw [State.bringUp_setRail_of_not_high _ high, State.rail_setRail_self]
      obtain ⟨rises, requested⟩ := s.raisedRail_rises i (s.rail i).cleared
      exact .inl ⟨.inr rises, requested⟩

/-- Rail `i` takes the switch on of up phase `k` (R103). -/
def State.startsInPhase (s : State) (k : Nat) (i : Fin 8) : Prop :=
  (s.entry i).present = true ∧ (s.entry i).upPhase = k ∧ (s.rail i).state = .off

theorem RailTurn.switchOnIf (k : Nat) (i : Fin 8) (s : State) :
    RailTurn i s (if (s.entry i).upPhase = k then s.switchOn i else s) :=
  .ite (fun _ => .switchOn i s) fun _ => .refl i s

theorem State.rail_switchOnPhase {k : Nat} (h : s.startsInPhase k i) :
    ((s.switchOnPhase k).rail i).switchedOn := by
  obtain ⟨present, up, off⟩ := h
  obtain ⟨u, alike, same, result⟩ := s.forEachRail_rail (RailTurn.switchOnIf k) i
  rw [State.switchOnPhase, result, if_pos (by rw [alike.entry, up])]
  exact State.rail_switchOn (by rw [alike.entry, present]) (by rw [same, off])

theorem State.rail_switchOnPhase_other {k : Nat} (h : ¬s.startsInPhase k i) :
    (s.switchOnPhase k).rail i = s.rail i := by
  obtain ⟨u, alike, same, result⟩ := s.forEachRail_rail (RailTurn.switchOnIf k) i
  rw [State.switchOnPhase, result, alike.entry]
  split
  case isTrue up =>
    have stays : (s.entry i).present = false ∨ (s.rail i).state ≠ .off := by
      by_cases present : (s.entry i).present = true
      · exact .inr fun off => h ⟨present, up, off⟩
      · exact .inl (by simpa using present)
    rw [State.switchOn_of_not (by rw [alike.entry, same]; exact stays), same]
  case isFalse => exact same

end Commands

end Sys2Proof.Machine

/-! The blank wait (R19, R21) and rises into the next phase (R54). -/

namespace Sys2Proof.Machine

section BlankWait

variable {s t u : State} {i : Fin 8}

theorem State.seeHold_eq (s : State) (hold : Bool) :
    s.seeHold hold = { s with line := (s.seeHold hold).line } := by
  unfold State.seeHold
  split <;> rfl

/-! ### The blank wait ends -/

/-- The station `u` after the end of the blank wait of `s`. -/
def State.blankWaitOver (s u : State) : Prop :=
  u.ctl = { s.ctl with blankTimer := .stopped } ∧
    u.seq = s.seq ∧ u.timers = s.timers ∧ u.dim = s.dim ∧
    ∀ i,
      ((s.rail i).state ≠ .armedOn ∧ (s.rail i).state ≠ .armedOff →
        u.rail i = s.rail i) ∧
      ((s.rail i).state = .armedOff → u.rail i = s.fallenRail i s.urgent) ∧
      ((s.rail i).state = .armedOn →
        (¬((s.entry i).sense = true ∧ s.zone i = some .high) →
          u.rail i = s.raisedRail i (s.rail i)) ∧
        ((s.entry i).sense = true → s.zone i = some .high →
          (u.rail i).state = .falling ∧ (u.rail i).faultReason = some .over))

theorem State.tidyBlankWait_ctl_of_stopped (h : s.ctl.blankTimer = .stopped) :
    s.tidyBlankWait.ctl = s.ctl := by
  unfold State.tidyBlankWait
  split
  · rfl
  · rw [← h]

theorem State.railFault_ctl_of_stopped (h : s.ctl.blankTimer = .stopped) (reason : RailReason) :
    (s.railFault i reason).ctl = s.ctl := by
  rw [State.railFault_eq, State.reportRailFault_ctl, State.tidyBlankWait_ctl_of_stopped]
  · rfl
  · exact h

theorem State.applyArmed_ctl_of_stopped (i : Fin 8) (h : s.ctl.blankTimer = .stopped) :
    (s.applyArmed i).ctl = s.ctl := by
  cases st : (s.rail i).state with
  | armedOff =>
    rw [State.applyArmed_of_armedOff st, State.enterFalling_eq]
    rfl
  | armedOn =>
    rw [State.applyArmed_of_armedOn st]
    by_cases high : (s.entry i).sense = true ∧ s.zone i = some .high
    · rw [State.bringUp_of_high high.1 high.2, State.railFault_ctl_of_stopped]
      · rfl
      · exact h
    · rw [State.bringUp_of_not_high high]
      rfl
  | _ => rw [State.applyArmed_of_not_armed (by simp [st]) (by simp [st])]

theorem State.endBlankWait_ctl (s : State) :
    s.endBlankWait.ctl = { s.ctl with blankTimer := .stopped } :=
  State.forEachRail_keeps (P := fun u => u.ctl = { s.ctl with blankTimer := .stopped })
    (fun i u h => (State.applyArmed_ctl_of_stopped i (by rw [h])).trans h) _ rfl

theorem State.endBlankWait_over (s : State) : s.blankWaitOver s.endBlankWait := by
  refine ⟨s.endBlankWait_ctl, by simp, by simp, by simp, fun i => ?_⟩
  obtain ⟨u, alike, same, result⟩ :=
    ({ s with ctl := { s.ctl with blankTimer := .stopped } }).forEachRail_rail
      RailTurn.applyArmed i
  rw [show s.endBlankWait.rail i = (u.applyArmed i).rail i from result]
  refine ⟨fun ⟨on, off⟩ => ?_, fun st => ?_, fun st => ⟨fun fine => ?_, fun sense zone => ?_⟩⟩
  · rw [State.applyArmed_of_not_armed (by rw [same]; exact on) (by rw [same]; exact off), same]
    rfl
  · rw [State.applyArmed_of_armedOff (by rw [same]; exact st), State.rail_enterFalling,
      alike.fallenRail same, alike.urgent]
    rfl
  · rw [State.applyArmed_of_armedOn (by rw [same]; exact st),
      State.rail_bringUp_of_not_high (by rw [alike.entry, alike.zone]; exact fine),
      alike.raisedRail, same]
    rfl
  · rw [State.applyArmed_of_armedOn (by rw [same]; exact st)]
    exact State.rail_bringUp_of_high (by rw [alike.entry]; exact sense)
      (by rw [alike.zone]; exact zone)

theorem State.blankWaitOver.of_line {l : PhaseLine}
    (h : ({ s with line := l }).blankWaitOver u) : s.blankWaitOver u := h

theorem State.blankWaitOver.countBlankMiss (h : s.blankWaitOver u) :
    s.blankWaitOver u.countBlankMiss := h

theorem State.countBlankMiss_blankMisses (s : State) :
    s.countBlankMiss.cur.blankMisses = satInc s.cur.blankMisses := rfl

theorem State.endBlankWait_seen (s : State) (hold : Bool) :
    s.blankWaitOver (s.seeHold hold).endBlankWait := by
  have ended := (s.seeHold hold).endBlankWait_over
  generalize (s.seeHold hold).endBlankWait = u at ended ⊢
  rw [State.seeHold_eq] at ended
  exact ended.of_line

theorem State.endBlankWait_blankMisses (s : State) :
    s.endBlankWait.cur.blankMisses = s.cur.blankMisses := by
  obtain ⟨n, cur⟩ := (RailFrame.endBlankWait s).cur
  rw [cur]

/-! ### The blank-wait timer -/

theorem State.anyArmed_iff :
    s.anyArmed = true ↔ ∃ i, (s.rail i).state = .armedOn ∨ (s.rail i).state = .armedOff := by
  simp [State.anyArmed, RailState.armed, mem_railIndices]

theorem State.anyArmed_eq_false_iff :
    s.anyArmed = false ↔ ∀ i, (s.rail i).state ≠ .armedOn ∧ (s.rail i).state ≠ .armedOff := by
  simp [State.anyArmed, RailState.armed, mem_railIndices]

/-- In `t` the blank-wait timer stands as it did in `s`, or is stopped where no rail is ARMED. -/
def State.leavesWait (s t : State) : Prop :=
  ((∃ i, (t.rail i).state = .armedOn ∨ (t.rail i).state = .armedOff) →
      t.ctl.blankTimer = s.ctl.blankTimer) ∧
    ((∀ i, (t.rail i).state ≠ .armedOn ∧ (t.rail i).state ≠ .armedOff) →
      t.ctl.blankTimer = .stopped)

theorem State.leavesWait.of_tidy (timer : u.ctl.blankTimer = s.ctl.blankTimer)
    (ctl : t.ctl = u.tidyBlankWait.ctl) (rails : t.rails = u.rails) : s.leavesWait t := by
  have rail : ∀ i, t.rail i = u.rail i := State.rail_congr rails
  unfold State.leavesWait
  simp only [rail, ctl]
  refine ⟨fun armed => ?_, fun none => ?_⟩
  · have armed' := State.anyArmed_iff.mpr armed
    rw [State.tidyBlankWait, if_pos armed', timer]
  · have none' := State.anyArmed_eq_false_iff.mpr none
    rw [State.tidyBlankWait, if_neg (by simp [none'])]

theorem State.forceRailOff_ctl (s : State) (i : Fin 8) : (s.forceRailOff i).ctl = s.ctl := by
  unfold State.forceRailOff State.hurryFall
  repeat' split
  all_goals rfl

theorem State.urgentRail_ctl (s : State) (i : Fin 8) : (s.urgentRail i).ctl = s.ctl := by
  unfold State.urgentRail State.hurryFall
  repeat' split
  all_goals rfl

theorem State.soloRail_ctl (s : State) (i : Fin 8) : (s.soloRail i).ctl = s.ctl := by
  unfold State.soloRail
  repeat' split
  all_goals rfl

/-- A loop whose turns leave the rail controller's conditions alone leaves them alone. -/
theorem State.forEachRail_ctl {f : Fin 8 → State → State} (turns : ∀ i u, (f i u).ctl = u.ctl)
    (s : State) : (s.forEachRail f).ctl = s.ctl :=
  State.forEachRail_keeps (P := fun u => u.ctl = s.ctl)
    (fun i u h => (turns i u).trans h) s rfl

/-! ### VBLANK -/

theorem State.sampleVblank_of_rise {level : Bool} {f : Filter Bool}
    (panel : s.settings.roles.panel = true)
    (sampled : s.front.vblank.sample s.settings.filterBypass level = (f, some true)) :
    s.sampleVblank level = ({ s with front := { s.front with vblank := f } }).vblankEdge := by
  unfold State.sampleVblank
  rw [if_pos panel]
  simp only [sampled]

theorem State.sampleVblank_of_no_rise {level : Bool} {f : Filter Bool} {a : Option Bool}
    (panel : s.settings.roles.panel = true)
    (sampled : s.front.vblank.sample s.settings.filterBypass level = (f, a))
    (other : a ≠ some true) :
    s.sampleVblank level = { s with front := { s.front with vblank := f } } := by
  unfold State.sampleVblank
  rw [if_pos panel]
  simp only [sampled]
  match a with
  | none => rfl
  | some false => rfl
  | some true => exact absurd rfl other

end BlankWait

end Sys2Proof.Machine

namespace Sys2Proof
open Machine

/-- Settles O21. -/
theorem blankWaitExpiryAppliesTheArmedChanges :
    Obligations.BlankWaitExpiryAppliesTheArmedChanges := by
  unfold Obligations.BlankWaitExpiryAppliesTheArmedChanges
  intro ends
  have over_ends : ∀ s u, s.blankWaitOver u → ends s u := fun _ _ h => h
  refine ⟨fun s hold => ⟨fun early => ?_, fun due => ?_⟩, fun level s panel f a sampled => ?_,
    fun s => ?_⟩
  · have early' : s.ctl.blankTimer.due ≠ true := fun h => early ((OneShot.due_iff _).mp h)
    exact if_neg early'
  · refine ⟨(s.seeHold hold).endBlankWait.countBlankMiss,
      if_pos ((OneShot.due_iff _).mpr due), ?_, ?_, ?_, ?_⟩
    · exact over_ends _ _ (s.endBlankWait_seen hold).countBlankMiss
    · rw [State.countBlankMiss_blankMisses, State.endBlankWait_blankMisses, State.seeHold_cur]
    · simp [State.countBlankMiss]
    · simp [State.countBlankMiss]
  · intro seen t
    refine ⟨fun idle => ?_, fun rises armed => ?_⟩
    · by_cases rises : a = some true
      · subst rises
        have none : seen.anyArmed = false :=
          State.anyArmed_eq_false_iff.mpr (idle.resolve_left fun other => other rfl)
        exact (State.sampleVblank_of_rise panel sampled).trans (if_neg (Bool.eq_false_iff.mp none))
      · exact State.sampleVblank_of_no_rise panel sampled rises
    · subst rises
      have armed' : seen.anyArmed = true := State.anyArmed_iff.mpr armed
      have ended : t = seen.endBlankWait :=
        (State.sampleVblank_of_rise panel sampled).trans (if_pos armed')
      rw [ended]
      exact ⟨over_ends _ _ seen.endBlankWait_over, by simp, by simp [seen],
        seen.endBlankWait_blankMisses⟩
  · intro leaves
    refine ⟨fun stopped => ?_, fun running => ?_, fun i present st => ?_, fun i reason => ?_,
      ?_, ?_, ?_⟩
    · unfold State.joinBlankWait
      rw [stopped]
      rfl
    · unfold State.joinBlankWait
      cases timer : s.ctl.blankTimer with
      | stopped => exact absurd timer running
      | running n => rfl
      | paused n => rfl
    · rw [State.switchOff_of_armedOn present st]
      exact State.leavesWait.of_tidy (u := s.setRail i (s.rail i).rests) rfl rfl (by simp)
    · rw [State.railFault_eq]
      exact State.leavesWait.of_tidy
        (u := s.setRail i { s.fallenRail i true with faultReason := some reason }) rfl
        (by simp) (by simp)
    · exact State.leavesWait.of_tidy
        (congrArg RailControl.blankTimer (s.forEachRail_ctl fun i u => u.forceRailOff_ctl i)) rfl
        (by simp [State.forceOff])
    · exact State.leavesWait.of_tidy
        (congrArg RailControl.blankTimer (s.forEachRail_ctl fun i u => u.urgentRail_ctl i)) rfl
        (by simp [State.urgentRails])
    · have kept := ({ s with ctl := { s.ctl with solo := true } }).forEachRail_ctl
        fun i u => u.soloRail_ctl i
      exact State.leavesWait.of_tidy ((congrArg RailControl.blankTimer kept).trans rfl) rfl
        (by simp [State.setSolo])

end Sys2Proof

/-! Rises taken (R53, R54): the next phase up, ON, and the phases of a descent. -/

namespace Sys2Proof.Machine

section Rise

variable {s t : State} {i : Fin 8}

/-- The station that has taken the rise of the high interval that stands. -/
def State.riseSeen (s : State) : State :=
  { s with line := { s.line with high := true, riseTaken := true } }

/-- The line before a rise is taken: released, with the rise of this interval not taken. -/
def State.riseAhead (s : State) : Prop :=
  s.line.claimed = false ∧ (s.line.riseTaken && s.line.high) = false

theorem Mode.claims_loaded {m : Mode} (h : m.claims = true) : m.loaded = true := by
  revert h
  cases m <;> simp [Mode.claims, Mode.loaded]

theorem State.riseSeen_of_seeHold (live : s.loaded = true) :
    { s.seeHold true with line := { (s.seeHold true).line with riseTaken := true } } =
      s.riseSeen := by
  simp [State.seeHold, live, State.riseSeen]

/-- The rise comes to a station in a claiming mode that has released HOLD and has not taken it. -/
theorem State.exec_rise (mode : s.seq.mode.claims = true) (ahead : s.riseAhead) :
    exec .rise s = .next (s.seeHold true).takeRise.conclude := by
  obtain ⟨free, untaken⟩ := ahead
  have live : s.loaded = true := Mode.claims_loaded mode
  have fresh : (s.seeHold true).riseEvent = (s.seeHold true).takeRise := by
    refine if_neg ?_
    rw [State.seeHold_line_of_loaded live]
    simp [untaken]
  have acts : exec .rise s = .next (s.seeHold true).riseEvent.conclude :=
    if_pos (by simp [live, free])
  rw [acts, fresh]

theorem State.takeRise_of_rollcall (mode : s.seq.mode = .rollcall) :
    (s.seeHold true).takeRise = s.riseSeen.ascendFrom 0 := by
  rw [← State.riseSeen_of_seeHold (by simp [State.loaded, mode, Mode.loaded])]
  simp [State.takeRise, mode]

theorem State.takeRise_of_rising (mode : s.seq.mode = .rising) :
    (s.seeHold true).takeRise = s.riseSeen.ascendFrom s.seq.phase := by
  rw [← State.riseSeen_of_seeHold (by simp [State.loaded, mode, Mode.loaded])]
  simp [State.takeRise, mode]

theorem State.takeRise_of_riding (mode : s.seq.mode = .riding) :
    (s.seeHold true).takeRise = s.riseSeen.riseFromRiding := by
  rw [← State.riseSeen_of_seeHold (by simp [State.loaded, mode, Mode.loaded])]
  simp [State.takeRise, mode]

theorem State.takeRise_of_descending (mode : s.seq.mode = .descending) :
    (s.seeHold true).takeRise =
      if 1 < s.seq.phase then s.riseSeen.stepDown (s.seq.phase - 1)
      else (s.riseSeen.feed 0x80).endDescent := by
  rw [← State.riseSeen_of_seeHold (by simp [State.loaded, mode, Mode.loaded])]
  simp [State.takeRise, mode]

/-- A station outside SOLO that has released HOLD has nothing but the first slot to come. -/
theorem State.conclude_of_free (mode : s.seq.mode ≠ .solo) (free : s.line.claimed = false) :
    s.conclude = s.sendIfFree := by
  rw [s.conclude_of_not_solo mode, s.releaseIfReady_of_not_claimed free]

/-! ### Phases up -/

/-- What an entry to RISING leaves alone, and what it does to the line and the timers. -/
theorem State.enterRising_facts (s : State) (k : Nat) :
    (s.enterRising k).line = { s.line with reclaim := some 4 } ∧
      (s.enterRising k).timers =
        { s.timers with
          phase := .running (s.settings.phaseLimit * 10000), phaseSetting := .phaseLimit } ∧
      (s.enterRising k).settings = s.settings ∧ (s.enterRising k).table = s.table ∧
      (s.enterRising k).front = s.front ∧ (s.enterRising k).holdUp = s.holdUp ∧
      (s.enterRising k).last = s.last ∧ (s.enterRising k).mute = s.mute ∧
      (s.enterRising k).dim = s.dim ∧ (s.enterRising k).port = s.port ∧
      (s.enterRising k).loader = s.loader := by
  unfold State.enterRising; dsimp only
  simp only [State.switchOnPhase_line, State.switchOnPhase_timers, State.switchOnPhase_settings,
    State.switchOnPhase_table, State.switchOnPhase_front, State.switchOnPhase_holdUp,
    State.switchOnPhase_last, State.switchOnPhase_mute, State.switchOnPhase_dim,
    State.switchOnPhase_port, State.switchOnPhase_loader]
  exact ⟨rfl, rfl, rfl, rfl, rfl, rfl, rfl, rfl, rfl, rfl, rfl⟩

/-- The station at the switch on of an entry to RISING. -/
def State.risingBegun (s : State) (k : Nat) : State :=
  ((({ s with
      seq :=
        { s.seq with
          mode := .rising, phase := k, returnMode := .none, recovered := false } }).startPhase
    .phaseLimit).claimLater.feed (BitVec.ofNat 8 k))

theorem State.enterRising_eq (s : State) (k : Nat) :
    s.enterRising k = (s.risingBegun k).switchOnPhase k := rfl

theorem State.rail_enterRising {k : Nat} (h : s.startsInPhase k i) :
    ((s.enterRising k).rail i).switchedOn :=
  State.rail_switchOnPhase (s := s.risingBegun k) h

theorem State.rail_enterRising_other {k : Nat} (h : ¬s.startsInPhase k i) :
    (s.enterRising k).rail i = s.rail i :=
  State.rail_switchOnPhase_other (s := s.risingBegun k) h

theorem State.ascendFrom_of_lt {k : Nat} (h : k < s.settings.phaseCount) :
    s.ascendFrom k = s.enterRising (k + 1) := if_pos h

theorem State.ascendFrom_of_ge {k : Nat} (h : s.settings.phaseCount ≤ k) :
    s.ascendFrom k = s.enterOn := if_neg (by omega)

end Rise

end Sys2Proof.Machine

namespace Sys2Proof
open Machine

/-- Settles O24. -/
theorem riseBringsTheNextPhase : Obligations.RiseBringsTheNextPhase := by
  unfold Obligations.RiseBringsTheNextPhase
  intro s k free untaken from_ below
  have ahead : s.riseAhead := ⟨free, untaken⟩
  have rises : (s.seeHold true).takeRise = s.riseSeen.enterRising (k + 1) := by
    rcases from_ with ⟨mode, rfl⟩ | ⟨mode, rfl⟩
    · rw [State.takeRise_of_rollcall mode]
      exact State.ascendFrom_of_lt below
    · rw [State.takeRise_of_rising mode]
      exact State.ascendFrom_of_lt below
  have claims : s.seq.mode.claims = true := by
    rcases from_ with ⟨mode, -⟩ | ⟨mode, -⟩ <;> simp [mode, Mode.claims]
  obtain ⟨line, timers, settings, table, front, holdUp, last, mute, dim, port, loader⟩ :=
    s.riseSeen.enterRising_facts (k + 1)
  have follows : (s.riseSeen.enterRising (k + 1)).conclude =
      (s.riseSeen.enterRising (k + 1)).sendIfFree := by
    refine State.conclude_of_free ?_ ?_
    · simp [State.enterRising_seq]
    · rw [line]
      exact free
  have rail : ∀ i, (s.riseSeen.enterRising (k + 1)).sendIfFree.rail i =
      (s.riseSeen.enterRising (k + 1)).rail i := State.rail_congr (by simp)
  refine ⟨(s.riseSeen.enterRising (k + 1)).sendIfFree, ?_, ?_, ?_, ?_, fun i other => ?_,
    fun i present up off => ?_, ?_⟩
  · rw [State.exec_rise claims ahead, rises, follows]
  · rw [State.sendIfFree_seq, State.enterRising_seq]
    rfl
  · rw [State.sendIfFree_line, line]
    rfl
  · rw [State.sendIfFree_timers, timers]
    rfl
  · rw [rail]
    refine State.rail_enterRising_other ?_
    rintro ⟨present, up, off⟩
    rcases other with h | h | h
    · exact absurd (present.symm.trans h) (by simp)
    · exact h up
    · exact h off
  · rw [rail]
    have switched : ((s.riseSeen.enterRising (k + 1)).rail i).switchedOn :=
      State.rail_enterRising ⟨present, up, off⟩
    exact switched.rises_or_faults
  · simp only [State.sendIfFree_settings, State.sendIfFree_table, State.sendIfFree_front,
      State.sendIfFree_holdUp, State.sendIfFree_last, State.sendIfFree_mute, State.sendIfFree_dim,
      State.sendIfFree_port, State.sendIfFree_loader]
    exact ⟨settings, table, front, holdUp, last, mute, dim, port, loader⟩

end Sys2Proof

/-! Rises taken (R53, R54): the phases of a descent, ON, and the end of a ride-through. -/

namespace Sys2Proof.Machine

section Descent

variable {s t : State} {i : Fin 8}

/-! ### A switch off reports nothing -/

@[simp] theorem State.enterFalling_notices (s : State) (i : Fin 8) (forced : Bool) :
    (s.enterFalling i forced).notices = s.notices := by
  rw [State.enterFalling_eq]
  rfl

@[simp] theorem State.enterFalling_cur (s : State) (i : Fin 8) (forced : Bool) :
    (s.enterFalling i forced).cur = s.cur := by
  rw [State.enterFalling_eq]
  rfl

@[simp] theorem State.switchOffServing_notices (s : State) (i : Fin 8) :
    (s.switchOffServing i).notices = s.notices := by
  unfold State.switchOffServing; dsimp only
  repeat' split
  all_goals simp

@[simp] theorem State.switchOffServing_cur (s : State) (i : Fin 8) :
    (s.switchOffServing i).cur = s.cur := by
  unfold State.switchOffServing; dsimp only
  repeat' split
  all_goals simp

@[simp] theorem State.switchOff_notices (s : State) (i : Fin 8) :
    (s.switchOff i).notices = s.notices := by
  unfold State.switchOff
  repeat' split
  all_goals simp

@[simp] theorem State.switchOff_cur (s : State) (i : Fin 8) : (s.switchOff i).cur = s.cur := by
  unfold State.switchOff
  repeat' split
  all_goals simp

@[simp] theorem State.switchOffPhase_notices (s : State) (d : Nat) :
    (s.switchOffPhase d).notices = s.notices := by
  refine State.forEachRail_keeps (P := fun u => u.notices = s.notices) (fun i u h => ?_) s rfl
  split
  · rw [State.switchOff_notices, h]
  · exact h

@[simp] theorem State.switchOffPhase_cur (s : State) (d : Nat) :
    (s.switchOffPhase d).cur = s.cur := by
  refine State.forEachRail_keeps (P := fun u => u.cur = s.cur) (fun i u h => ?_) s rfl
  split
  · rw [State.switchOff_cur, h]
  · exact h

/-! ### The rail after a switch off -/

/-- A rail that a switch off has reached: OFF, waiting for its release, or released. -/
def RailState.leaving (r : RailState) : Prop :=
  r = .off ∨ r = .armedOff ∨ r = .dimWait ∨ r = .falling ∨ r = .discharging

theorem State.fallenRail_state (s : State) (i : Fin 8) (urgent : Bool) :
    (s.fallenRail i urgent).state = .falling ∨ (s.fallenRail i urgent).state = .off := by
  by_cases off : (s.entry i).sense = true ∧ s.zone i = some .off
  · rw [State.fallenRail_of_off off]
    exact .inr rfl
  · rw [State.fallenRail_of_not_off off]
    exact .inl rfl

theorem State.fallenRail_leaving (s : State) (i : Fin 8) (urgent : Bool) :
    (s.fallenRail i urgent).state.leaving := by
  rcases s.fallenRail_state i urgent with st | st <;> simp [RailState.leaving, st]

theorem State.switchedOffRail_leaving (s : State) (i : Fin 8) :
    (s.switchedOffRail i).state.leaving := by
  have falls := s.fallenRail_leaving i s.urgent
  unfold State.switchedOffRail; dsimp only
  cases st : (s.rail i).state with
  | armedOn => exact .inl rfl
  | shed => exact .inl rfl
  | ramping | settling | good =>
    dsimp only
    split
    · exact .inr (.inl rfl)
    · split
      · exact .inr (.inr (.inl rfl))
      · exact falls
  | off | armedOff | dimWait | falling | discharging => simp [RailState.leaving, st]

/-! ### Down phases -/

/-- The station at the switch off of a step to the down phase below. -/
def State.stepDownBegun (s : State) (d : Nat) : State :=
  ((({ s with seq := { s.seq with phase := d } }).startPhase .phaseLimit).claimLater.feed
    (BitVec.ofNat 8 (0x80 + d)))

theorem State.stepDown_eq (s : State) (d : Nat) :
    s.stepDown d = (s.stepDownBegun d).switchOffPhase d := rfl

/-- A step down changes the sequence, the line's claim to come, the phase timer and the rails. -/
theorem State.stepDown_facts (s : State) (d : Nat) :
    let t := s.stepDown d
    t.line = { s.line with reclaim := some 4 } ∧
      t.timers =
        { s.timers with
          phase := .running (s.settings.phaseLimit * 10000), phaseSetting := .phaseLimit } ∧
      t.settings = s.settings ∧ t.table = s.table ∧ t.front = s.front ∧ t.holdUp = s.holdUp ∧
      t.notices = s.notices ∧ t.cur = s.cur ∧ t.last = s.last ∧ t.mute = s.mute ∧
      t.dim = s.dim ∧ t.port = s.port ∧ t.loader = s.loader := by
  dsimp only
  rw [State.stepDown_eq]
  simp only [State.switchOffPhase_line, State.switchOffPhase_timers,
    State.switchOffPhase_settings, State.switchOffPhase_table, State.switchOffPhase_front,
    State.switchOffPhase_holdUp, State.switchOffPhase_notices, State.switchOffPhase_cur,
    State.switchOffPhase_last, State.switchOffPhase_mute, State.switchOffPhase_dim,
    State.switchOffPhase_port, State.switchOffPhase_loader]
  exact ⟨rfl, rfl, rfl, rfl, rfl, rfl, rfl, rfl, rfl, rfl, rfl, rfl, rfl⟩

theorem State.rail_stepDown {d : Nat} (h : s.inDownPhase d i) :
    ((s.stepDown d).rail i).state.leaving := by
  have switched : (s.stepDown d).rail i = (s.stepDownBegun d).switchedOffRail i :=
    State.rail_switchOffPhase (s := s.stepDownBegun d) h
  rw [switched]
  exact State.switchedOffRail_leaving _ i

theorem State.rail_stepDown_other {d : Nat} (h : ¬s.inDownPhase d i) :
    (s.stepDown d).rail i = s.rail i :=
  State.rail_switchOffPhase_other (s := s.stepDownBegun d) h

/-! ### Entries to ON -/

/-- MUTE's timer, started in ON where `starts` says so (R110, R114, R116). -/
def State.muteTimer (s : State) (starts : Bool) : OneShot :=
  if starts = true ∧ s.settings.roles.panel = true then
    (if s.settings.unmuteDelay = 0 then .stopped else .running (s.settings.unmuteDelay * 1000))
  else s.timers.mute

/-- MUTE after an entry to ON: deasserted at once with an unmute delay of 0 (R114). -/
def State.muteInOn (s : State) : Bool :=
  s.mute && !(s.settings.roles.panel && s.settings.unmuteDelay == 0)

/-- The line released in ON. -/
def PhaseLine.released (l : PhaseLine) : PhaseLine :=
  { l with claimed := false, minHoldLeft := none, reclaim := none }

theorem State.arriveOn_eq (s : State) :
    s.arriveOn =
      { s with
        seq :=
          { s.seq with
            mode := .on, phase := s.settings.phaseCount, returnMode := .none, recovered := false
            signature := crc16Byte s.seq.signature (BitVec.ofNat 8 s.settings.phaseCount) }
        line := s.line.released
        timers :=
          { s.timers with
            phase := .stopped, quiet := .running (s.settings.quietTime * 100000) } } := rfl

theorem State.startMute_eq (s : State) :
    s.startMute =
      { s with
        timers :=
          { s.timers with
            mute :=
              if s.settings.unmuteDelay = 0 then .stopped
              else .running (s.settings.unmuteDelay * 1000) }
        mute := s.mute && !(s.settings.unmuteDelay == 0) } := by
  unfold State.startMute
  by_cases zero : s.settings.unmuteDelay = 0
  · simp [zero]
  · simp [zero, OneShot.start, Config.oneMs]

theorem State.startMuteIfPanel_eq (s : State) :
    s.startMuteIfPanel =
      { s with timers := { s.timers with mute := s.muteTimer true }, mute := s.muteInOn } := by
  unfold State.startMuteIfPanel
  rw [State.startMute_eq]
  by_cases panel : s.settings.roles.panel = true
  · simp [State.muteTimer, State.muteInOn, panel]
  · simp [State.muteTimer, State.muteInOn, panel]

theorem State.dimRamp_eq (s : State) :
    s.dimRamp =
      { s with
        dim :=
          if s.settings.roles.backlight then { s.dim with setting := .ramp, rampIndex := 0 }
          else s.dim } := by
  unfold State.dimRamp State.hasDimming
  split <;> rfl

theorem State.returnToOn_eq (s : State) :
    s.returnToOn =
      { s.arriveOn with
        timers := { s.arriveOn.timers with mute := s.muteTimer s.mute }
        mute := s.muteInOn } := by
  unfold State.returnToOn; dsimp only
  rw [State.startMute_eq, State.arriveOn_eq]
  simp only [State.muteTimer, State.muteInOn]
  cases panel : s.settings.roles.panel <;> cases mute : s.mute <;> simp

theorem State.enterOn_eq (s : State) :
    let g := s.arriveOn.seq.signature
    s.enterOn =
      { s.arriveOn with
        timers := { s.arriveOn.timers with mute := s.muteTimer true }
        mute := s.muteInOn
        notices :=
          { s.notices with
            outbound :=
              { s.notices.outbound with
                tally := some ⟨g.extractLsb' 8 8, g.extractLsb' 0 8, 0⟩ } }
        seq := { s.arriveOn.seq with tally := g }
        cur := { s.cur with outcome := .reachedOn }
        dim :=
          if s.settings.roles.backlight then { s.dim with setting := .ramp, rampIndex := 0 }
          else s.dim } := by
  intro g
  have tallies : s.arriveOn.queueTally =
      { s.arriveOn with
        seq := { s.arriveOn.seq with tally := g }
        notices :=
          { s.notices with
            outbound :=
              { s.notices.outbound with
                tally := some ⟨g.extractLsb' 8 8, g.extractLsb' 0 8, 0⟩ } } } := by
    unfold State.queueTally; dsimp only
    rw [State.queueNotice_of_ne_fault (by decide)]
    rfl
  unfold State.enterOn
  rw [tallies, State.startMuteIfPanel_eq, State.dimRamp_eq]
  rfl

end Descent

end Sys2Proof.Machine

namespace Sys2Proof
open Machine

/-- Settles O27. -/
theorem riseBringsTheNextDownPhase : Obligations.RiseBringsTheNextDownPhase := by
  unfold Obligations.RiseBringsTheNextDownPhase
  intro s free untaken mode above d
  obtain ⟨line, timers, settings, table, front, holdUp, notices, cur, last, mute, dim, port,
    loader⟩ := s.riseSeen.stepDown_facts d
  have rises : (s.seeHold true).takeRise = s.riseSeen.stepDown d :=
    (State.takeRise_of_descending mode).trans (if_pos above)
  have follows : (s.riseSeen.stepDown d).conclude = (s.riseSeen.stepDown d).sendIfFree := by
    refine State.conclude_of_free ?_ ?_
    · rw [State.stepDown_seq]
      simp [State.riseSeen, mode]
    · rw [line]
      exact free
  refine ⟨s.riseSeen.stepDown d, ?_, State.stepDown_seq d s.riseSeen, line, timers,
    fun i other => ?_, fun i present down => ?_, settings, table, front, holdUp, notices, cur,
    last, mute, dim, port, loader⟩
  · rw [State.exec_rise (by simp [mode, Mode.claims]) ⟨free, untaken⟩, rises, follows]
  · have elsewhere : ¬s.riseSeen.inDownPhase d i := fun h => other h.2
    exact State.rail_stepDown_other elsewhere
  · have here : s.riseSeen.inDownPhase d i := ⟨present, down⟩
    exact State.rail_stepDown here

/-- Settles O25. -/
theorem riseAtTheLastPhaseEntersOn : Obligations.RiseAtTheLastPhaseEntersOn := by
  unfold Obligations.RiseAtTheLastPhaseEntersOn
  intro s free untaken mode last n delay g
  have rises : (s.seeHold true).takeRise = s.riseSeen.enterOn :=
    (State.takeRise_of_rising mode).trans (State.ascendFrom_of_ge last)
  have follows : s.riseSeen.enterOn.conclude = s.riseSeen.enterOn.sendIfFree := by
    refine State.conclude_of_free ?_ ?_
    · rw [State.enterOn_seq]
      simp
    · rw [State.enterOn_eq]
      rfl
  rw [State.exec_rise (by simp [mode, Mode.claims]) ⟨free, untaken⟩, rises, follows]
  refine congrArg Host.Outcome.next (congrArg State.sendIfFree ?_)
  rw [State.enterOn_eq, State.arriveOn_eq]
  simp only [State.riseSeen, PhaseLine.released, State.muteTimer, State.muteInOn, true_and]
  rfl

end Sys2Proof

/-! The end of a ride-through at a rise (R139, R15, R132). -/

namespace Sys2Proof.Machine

section RideEnds

variable {s t w : State} {i : Fin 8}

/-- The mode that a rise in RIDING brings, before ride is cleared (R139). -/
def State.rideReturn (s : State) : State :=
  match s.seq.returnMode with
  | .rollcall => s.ascendFrom 0
  | .rising => s.ascendFrom s.seq.phase
  | .on => s.returnToOn
  | .none => s.returnToOn

theorem State.riseFromRiding_eq (s : State) :
    s.riseFromRiding = s.rideReturn.clearRide.reportStandingSag := rfl

/-- The phase that a rise in RIDING goes on from. -/
def State.ridePhase (s : State) : Nat := if s.seq.returnMode = .rollcall then 0 else s.seq.phase

/-- The station rides on the way up. -/
def State.rodeUp (s : State) : Prop :=
  s.seq.returnMode = .rollcall ∨ s.seq.returnMode = .rising

theorem State.rideReturn_of_below (up : s.rodeUp) (below : s.ridePhase < s.settings.phaseCount) :
    s.rideReturn = s.enterRising (s.ridePhase + 1) := by
  rcases up with m | m <;> simp only [State.ridePhase, m, if_true, reduceCtorEq, if_false] at below ⊢
  · rw [State.rideReturn, m]
    exact State.ascendFrom_of_lt below
  · rw [State.rideReturn, m]
    exact State.ascendFrom_of_lt below

theorem State.rideReturn_of_top (up : s.rodeUp) (top : s.settings.phaseCount ≤ s.ridePhase) :
    s.rideReturn = s.enterOn := by
  rcases up with m | m <;> simp only [State.ridePhase, m, if_true, reduceCtorEq, if_false] at top
  · rw [State.rideReturn, m]
    exact State.ascendFrom_of_ge top
  · rw [State.rideReturn, m]
    exact State.ascendFrom_of_ge top

theorem State.rideReturn_of_not_up (up : ¬s.rodeUp) : s.rideReturn = s.returnToOn := by
  unfold State.rideReturn
  cases m : s.seq.returnMode with
  | rollcall => exact absurd (.inl m) up
  | rising => exact absurd (.inr m) up
  | on => rfl
  | none => rfl

theorem State.switchOnPhase_ride (s : State) (k : Nat) :
    (s.switchOnPhase k).ctl.ride = s.ctl.ride := by
  have alike : Alike s (s.switchOnPhase k) := .forEachRail (RailTurn.switchOnIf k) s
  exact alike.ride

theorem State.enterRising_ride (s : State) (k : Nat) :
    (s.enterRising k).ctl.ride = s.ctl.ride := by
  rw [State.enterRising_eq, State.switchOnPhase_ride]
  rfl

theorem State.enterRising_outcome (s : State) (k : Nat) :
    (s.enterRising k).cur.outcome = s.cur.outcome := by
  obtain ⟨n, cur⟩ := (RailFrame.switchOnPhase k (s.risingBegun k)).cur
  rw [State.enterRising_eq, cur]
  rfl

/-! ### Ride is cleared -/

theorem State.clearRide_ride (s : State) : s.clearRide.ctl.ride = false := by
  by_cases ride : s.ctl.ride = true
  · rw [State.clearRide, if_pos ride]
    exact (Alike.forEachRail RailTurn.rideEndRail _).ride
  · rw [State.clearRide, if_neg ride]
    simpa using ride

theorem State.clearRide_outcome (s : State) : s.clearRide.cur.outcome = s.cur.outcome := by
  obtain ⟨n, cur⟩ := (RailFrame.clearRide s).cur
  rw [cur]

theorem State.reportStandingSag_sag (mains : s.settings.roles.mains = true)
    (sag : s.front.msns.accepted = some .sag) :
    s.reportStandingSag.pendingOf .sag =
      some ⟨BitVec.ofNat 8 s.seq.phase, BitVec.ofNat 8 s.seq.mode.code, 0⟩ := by
  unfold State.reportStandingSag
  rw [if_pos (by simp [mains, sag])]
  exact s.queueNotice_pendingOf .sag _ _ (by decide)

/-- The station once ride is cleared and a standing sag is reported. -/
def State.rideOver (w : State) : State := w.clearRide.reportStandingSag

theorem State.rideOver_facts (w : State) :
    w.rideOver.ctl.ride = false ∧ w.rideOver.seq = w.seq ∧ w.rideOver.line = w.line ∧
      w.rideOver.timers = w.timers ∧ w.rideOver.mute = w.mute ∧
      w.rideOver.cur.outcome = w.cur.outcome ∧ w.rideOver.dim = w.dim ∧
      w.rideOver.pendingOf .tally = w.pendingOf .tally ∧ w.rideOver.settings = w.settings ∧
      w.rideOver.table = w.table ∧ w.rideOver.front = w.front ∧ w.rideOver.holdUp = w.holdUp ∧
      w.rideOver.last = w.last ∧ w.rideOver.port = w.port ∧ w.rideOver.loader = w.loader := by
  unfold State.rideOver
  refine ⟨?_, by simp, by simp, by simp, by simp, ?_, by simp, ?_, by simp, by simp, by simp,
    by simp, by simp, by simp, by simp⟩
  · rw [State.reportStandingSag_ctl, State.clearRide_ride]
  · rw [State.reportStandingSag_cur, State.clearRide_outcome]
  · rw [State.reportStandingSag_pendingOf_other _ (by decide)]
    exact (RailFrame.clearRide w).others .tally (by decide) (by decide)

theorem State.rail_rideOver (w : State) (i : Fin 8) : w.rideOver.rail i = w.clearRide.rail i :=
  State.rail_congr (by simp [State.rideOver]) i

theorem State.rideOver_sag (mains : w.settings.roles.mains = true)
    (sag : w.front.msns.accepted = some .sag) :
    w.rideOver.pendingOf .sag =
      some
        ⟨BitVec.ofNat 8 w.rideOver.seq.phase, BitVec.ofNat 8 w.rideOver.seq.mode.code, 0⟩ := by
  have reported := State.reportStandingSag_sag (s := w.clearRide) (by simpa using mains)
    (by simpa using sag)
  unfold State.rideOver
  rw [reported, State.reportStandingSag_seq]

/-- What the return to a mode leaves for the end of ride. -/
structure ReturnFrame (s w : State) : Prop where
  ride : w.ctl.ride = s.ctl.ride
  settings : w.settings = s.settings
  table : w.table = s.table
  front : w.front = s.front
  holdUp : w.holdUp = s.holdUp
  last : w.last = s.last
  port : w.port = s.port
  loader : w.loader = s.loader
  mode : w.seq.mode ≠ .solo
  free : s.line.claimed = false → w.line.claimed = false

theorem ReturnFrame.enterRising (s : State) (k : Nat) : ReturnFrame s (s.enterRising k) := by
  obtain ⟨line, -, settings, table, front, holdUp, last, -, -, port, loader⟩ :=
    s.enterRising_facts k
  refine ⟨s.enterRising_ride k, settings, table, front, holdUp, last, port, loader, ?_, ?_⟩
  · simp [State.enterRising_seq]
  · rw [line]
    exact id

theorem ReturnFrame.enterOn (s : State) : ReturnFrame s s.enterOn := by
  rw [State.enterOn_eq, State.arriveOn_eq]
  exact ⟨rfl, rfl, rfl, rfl, rfl, rfl, rfl, rfl, nofun, fun _ => rfl⟩

theorem ReturnFrame.returnToOn (s : State) : ReturnFrame s s.returnToOn := by
  rw [State.returnToOn_eq, State.arriveOn_eq]
  exact ⟨rfl, rfl, rfl, rfl, rfl, rfl, rfl, rfl, nofun, fun _ => rfl⟩

theorem ReturnFrame.rideReturn (s : State) : ReturnFrame s s.rideReturn := by
  by_cases up : s.rodeUp
  · rcases Nat.lt_or_ge s.ridePhase s.settings.phaseCount with below | top
    · rw [State.rideReturn_of_below up below]
      exact .enterRising s _
    · rw [State.rideReturn_of_top up top]
      exact .enterOn s
  · rw [State.rideReturn_of_not_up up]
    exact .returnToOn s

/-- A rail that the return from RIDING switches on (R139, R103). -/
def State.returnsOn (s : State) (i : Fin 8) : Prop :=
  s.rodeUp ∧ s.ridePhase < s.settings.phaseCount ∧ s.startsInPhase (s.ridePhase + 1) i

theorem State.rail_rideReturn (h : s.returnsOn i) : (s.rideReturn.rail i).switchedOn := by
  obtain ⟨up, below, starts⟩ := h
  rw [State.rideReturn_of_below up below]
  exact State.rail_enterRising starts

theorem State.rail_rideReturn_other (h : ¬s.returnsOn i) : s.rideReturn.rail i = s.rail i := by
  by_cases up : s.rodeUp
  · rcases Nat.lt_or_ge s.ridePhase s.settings.phaseCount with below | top
    · rw [State.rideReturn_of_below up below]
      exact State.rail_enterRising_other fun starts => h ⟨up, below, starts⟩
    · rw [State.rideReturn_of_top up top, State.enterOn_eq, State.arriveOn_eq]
      rfl
  · rw [State.rideReturn_of_not_up up, State.returnToOn_eq, State.arriveOn_eq]
    rfl

/-- A rail that dips is GOOD, so the return from RIDING leaves it as it is. -/
theorem State.dips.stays (h : s.dips i) : ¬s.returnsOn i := by
  rintro ⟨-, -, -, -, off⟩
  exact absurd (off.symm.trans h.1) (by simp)

theorem State.rideReturn_dips : s.rideReturn.dips i ↔ s.dips i := by
  have zone : s.rideReturn.zone i = s.zone i :=
    State.zone_congr (ReturnFrame.rideReturn s).front i
  by_cases on : s.returnsOn i
  · have switched := State.rail_rideReturn on
    exact ⟨fun dips => absurd dips.1 switched.not_good, fun dips => absurd on dips.stays⟩
  · simp only [State.dips, State.rail_rideReturn_other on, zone]

end RideEnds

end Sys2Proof.Machine

namespace Sys2Proof
open Machine

/-- Settles O26. -/
theorem riseEndsARideThrough : Obligations.RiseEndsARideThrough := by
  unfold Obligations.RiseEndsARideThrough
  intro s free untaken mode ride n k ascends delay muted on g switched
  let w := s.riseSeen.rideReturn
  have frame : ReturnFrame s.riseSeen w := .rideReturn _
  obtain ⟨ended, seq, line, timers, mute, outcome, dim, tally, settings, table, front, holdUp,
    last, port, loader⟩ := w.rideOver_facts
  have ride' : w.ctl.ride = true := frame.ride.trans ride
  have dips_iff : ∀ i, w.dips i ↔ s.dips i := fun i => State.rideReturn_dips (s := s.riseSeen)
  refine ⟨w.rideOver, ?_, ended, fun back => ?_, fun up below => ?_, fun up top => ?_,
    fun i dips => ?_, fun i sw => ?_, fun i calm stays => ?_, fun mains sag => ?_,
    settings.trans frame.settings, table.trans frame.table, front.trans frame.front,
    holdUp.trans frame.holdUp, last.trans frame.last, port.trans frame.port,
    loader.trans frame.loader⟩
  · have follows : w.rideOver.conclude = w.rideOver.sendIfFree := by
      refine State.conclude_of_free ?_ ?_
      · rw [seq]
        exact frame.mode
      · rw [line]
        exact frame.free free
    rw [State.exec_rise (by simp [mode, Mode.claims]) ⟨free, untaken⟩,
      State.takeRise_of_riding mode, State.riseFromRiding_eq]
    exact congrArg Host.Outcome.next follows
  · have returned : w = s.riseSeen.returnToOn := by
      refine State.rideReturn_of_not_up ?_
      rintro (m | m)
      · exact absurd (m.symm.trans back) (by simp)
      · exact absurd (m.symm.trans back) (by simp)
    rw [seq, line, timers, mute, outcome, dim, returned, State.returnToOn_eq, State.arriveOn_eq]
    exact ⟨rfl, rfl, rfl, rfl, rfl, rfl⟩
  · have up' : s.riseSeen.rodeUp := up
    have phase : s.riseSeen.ridePhase = k := rfl
    have rises : w = s.riseSeen.enterRising (k + 1) := by
      rw [← phase] at below ⊢
      exact State.rideReturn_of_below up' below
    obtain ⟨line', timers', -, -, -, -, -, mute', dim', -, -⟩ :=
      s.riseSeen.enterRising_facts (k + 1)
    rw [seq, line, timers, mute, outcome, dim, rises, line', timers', mute', dim',
      State.enterRising_outcome, State.enterRising_seq]
    exact ⟨rfl, rfl, rfl, rfl, rfl, rfl⟩
  · have rises : w = s.riseSeen.enterOn := State.rideReturn_of_top up top
    rw [seq, line, timers, mute, outcome, dim, tally, rises, State.enterOn_eq, State.arriveOn_eq]
    exact ⟨rfl, rfl, rfl, rfl, rfl, rfl, rfl⟩
  · have dips' : w.dips i := (dips_iff i).mpr dips
    rw [State.rail_rideOver, State.rail_clearRide_of_dips ride' dips']
    exact ⟨rfl, (w.fallenRail_released i true).1⟩
  · have switched : (w.rail i).switchedOn := State.rail_rideReturn sw
    rw [State.rail_rideOver,
      State.rail_clearRide_of_not_dips fun dips => switched.not_good dips.2.1]
    exact switched.rises_or_faults
  · have calm' : ¬w.dips i := fun dips => calm ((dips_iff i).mp dips)
    rw [State.rail_rideOver, State.rail_clearRide_of_not_dips fun dips => calm' dips.2]
    exact State.rail_rideReturn_other stays
  · exact State.rideOver_sag (by rw [frame.settings]; exact mains) (by rw [frame.front]; exact sag)

end Sys2Proof

/-! What follows a step (R52, R126, R129): the release, SOLO going on, and the ends of SOLO and of
a descent. -/

namespace Sys2Proof.Machine

section Ends

variable {s t u w : State} {i : Fin 8} {atOnce : Bool}

/-! ### The end of a descent or of SOLO -/

/-- The attempt count after a descent or SOLO, by its cause (R100). -/
def State.attemptsAfter (s : State) : Nat :=
  match s.seq.cause with
  | .request => 0
  | .fault | .brk => min (s.seq.attempts + 1) (s.settings.retryLimit + 1)
  | .brownout | .none => s.seq.attempts

/-- The attempts exceed the retry limit (R101). -/
def State.locksOut (s : State) : Bool := decide (s.settings.retryLimit < s.attemptsAfter)

/-- The station in OFF or LOCKOUT after a descent or SOLO, before a held RISE or the requester
acts. -/
def State.idled (s : State) : State :=
  { s with
    line := s.line.released
    seq :=
      { s.seq with
        mode := if s.locksOut then .lockout else .off
        phase := 0, cause := .none, lastCause := s.seq.cause, attempts := s.attemptsAfter }
    cur :=
      { s.cur with
        outcome := if s.locksOut then .lockout else s.cur.outcome
        alertPending := s.cur.alertPending || s.locksOut } }

theorem State.enterIdle_eq (s : State) (atOnce : Bool) :
    s.enterIdle atOnce = s.idled.settleIdle atOnce := by
  have counted : s.countAttempt.leaveClaim =
      { s with
        line := s.line.released
        seq := { s.seq with attempts := s.attemptsAfter, lastCause := s.seq.cause } } := rfl
  unfold State.enterIdle; dsimp only
  rw [counted]
  congr 1
  by_cases locks : s.settings.retryLimit < s.attemptsAfter
  · simp [State.idled, State.locksOut, locks, State.enterLockout, State.setOutcome,
      State.raiseAlert]
  · simp [State.idled, State.locksOut, locks]

@[simp] theorem State.requesterEntersOff_mode (s : State) :
    s.requesterEntersOff.seq.mode = s.seq.mode := by
  unfold State.requesterEntersOff State.requestAtOff
  repeat' split
  all_goals simp

theorem State.enterIdle_none (none : s.seq.heldRise = none) :
    s.enterIdle atOnce = if s.locksOut then s.idled else s.idled.requesterEntersOff := by
  have none' : s.idled.seq.heldRise = .none := none
  rw [State.enterIdle_eq]
  unfold State.settleIdle
  rw [none']
  cases locks : s.locksOut <;> simp [State.idled, locks]

/-- A held RISE begins roll call: in OFF any, in LOCKOUT one with attempt 0 (R88). -/
theorem State.enterIdle_rise {a : Byte} (held : s.seq.heldRise = some a)
    (acts : s.locksOut = false ∨ a = 0) :
    ∃ w : State, s.enterIdle atOnce = w.enterRollcall atOnce ∧ w.line = s.line.released ∧
      w.cur.runNumber = s.cur.runNumber := by
  have held' : s.idled.seq.heldRise = some a := held
  rw [State.enterIdle_eq]
  unfold State.settleIdle
  rw [held']
  cases locks : s.locksOut with
  | false => exact ⟨s.idled, by simp [State.idled, locks], rfl, rfl⟩
  | true =>
    have zero : a = 0 := acts.resolve_left (by simp [locks])
    refine ⟨{ s.idled with seq := { s.idled.seq with attempts := 0 } }, ?_, rfl, rfl⟩
    exact (if_neg (by simp [State.idled, locks])).trans (if_pos zero)

theorem State.enterIdle_discard {a : Byte} (held : s.seq.heldRise = some a)
    (locks : s.locksOut = true) (again : a ≠ 0) :
    s.enterIdle atOnce = { s.idled with seq := { s.idled.seq with heldRise := none } } := by
  have held' : s.idled.seq.heldRise = some a := held
  rw [State.enterIdle_eq]
  unfold State.settleIdle
  rw [held']
  exact (if_neg (by simp [State.idled, locks])).trans (if_neg again)

theorem State.idled_resting :
    let u := if s.locksOut then s.idled else s.idled.requesterEntersOff
    u.seq.mode ≠ .solo ∧ u.line.claimed = false := by
  cases locks : s.locksOut
  · simp [State.idled, locks, PhaseLine.released]
  · simp [State.idled, locks, PhaseLine.released]

theorem State.enterRollcall_line_later :
    (w.enterRollcall false).line = { w.line with reclaim := some 4 } := by
  rw [State.enterRollcall_eq]
  unfold State.rollcallBegun; dsimp only
  rw [if_neg (by decide), State.reportStandingSag_line, State.refuseRollcall_line,
    State.startPhase_line, State.queueRoll_line]
  rfl

end Ends

end Sys2Proof.Machine

namespace Sys2Proof
open Machine

/-- Settles O28. -/
theorem finalRiseEndsTheDescent : Obligations.FinalRiseEndsTheDescent := by
  unfold Obligations.FinalRiseEndsTheDescent
  intro s free untaken mode last n locked u
  let d := (s.riseSeen.feed 0x80).stopPhase.holdUpStop
  have idles : d.idled = u := rfl
  have locks : d.locksOut = locked := rfl
  have rises : exec .rise s = .next (d.enterIdle false).conclude := by
    rw [State.exec_rise (by simp [mode, Mode.claims]) ⟨free, untaken⟩,
      State.takeRise_of_descending mode, if_neg (by omega)]
    rfl
  refine ⟨fun none => ?_, fun a held acts => ?_, fun a held lockout again => ?_⟩
  · have ends : d.enterIdle false = if locked then u else u.requesterEntersOff := by
      rw [← locks, ← idles]
      exact State.enterIdle_none none
    obtain ⟨outside, released⟩ := State.idled_resting (s := d)
    rw [locks, idles] at outside released
    rw [rises, ends, State.conclude_of_free outside released]
  · obtain ⟨w, enters, line, run⟩ :=
      State.enterIdle_rise (s := d) (atOnce := false) held (by rw [locks]; exact acts)
    have line' : (w.enterRollcall false).line = { s.riseSeen.line.released with reclaim := some 4 } := by
      rw [State.enterRollcall_line_later, line]
      rfl
    have follows : (w.enterRollcall false).conclude = (w.enterRollcall false).sendIfFree :=
      State.conclude_of_free (by simp) (by rw [line']; rfl)
    have run' : w.cur.runNumber = s.cur.runNumber := run
    refine ⟨(w.enterRollcall false).sendIfFree, ?_, ?_⟩
    · rw [rises, enters, follows]
    · rw [State.sendIfFree_seq, State.sendIfFree_line, State.sendIfFree_cur,
        State.sendIfFree_last, State.enterRollcall_seq, State.enterRollcall_cur,
        State.enterRollcall_last, line', run']
      exact ⟨rfl, rfl, rfl, rfl, rfl, rfl, rfl⟩
  · have ends : d.enterIdle false = { u with seq := { u.seq with heldRise := none } } := by
      rw [← idles]
      exact State.enterIdle_discard held (locks.trans lockout) again
    rw [rises, ends, State.conclude_of_free]
    · simp [u, lockout]
    · rfl

end Sys2Proof

namespace Sys2Proof.Machine

section Solo

variable {s t u w : State} {i : Fin 8}

/-! ### SOLO goes on -/

/-- SOLO has no step left at this instant. -/
def State.soloSettled (s : State) : Prop :=
  s.seq.phase ≤ 1 ∨ s.downSummary s.seq.phase = false

theorem State.soloStep_of_settled (h : s.soloSettled) : s.soloStep = s := by
  refine if_neg ?_
  rintro ⟨-, above, down⟩
  rcases h with low | busy
  · omega
  · simp [down] at busy

/-- One step of the solo down phase (R126). -/
theorem State.soloStep_of_down (mode : s.seq.mode = .solo) (above : 1 < s.seq.phase)
    (down : s.downSummary s.seq.phase = true) :
    s.soloStep =
      ({ s with seq := { s.seq with phase := s.seq.phase - 1 } }).switchOffPhase
        (s.seq.phase - 1) := if_pos ⟨mode, above, down⟩

theorem State.soloSteps_of_settled (h : s.soloSettled) (n : Nat) : State.soloSteps n s = s := by
  induction n with
  | zero => rfl
  | succ n ih => rw [State.soloSteps, State.soloStep_of_settled h, ih]

theorem State.soloStep_mode (s : State) : s.soloStep.seq.mode = s.seq.mode := by
  unfold State.soloStep
  split <;> simp

theorem State.soloSteps_mode (n : Nat) (s : State) :
    (State.soloSteps n s).seq.mode = s.seq.mode := by
  induction n generalizing s with
  | zero => rfl
  | succ n ih => rw [State.soloSteps, ih, State.soloStep_mode]

theorem State.not_soloSettled (h : ¬s.soloSettled) :
    1 < s.seq.phase ∧ s.downSummary s.seq.phase = true := by
  simpa [State.soloSettled] using h

/-- One step for each phase above 1 is enough. -/
theorem State.soloSteps_settle (n : Nat) (mode : s.seq.mode = .solo)
    (phase : s.seq.phase ≤ n + 1) : (State.soloSteps n s).soloSettled := by
  induction n generalizing s with
  | zero => exact .inl phase
  | succ n ih =>
    by_cases settled : s.soloSettled
    · rw [State.soloSteps_of_settled settled]
      exact settled
    · obtain ⟨above, down⟩ := State.not_soloSettled settled
      rw [State.soloSteps]
      refine ih ((State.soloStep_mode s).trans mode) ?_
      rw [State.soloStep_of_down mode above down, State.switchOffPhase_seq]
      show s.seq.phase - 1 ≤ n + 1
      omega

theorem State.soloSteps_succ (n : Nat) (s : State) :
    State.soloSteps (n + 1) s = (State.soloSteps n s).soloStep := by
  induction n generalizing s with
  | zero => rfl
  | succ n ih => rw [State.soloSteps, ih]; rfl

/-- At one instant a step and what follows it are what follows. -/
theorem State.soloSteps_soloStep (mode : s.seq.mode = .solo) (phase : s.seq.phase ≤ 15) :
    State.soloSteps 15 s.soloStep = State.soloSteps 15 s := by
  have settled := State.soloSteps_settle 15 mode (by omega)
  calc State.soloSteps 15 s.soloStep = State.soloSteps 16 s := rfl
    _ = (State.soloSteps 15 s).soloStep := State.soloSteps_succ 15 s
    _ = State.soloSteps 15 s := State.soloStep_of_settled settled

/-! ### SOLO ends -/

theorem State.allOff_iff :
    s.allOff = true ↔ ∀ i, (s.entry i).present = true → (s.rail i).state = .off := by
  simp [State.allOff, mem_railIndices, Decidable.imp_iff_not_or]

theorem State.downSummary_iff {d : Nat} :
    s.downSummary d = true ↔
      ∀ i, (s.entry i).present = true → (s.entry i).downPhase = d → (s.rail i).state = .off := by
  simp [State.downSummary, mem_railIndices, Decidable.imp_iff_not_or, or_assoc]

theorem State.switchOffPhase_of_allOff (off : s.allOff = true) (d : Nat) :
    s.switchOffPhase d = s := by
  refine State.forEachRail_keeps (P := fun u => u = s) (fun i u h => ?_) s rfl
  subst h
  split
  · by_cases present : (u.entry i).present = true
    · exact State.switchOff_of_resting (.inl (State.allOff_iff.mp off i present))
    · exact State.switchOff_of_absent (by simpa using present)
  · rfl

theorem State.soloStep_of_allOff (off : s.allOff = true) :
    ∃ p, s.soloStep = { s with seq := { s.seq with phase := p } } := by
  unfold State.soloStep
  split
  · exact ⟨s.seq.phase - 1, State.switchOffPhase_of_allOff
      (s := { s with seq := { s.seq with phase := s.seq.phase - 1 } }) off _⟩
  · exact ⟨s.seq.phase, rfl⟩

/-- With every rail OFF the steps of SOLO change the phase number alone. -/
theorem State.soloSteps_of_allOff (off : s.allOff = true) (n : Nat) :
    ∃ p, State.soloSteps n s = { s with seq := { s.seq with phase := p } } := by
  induction n with
  | zero => exact ⟨s.seq.phase, rfl⟩
  | succ n ih =>
    obtain ⟨p, steps⟩ := ih
    obtain ⟨q, step⟩ :=
      State.soloStep_of_allOff (s := { s with seq := { s.seq with phase := p } }) off
    exact ⟨q, by rw [State.soloSteps_succ, steps, step]⟩

/-- The station at the end of SOLO before the entry to OFF or LOCKOUT (R129). -/
def State.soloEnded (s : State) : State :=
  { s.holdUpStop with ctl := { s.ctl with solo := false } }

theorem State.endSolo_eq (s : State) : s.endSolo = s.soloEnded.enterIdle true := rfl

theorem State.endSolo_phase (s : State) (p : Nat) :
    ({ s with seq := { s.seq with phase := p } }).endSolo = s.endSolo := by
  rw [State.endSolo_eq, State.endSolo_eq, State.enterIdle_eq, State.enterIdle_eq]
  rfl

theorem State.advanceSolo_of_allOff (mode : s.seq.mode = .solo) (off : s.allOff = true) :
    s.advanceSolo = s.endSolo := by
  obtain ⟨p, steps⟩ := State.soloSteps_of_allOff off 15
  unfold State.advanceSolo; dsimp only
  rw [steps]
  refine (if_pos ?_).trans (State.endSolo_phase s p)
  exact ⟨mode, off⟩

theorem State.canRelease_of_solo (mode : s.seq.mode = .solo) : s.canRelease = false := by
  simp [State.canRelease, State.releaseCondition, mode]

theorem State.releaseIfReady_of_solo (mode : s.seq.mode = .solo) : s.releaseIfReady = s :=
  if_neg (by simp [State.canRelease_of_solo mode])

/-- The entry to OFF or LOCKOUT at the end of SOLO leaves SOLO, with nothing to release. -/
theorem State.endSolo_resting (s : State) :
    s.endSolo.seq.mode ≠ .solo ∧ s.endSolo.canRelease = false := by
  rw [State.endSolo_eq]
  cases held : s.soloEnded.seq.heldRise with
  | none =>
    obtain ⟨outside, free⟩ := s.soloEnded.idled_resting
    rw [State.enterIdle_none held]
    exact ⟨outside, by simp [State.canRelease, free]⟩
  | some a =>
    by_cases acts : s.soloEnded.locksOut = false ∨ a = 0
    · obtain ⟨w, enters, line, -⟩ := State.enterIdle_rise (atOnce := true) held acts
      rw [enters]
      refine ⟨by simp, State.canRelease_of_not_minHold ?_⟩
      rw [State.enterRollcall_line_of_free w (by rw [line]; rfl)]
      rfl
    · obtain ⟨locks, again⟩ := not_or.mp acts
      have locks' : s.soloEnded.locksOut = true := by simpa using locks
      rw [State.enterIdle_discard held locks' again]
      exact ⟨by simp [State.idled, locks'], rfl⟩

theorem State.releaseIfReady_of_not_ready (h : s.canRelease = false) : s.releaseIfReady = s :=
  if_neg (by simp [h])

/-- With every rail OFF what follows a step in SOLO is its end. -/
theorem State.conclude_of_allOff (mode : s.seq.mode = .solo) (off : s.allOff = true) :
    s.conclude = s.endSolo.sendIfFree := by
  rw [State.conclude, State.advanceSolo_of_allOff mode off,
    State.releaseIfReady_of_not_ready s.endSolo_resting.2]

/-- With a rail not OFF what follows a step in SOLO is the steps that can be made. -/
theorem State.conclude_of_solo (mode : s.seq.mode = .solo)
    (busy : (State.soloSteps 15 s).allOff = false) :
    s.conclude = (State.soloSteps 15 s).sendIfFree := by
  have mode' := (State.soloSteps_mode 15 s).trans mode
  have advances : s.advanceSolo = State.soloSteps 15 s := by
    unfold State.advanceSolo
    exact if_neg (by simp [busy])
  rw [State.conclude, advances, State.releaseIfReady_of_solo mode']

theorem State.allOff_congr (rails : t.rails = s.rails) (table : t.table = s.table) :
    t.allOff = s.allOff := by
  simp only [State.allOff, State.rail_congr rails, State.entry_congr table]

theorem State.downSummary_congr (rails : t.rails = s.rails) (table : t.table = s.table)
    (d : Nat) : t.downSummary d = s.downSummary d := by
  simp only [State.downSummary, State.rail_congr rails, State.entry_congr table]

/-! ### Summaries and release conditions -/

theorem State.upSummary_iff {k : Nat} :
    s.upSummary k = true ↔
      ∀ i, (s.entry i).present = true →
        ((s.entry i).upPhase ≤ k → (s.rail i).state = .good ∨ (s.rail i).state = .shed) ∧
          ((s.entry i).upPhase = k → (s.rail i).state = .good) := by
  simp [State.upSummary, mem_railIndices, Decidable.imp_iff_not_or, or_assoc]

theorem State.shedSummary_iff :
    s.shedSummary = true ↔
      ∀ i, (s.entry i).present = true →
        (s.rail i).state ≠ .shed ∧ (s.rail i).restoring = false := by
  simp [State.shedSummary, mem_railIndices, Decidable.imp_iff_not_or]

theorem State.rollcallDone_iff :
    s.rollcallDone = true ↔
      (s.seq.roster.filter fun e => e.heard).length = s.settings.peerCount ∧
        ∀ e ∈ s.seq.roster, e.mismatch = false := by
  simp [State.rollcallDone, State.heardCount, State.anyMismatch]

theorem State.canRelease_iff :
    s.canRelease = true ↔
      s.line.claimed = true ∧ s.line.minHold = true ∧ s.releaseCondition = true := by
  simp [State.canRelease, and_assoc]

/-- The release condition of RIDING, by the mode it returns to (R52). -/
theorem State.releaseCondition_of_riding (mode : s.seq.mode = .riding)
    (recovered : s.seq.recovered = true) :
    s.releaseCondition =
      match s.seq.returnMode with
      | .none => false
      | .rollcall => s.rollcallDone
      | .rising => s.upSummary s.seq.phase && s.shedSummary
      | .on => s.shedSummary := by
  simp only [State.releaseCondition, mode, recovered, Bool.true_and] <;> rfl

end Solo

end Sys2Proof.Machine

namespace Sys2Proof
open Machine

/-- Settles O4. -/
theorem soloGoesOnAndEnds : Obligations.SoloGoesOnAndEnds := by
  unfold Obligations.SoloGoesOnAndEnds
  refine ⟨fun s mode phase stays => ?_, fun s mode phase => ?_, fun s mode off low phase => ?_⟩
  · cases off : (State.soloSteps 15 s).allOff with
    | true =>
      have ends : s.conclude.seq.mode ≠ .solo := by
        have mode' := (State.soloSteps_mode 15 s).trans mode
        have advances : s.advanceSolo = (State.soloSteps 15 s).endSolo := by
          unfold State.advanceSolo
          exact if_pos ⟨mode', off⟩
        rw [State.conclude, advances,
          State.releaseIfReady_of_not_ready (State.endSolo_resting _).2, State.sendIfFree_seq]
        exact (State.endSolo_resting _).1
      exact absurd stays ends
    | false =>
      rw [State.conclude_of_solo mode off, State.sendIfFree_seq,
        State.allOff_congr (State.sendIfFree_rails _) (State.sendIfFree_table _),
        State.downSummary_congr (State.sendIfFree_rails _) (State.sendIfFree_table _)]
      exact ⟨off, State.soloSteps_settle 15 mode (by omega)⟩
  · intro d
    refine ⟨fun above down => ?_, fun settled busy => ?_⟩
    · have steps : s.soloStep =
          ({ s with seq := { s.seq with phase := d } }).switchOffPhase d :=
        State.soloStep_of_down mode above down
      have advances : s.soloStep.advanceSolo = s.advanceSolo := by
        unfold State.advanceSolo
        rw [State.soloSteps_soloStep mode phase]
      rw [← steps, State.conclude, State.conclude, advances]
    · have still := State.soloSteps_of_settled settled 15
      rw [State.conclude_of_solo mode (by rw [still, busy]), still]
  · intro n locked u
    have idles : s.soloEnded.idled = u := rfl
    have locks : s.soloEnded.locksOut = locked := rfl
    refine ⟨fun none => ?_, fun a held acts => ?_, fun a held lockout again => ?_⟩
    · have ends : s.endSolo = if locked then u else u.requesterEntersOff := by
        rw [← locks, ← idles]
        exact State.enterIdle_none none
      rw [State.conclude_of_allOff mode off, ends]
    · obtain ⟨w, enters, line, run⟩ := State.enterIdle_rise (s := s.soloEnded) (atOnce := true)
        held (by rw [locks]; exact acts)
      have run' : w.cur.runNumber = s.cur.runNumber := run
      rw [State.conclude_of_allOff mode off, State.endSolo_eq, enters, State.sendIfFree_seq,
        State.sendIfFree_line, State.sendIfFree_cur, State.enterRollcall_seq,
        State.enterRollcall_cur, State.enterRollcall_line_of_free w (by rw [line]; rfl), run']
      exact ⟨rfl, rfl, rfl, rfl, rfl⟩
    · have ends : s.endSolo = { u with seq := { u.seq with heldRise := none } } := by
        rw [← idles]
        exact State.enterIdle_discard held (locks.trans lockout) again
      rw [State.conclude_of_allOff mode off, ends]

/-- Settles O3. -/
theorem releaseFollowsAStep : Obligations.ReleaseFollowsAStep := by
  unfold Obligations.ReleaseFollowsAStep
  refine ⟨fun s calm => s.conclude_calm calm, fun s mode ready high two => ?_, fun s => ?_⟩
  · have released : s.releaseIfReady =
        ({ s with
          line :=
            { s.line with
              claimed := false, minHoldLeft := none, riseTaken := false,
              highTwo := false } }).takeRise := by
      unfold State.releaseIfReady
      rw [if_pos ready]
      exact if_pos (by simp [State.release, high, two])
    rw [s.conclude_of_not_solo mode, released]
  · intro present up down restored heardAll mode releases
    refine ⟨fun k => ⟨State.upSummary_iff, State.downSummary_iff⟩, State.shedSummary_iff,
      State.allOff_iff, State.canRelease_iff, fun m => ?_, fun m => ?_, fun m stands => ?_,
      fun m back => ⟨fun r => ?_, fun r => ?_, fun r => ?_⟩, fun m => ?_,
      fun rollcall rising riding descending => ?_⟩
    · simp only [releases, State.releaseCondition, show s.seq.mode = _ from m]
      exact State.rollcallDone_iff
    · simp only [releases, State.releaseCondition, show s.seq.mode = _ from m]
      exact State.upSummary_iff
    · simp only [releases, State.releaseCondition, show s.seq.mode = _ from m, stands,
        Bool.false_and, Bool.false_eq_true, not_false_eq_true]
    · simp only [releases, State.releaseCondition_of_riding m back, r]
      exact State.rollcallDone_iff
    · simp only [releases, State.releaseCondition_of_riding m back, r, Bool.and_eq_true]
      exact and_congr State.upSummary_iff State.shedSummary_iff
    · simp only [releases, State.releaseCondition_of_riding m back, r]
      exact State.shedSummary_iff
    · simp only [releases, State.releaseCondition, show s.seq.mode = _ from m]
      exact State.downSummary_iff
    · simp only [releases, State.releaseCondition]
      cases m : s.seq.mode with
      | rollcall => exact absurd m rollcall
      | rising => exact absurd m rising
      | riding => exact absurd m riding
      | descending => exact absurd m descending
      | _ => simp

end Sys2Proof

/-! The dimming channel with the rails it lets fall (R20, R149 to R153). -/

namespace Sys2Proof.Machine

section Ceilings

variable {s t : State} {c : Ceiling} {i : Fin 8}

theorem State.forEach_dimWaitEnds_ctl (s : State) :
    (s.forEachRail State.dimWaitEnds).ctl = s.ctl := by
  refine s.forEachRail_ctl fun i u => ?_
  unfold State.dimWaitEnds
  split <;> rfl

theorem State.forEach_dimWaitEnds_notices (s : State) :
    (s.forEachRail State.dimWaitEnds).notices = s.notices := by
  refine State.forEachRail_keeps (P := fun u => u.notices = s.notices) (fun i u h => ?_) s rfl
  unfold State.dimWaitEnds
  split
  · exact h
  · exact h

theorem State.forEach_dimWaitEnds_cur (s : State) :
    (s.forEachRail State.dimWaitEnds).cur = s.cur := by
  refine State.forEachRail_keeps (P := fun u => u.cur = s.cur) (fun i u h => ?_) s rfl
  unfold State.dimWaitEnds
  split
  · exact h
  · exact h

@[simp] theorem State.setCeiling_ctl (s : State) (c : Ceiling) : (s.setCeiling c).ctl = s.ctl := by
  unfold State.setCeiling; dsimp only
  repeat' split
  · rfl
  · exact State.forEach_dimWaitEnds_ctl _
  · rfl
  · rfl

@[simp] theorem State.setCeiling_notices (s : State) (c : Ceiling) :
    (s.setCeiling c).notices = s.notices := by
  unfold State.setCeiling; dsimp only
  repeat' split
  · rfl
  · exact State.forEach_dimWaitEnds_notices _
  · rfl
  · rfl

@[simp] theorem State.setCeiling_cur (s : State) (c : Ceiling) : (s.setCeiling c).cur = s.cur := by
  unfold State.setCeiling; dsimp only
  repeat' split
  · rfl
  · exact State.forEach_dimWaitEnds_cur _
  · rfl
  · rfl

/-- The zero ceiling report after the ceiling changes (R153). -/
def Dimming.reportAt (d : Dimming) (c : Ceiling) : Bool :=
  if c = .limited 0 then d.zeroReport || decide (d.ceiling ≠ .limited 0)
  else if d.ceiling = .limited 0 then false
  else d.zeroReport

theorem State.setCeiling_dim (s : State) (c : Ceiling) :
    (s.setCeiling c).dim = { s.dim with ceiling := c, zeroReport := s.dim.reportAt c } := by
  unfold State.setCeiling Dimming.reportAt; dsimp only
  by_cases zero : c = .limited 0
  · by_cases was : s.dim.ceiling = .limited 0
    · simp [zero, was]
    · simp [zero, was, (RailFrame.forEach_dimWaitEnds _).dim]
  · by_cases was : s.dim.ceiling = .limited 0
    · simp [zero, was]
    · simp [zero, was]

/-- The ceiling falls to 0 (R153). -/
def State.darkens (s : State) (c : Ceiling) : Prop :=
  c = .limited 0 ∧ s.dim.ceiling ≠ .limited 0

theorem State.setCeiling_of_darkens (h : s.darkens c) :
    s.setCeiling c =
      ({ s with dim := { s.dim with ceiling := c, zeroReport := true } }).forEachRail
        State.dimWaitEnds := by
  obtain ⟨zero, lit⟩ := h
  unfold State.setCeiling; dsimp only
  rw [if_pos zero, if_neg lit]

theorem State.setCeiling_rails_of_not (h : ¬s.darkens c) : (s.setCeiling c).rails = s.rails := by
  unfold State.setCeiling; dsimp only
  by_cases zero : c = .limited 0
  · have was : s.dim.ceiling = .limited 0 := by
      by_contra lit
      exact h ⟨zero, lit⟩
    rw [if_pos zero, if_pos was]
  · rw [if_neg zero]
    split <;> rfl

/-- A ceiling that falls to 0 lets each DIM_WAIT rail fall (R20). -/
theorem State.rail_setCeiling_of_dimWait (h : s.darkens c) (st : (s.rail i).state = .dimWait) :
    (s.setCeiling c).rail i = s.fallenRail i s.urgent := by
  rw [State.setCeiling_of_darkens h, State.rail_forEach_dimWaitEnds]
  exact if_pos st

theorem State.rail_setCeiling_other (h : ¬(s.darkens c ∧ (s.rail i).state = .dimWait)) :
    (s.setCeiling c).rail i = s.rail i := by
  by_cases dark : s.darkens c
  · rw [State.setCeiling_of_darkens dark, State.rail_forEach_dimWaitEnds]
    exact if_neg fun st => h ⟨dark, st⟩
  · exact State.rail_congr (State.setCeiling_rails_of_not dark) i

theorem Dimming.reportAt_matches {d : Dimming}
    (h : d.zeroReport = decide (d.ceiling = .limited 0)) (c : Ceiling) :
    d.reportAt c = decide (c = .limited 0) := by
  unfold Dimming.reportAt
  by_cases zero : c = .limited 0
  · by_cases was : d.ceiling = .limited 0 <;> simp [zero, was, h]
  · by_cases was : d.ceiling = .limited 0 <;> simp [zero, was, h]

/-! ### Period boundaries -/

/-- The channel at a boundary, before the ceiling changes (R149). -/
def State.boundaryDim (s : State) : Dimming :=
  let p := s.nextPeriod
  let a := s.nextCeiling.clip s.nextHigh
  { s.dim with
    outPeriod := p, rampIndex := s.nextRampIndex, setting := s.nextSetting,
    boundaryLeft := some p, active := decide (0 < a),
    activeLeft := if 0 < a ∧ a < p then some a else none }

theorem State.boundary_eq (s : State) :
    s.boundary = ({ s with dim := s.boundaryDim }).setCeiling s.nextCeiling := rfl

theorem State.boundary_dim (s : State) :
    s.boundary.dim =
      { s.boundaryDim with
        ceiling := s.nextCeiling, zeroReport := s.dim.reportAt s.nextCeiling } := by
  rw [State.boundary_eq, State.setCeiling_dim]
  rfl

theorem State.next_of_zero (setting : s.dim.setting = .zero) :
    s.nextCeiling = .limited 0 ∧ s.nextSetting = .zero := by
  simp [State.nextCeiling, State.nextSetting, setting]

theorem State.next_of_full (setting : s.dim.setting = .full) :
    s.nextCeiling = .unlimited ∧ s.nextSetting = .full := by
  simp [State.nextCeiling, State.nextSetting, setting]

theorem State.nextCeiling_of_ramp (setting : s.dim.setting = .ramp) :
    s.nextCeiling =
      if s.dim.rampIndex + 1 < s.settings.rampPeriods then
        .limited ((s.dim.rampIndex + 1) * (s.nextPeriod / s.settings.rampPeriods))
      else .unlimited := by
  simp only [State.nextCeiling, State.nextRampIndex, setting]

theorem State.nextCeiling_of_lift (setting : s.dim.setting = .lift) :
    s.nextCeiling =
      if s.dim.rampIndex + 1 < s.settings.rampPeriods then
        s.dim.liftFloor.atLeast ((s.dim.rampIndex + 1) * (s.nextPeriod / s.settings.rampPeriods))
      else .unlimited := by
  simp only [State.nextCeiling, State.nextRampIndex, setting]

theorem State.nextSetting_of_ramp (setting : s.dim.setting = .ramp) :
    s.nextSetting = if s.nextCeiling = .unlimited then .full else .ramp := by
  simp only [State.nextSetting, setting]

theorem State.nextSetting_of_lift (setting : s.dim.setting = .lift) :
    s.nextSetting = if s.nextCeiling = .unlimited then .full else .lift := by
  simp only [State.nextSetting, setting]

/-- The boundary reads nothing of the line. -/
theorem State.seeHold_boundary (s : State) (hold : Bool) :
    (s.seeHold hold).boundaryDim = s.boundaryDim ∧
      (s.seeHold hold).nextCeiling = s.nextCeiling := by
  rw [State.seeHold_eq]
  exact ⟨rfl, rfl⟩

end Ceilings

end Sys2Proof.Machine

namespace Sys2Proof
open Machine

/-- Settles O51. -/
theorem periodBoundaryFixesTheOutput : Obligations.PeriodBoundaryFixesTheOutput := by
  unfold Obligations.PeriodBoundaryFixesTheOutput
  intro s hold c d p h j us cap
  refine ⟨fun early => ?_, fun live backlight due => ?_⟩
  · refine if_neg fun due => ?_
    obtain ⟨live, backlight, due⟩ := State.boundaryDue_iff.mp due
    rcases early with h | h | h
    · exact absurd (live.symm.trans h) (by simp)
    · exact absurd (backlight.symm.trans h) (by simp)
    · exact h due
  · obtain ⟨sameDim, sameCeiling⟩ := s.seeHold_boundary hold
    let v := (s.seeHold hold).boundary
    have period : s.nextPeriod = p := rfl
    have dim : v.dim =
        { s.boundaryDim with
          ceiling := s.nextCeiling, zeroReport := s.dim.reportAt s.nextCeiling } := by
      rw [show v.dim = _ from State.boundary_dim _, sameDim, sameCeiling, State.seeHold_dim]
    have ceiling : v.dim.ceiling = s.nextCeiling := by rw [dim]
    have setting : v.dim.setting = s.nextSetting := by rw [dim]; rfl
    have eq : v = ({ s.seeHold hold with dim := s.boundaryDim }).setCeiling s.nextCeiling := by
      rw [← sameDim, ← sameCeiling]
      rfl
    have rails : ¬s.darkens s.nextCeiling → v.rails = s.rails := fun calm => by
      rw [eq, State.setCeiling_rails_of_not (by exact calm), State.seeHold_rails]
    refine ⟨v, if_pos (State.boundaryDue_iff.mpr ⟨live, backlight, due⟩), fun zero => ?_,
      fun full => ?_, fun capped => ?_, fun ramp => ⟨fun below => ?_, fun top => ?_⟩,
      fun lift => ⟨fun n floor below => ?_, fun top => ?_⟩, ?_, ?_, ?_, ?_, fun report => ?_,
      ?_, ?_, ?_, fun i other => ?_, fun dark was => ?_, fun dark lit i waits => ?_, ?_⟩
    · rw [ceiling, setting]
      exact State.next_of_zero zero
    · rw [ceiling, setting]
      exact State.next_of_full full
    · rw [ceiling, setting]
      simp only [State.nextCeiling, State.nextSetting, show s.dim.setting = _ from capped, period]
      exact ⟨trivial, fun l some => by rw [show s.dim.capLimit = _ from some],
        fun none => by rw [show s.dim.capLimit = _ from none]⟩
    · rw [ceiling, setting, State.nextSetting_of_ramp ramp, State.nextCeiling_of_ramp ramp,
        if_pos below]
      exact ⟨rfl, rfl⟩
    · rw [ceiling, setting, State.nextSetting_of_ramp ramp, State.nextCeiling_of_ramp ramp,
        if_neg (Nat.not_lt.mpr top)]
      exact ⟨rfl, rfl⟩
    · rw [ceiling, setting, State.nextSetting_of_lift lift, State.nextCeiling_of_lift lift,
        if_pos below, show s.dim.liftFloor = _ from floor]
      exact ⟨rfl, rfl⟩
    · have unlimited : s.nextCeiling = .unlimited := by
        rw [State.nextCeiling_of_lift lift]
        rcases top with floor | top
        · rw [show s.dim.liftFloor = _ from floor]
          split <;> rfl
        · exact if_neg (Nat.not_lt.mpr top)
      rw [ceiling, setting, State.nextSetting_of_lift lift, unlimited]
      exact ⟨rfl, rfl⟩
    · rw [dim]
      show s.nextRampIndex = _
      unfold State.nextRampIndex
      cases s.dim.setting <;> simp [d, j]
    · rw [dim]; rfl
    · rw [dim]; rfl
    · rw [dim]
      exact ⟨rfl, rfl⟩
    · unfold State.reportMatchesCeiling
      rw [dim]
      exact Dimming.reportAt_matches report _
    · rw [dim]; rfl
    · rw [dim]; rfl
    · rw [dim]; rfl
    · rw [eq, State.rail_setCeiling_other]
      · exact State.rail_seeHold s hold i
      · rintro ⟨-, waits⟩
        have waits' : (s.rail i).state = .dimWait := by rwa [← State.rail_seeHold s hold i]
        exact other waits'
    · exact rails fun dark' => dark'.2 was
    · have dark' : s.darkens s.nextCeiling := ⟨ceiling.symm.trans dark, lit⟩
      have falls : v.rail i =
          ({ s.seeHold hold with dim := s.boundaryDim }).fallenRail i (s.seeHold hold).urgent := by
        rw [eq]
        refine State.rail_setCeiling_of_dimWait dark' ?_
        rw [← State.rail_seeHold s hold i] at waits
        exact waits
      rw [falls]
      exact ⟨(State.fallenRail_released _ i _).1, State.fallenRail_state _ i _⟩
    · rw [eq]
      simp

end Sys2Proof

/-! Urgency (R43, R121, R152) and the SAGs that begin no ride-through (R133). -/

namespace Sys2Proof.Machine

section Urgency

variable {s t : State} {i : Fin 8} {n : Notice} {own : Bool}

/-! ### What a rail of the statements reads -/

theorem State.fallenRail_congr (table : t.table = s.table) (front : t.front = s.front)
    (rail : t.rail i = s.rail i) (urgent : Bool) :
    t.fallenRail i urgent = s.fallenRail i urgent := by
  simp only [State.fallenRail, State.entry_congr table, State.zone_congr front, rail]

theorem State.hurriedRail_congr (table : t.table = s.table) (rail : t.rail i = s.rail i) :
    t.hurriedRail i = s.hurriedRail i := by
  simp only [State.hurriedRail, State.entry_congr table, rail]

theorem State.urgedRail_congr (table : t.table = s.table) (front : t.front = s.front)
    (rail : t.rail i = s.rail i) : t.urgedRail i = s.urgedRail i := by
  simp only [State.urgedRail, State.fallenRail_congr table front rail,
    State.hurriedRail_congr table rail, rail]

theorem State.raisedRail_congr (table : t.table = s.table) (front : t.front = s.front)
    (held : t.ctl.held = s.ctl.held) (r : Rail) : t.raisedRail i r = s.raisedRail i r := by
  simp only [State.raisedRail, State.entry_congr table, State.zone_congr front, held]

/-! ### The onset of urgency at the rails -/

theorem State.urgentRail_notices (s : State) (i : Fin 8) :
    (s.urgentRail i).notices = s.notices := by
  unfold State.urgentRail State.hurryFall
  repeat' split
  all_goals rfl

theorem State.urgentRail_cur (s : State) (i : Fin 8) : (s.urgentRail i).cur = s.cur := by
  unfold State.urgentRail State.hurryFall
  repeat' split
  all_goals rfl

@[simp] theorem State.urgentRails_notices (s : State) : s.urgentRails.notices = s.notices := by
  rw [State.urgentRails, State.tidyBlankWait_notices]
  exact State.forEachRail_keeps (P := fun u => u.notices = s.notices)
    (fun i u h => (u.urgentRail_notices i).trans h) s rfl

@[simp] theorem State.urgentRails_cur (s : State) : s.urgentRails.cur = s.cur := by
  rw [State.urgentRails, State.tidyBlankWait_cur]
  exact State.forEachRail_keeps (P := fun u => u.cur = s.cur)
    (fun i u h => (u.urgentRail_cur i).trans h) s rfl

/-- The rail after the onset of urgency waits for no dimming, and serves as it did. -/
theorem State.urgedRail_state (s : State) (i : Fin 8) :
    (s.urgedRail i).state ≠ .dimWait ∧
      (s.urgedRail i = s.rail i ∨
        (s.rail i).state.leaving ∧ (s.urgedRail i).state.leaving) := by
  have falls := s.fallenRail_state i true
  unfold State.urgedRail
  cases st : (s.rail i).state with
  | armedOff | dimWait =>
    dsimp only
    rcases falls with h | h <;> simp [h, RailState.leaving]
  | falling =>
    dsimp only
    split
    · simp [st]
    · simp [State.hurriedRail, st, RailState.leaving]
  | _ => simp [st]

/-! ### The cut of the dimming channel -/

/-- The channel after a cut (R152). -/
def Dimming.cut (d : Dimming) : Dimming :=
  { d with
    setting := .zero, rampIndex := 0, capLimit := none, liftFloor := .limited 0
    ceiling := .limited 0, active := false, activeLeft := none
    zeroReport := d.zeroReport || decide (d.ceiling ≠ .limited 0) }

theorem State.dimCut_of_dark (h : s.settings.roles.backlight = false) : s.dimCut = s :=
  if_neg (by simp [State.hasDimming, h])

/-- The station at a cut, before the ceiling changes. -/
def State.cutBegun (s : State) : State :=
  { s with
    dim :=
      { s.dim with
        setting := .zero, rampIndex := 0, capLimit := none, liftFloor := .limited 0,
        active := false, activeLeft := none } }

theorem State.dimCut_of_backlight (h : s.settings.roles.backlight = true) :
    s.dimCut = s.cutBegun.setCeiling (.limited 0) := if_pos h

theorem State.dimCut_dim (h : s.settings.roles.backlight = true) : s.dimCut.dim = s.dim.cut := by
  rw [State.dimCut_of_backlight h, State.setCeiling_dim]
  rfl

@[simp] theorem State.dimCut_notices (s : State) : s.dimCut.notices = s.notices := by
  unfold State.dimCut
  split <;> simp

@[simp] theorem State.dimCut_cur (s : State) : s.dimCut.cur = s.cur := by
  unfold State.dimCut
  split <;> simp

@[simp] theorem State.dimCut_ctl (s : State) : s.dimCut.ctl = s.ctl := by
  unfold State.dimCut
  split <;> simp

/-- The cut darkens a channel that is lit (R152). -/
def State.cutDarkens (s : State) : Prop :=
  s.settings.roles.backlight = true ∧ s.dim.ceiling ≠ .limited 0

theorem State.rail_dimCut_of_dimWait (lit : s.cutDarkens) (st : (s.rail i).state = .dimWait) :
    s.dimCut.rail i = s.fallenRail i s.urgent := by
  rw [State.dimCut_of_backlight lit.1]
  exact State.rail_setCeiling_of_dimWait (s := s.cutBegun) ⟨rfl, lit.2⟩ st

theorem State.rail_dimCut_other (h : ¬(s.cutDarkens ∧ (s.rail i).state = .dimWait)) :
    s.dimCut.rail i = s.rail i := by
  by_cases backlight : s.settings.roles.backlight = true
  · rw [State.dimCut_of_backlight backlight]
    exact State.rail_setCeiling_other (s := s.cutBegun) fun ⟨dark, waits⟩ =>
      h ⟨⟨backlight, dark.2⟩, waits⟩
  · rw [State.dimCut_of_dark (by simpa using backlight)]

/-! ### The start of the hold-up timer -/

/-- The station whose hold-up timer has started, before urgency sets in. -/
def State.timedHoldUp (s : State) : State :=
  { s with holdUp := s.holdUp.started, seq := { s.seq with budgetPassed := false } }

theorem State.holdUpStart_of_running (running : s.holdUp.running = true) :
    s.holdUpStart = s.timedHoldUp := if_pos running

theorem State.holdUpStart_of_stopped (stopped : s.holdUp.running = false) :
    s.holdUpStart = s.timedHoldUp.urgentSet := if_neg (by simp [stopped])

theorem State.urgentSet_of_descending (mode : s.seq.mode = .descending) :
    s.urgentSet = s.urgentRails.dimCut := if_pos mode

theorem State.urgentSet_of_not_descending (mode : s.seq.mode ≠ .descending) :
    s.urgentSet = s.urgentRails := if_neg mode

@[simp] theorem State.urgentSet_notices (s : State) : s.urgentSet.notices = s.notices := by
  unfold State.urgentSet
  split <;> simp

@[simp] theorem State.urgentSet_cur (s : State) : s.urgentSet.cur = s.cur := by
  unfold State.urgentSet
  split <;> simp

/-- The onset of urgency leaves each rail urged: a cut finds no rail in DIM_WAIT any more. -/
theorem State.rail_urgentSet (s : State) (i : Fin 8) : s.urgentSet.rail i = s.urgedRail i := by
  unfold State.urgentSet
  split
  · rw [State.rail_dimCut_other, State.rail_urgentRails]
    rintro ⟨-, waits⟩
    rw [State.rail_urgentRails] at waits
    exact (s.urgedRail_state i).1 waits
  · exact s.rail_urgentRails i

@[simp] theorem State.holdUpStart_notices (s : State) : s.holdUpStart.notices = s.notices := by
  unfold State.holdUpStart; dsimp only
  split <;> simp

@[simp] theorem State.holdUpStart_cur (s : State) : s.holdUpStart.cur = s.cur := by
  unfold State.holdUpStart; dsimp only
  split <;> simp

/-- The rails after a start of the hold-up timer: urged where it stood (R43). -/
theorem State.rail_holdUpStart (s : State) (i : Fin 8) :
    s.holdUpStart.rail i = if s.holdUp.running then s.rail i else s.urgedRail i := by
  cases running : s.holdUp.running with
  | true =>
    rw [State.holdUpStart_of_running running]
    rfl
  | false =>
    rw [State.holdUpStart_of_stopped running, State.rail_urgentSet]
    exact State.urgedRail_congr rfl rfl rfl

theorem State.holdUpStartIfStopped_of_running (running : s.holdUp.running = true) :
    s.holdUpStartIfStopped = s := if_pos running

theorem State.holdUpStartIfStopped_of_stopped (stopped : s.holdUp.running = false) :
    s.holdUpStartIfStopped = s.holdUpStart := if_neg (by simp [stopped])

@[simp] theorem State.holdUpStartIfStopped_notices (s : State) :
    s.holdUpStartIfStopped.notices = s.notices := by
  unfold State.holdUpStartIfStopped
  split <;> simp

@[simp] theorem State.holdUpStartIfStopped_cur (s : State) :
    s.holdUpStartIfStopped.cur = s.cur := by
  unfold State.holdUpStartIfStopped
  split <;> simp

theorem State.rail_holdUpStartIfStopped (s : State) (i : Fin 8) :
    s.holdUpStartIfStopped.rail i = if s.holdUp.running then s.rail i else s.urgedRail i := by
  cases running : s.holdUp.running with
  | true => rw [State.holdUpStartIfStopped_of_running running]; rfl
  | false =>
    rw [State.holdUpStartIfStopped_of_stopped running, State.rail_holdUpStart, running]

/-- In DESCENDING the onset of urgency cuts a dimming channel (R152). -/
theorem State.holdUpStart_dim_of_cut (stopped : s.holdUp.running = false)
    (mode : s.seq.mode = .descending) (backlight : s.settings.roles.backlight = true) :
    s.holdUpStart.dim = s.dim.cut := by
  have mode' : s.timedHoldUp.seq.mode = .descending := mode
  have dim : s.timedHoldUp.urgentRails.dim = s.dim := by simp [State.timedHoldUp]
  rw [State.holdUpStart_of_stopped stopped, State.urgentSet_of_descending mode',
    State.dimCut_dim (by simpa [State.timedHoldUp] using backlight), dim]

theorem State.holdUpStart_dim_of_not_cut
    (h : s.holdUp.running = true ∨ s.settings.roles.backlight = false ∨
      s.seq.mode ≠ .descending) : s.holdUpStart.dim = s.dim := by
  cases running : s.holdUp.running with
  | true =>
    rw [State.holdUpStart_of_running running]
    rfl
  | false =>
    rw [State.holdUpStart_of_stopped running]
    by_cases mode : s.timedHoldUp.seq.mode = .descending
    · have dark : s.timedHoldUp.urgentRails.settings.roles.backlight = false := by
        rcases h with h | h | h
        · simp [running] at h
        · simpa [State.timedHoldUp] using h
        · exact absurd mode h
      rw [State.urgentSet_of_descending mode, State.dimCut_of_dark dark]
      simp [State.timedHoldUp]
    · rw [State.urgentSet_of_not_descending mode]
      simp [State.timedHoldUp]

theorem State.holdUpStartIfStopped_dim
    (h : s.holdUp.running = true ∨ s.settings.roles.backlight = false ∨
      s.seq.mode ≠ .descending) : s.holdUpStartIfStopped.dim = s.dim := by
  unfold State.holdUpStartIfStopped
  split
  · rfl
  · exact State.holdUpStart_dim_of_not_cut h

/-! ### What a SAG counts, queues and owes -/

/-- The outbound set once COMMIT CHATTER is judged with the sag count `k` (R140). -/
def State.chattered (s : State) (k : Nibble) : Outbound :=
  { s.notices.outbound with
    commit :=
      if s.settings.sagLimit ≤ k.toNat then some ⟨2, BitVec.ofNat 8 s.seq.phase, 0⟩
      else s.notices.outbound.commit }

theorem State.checkChatter_eq (s : State) :
    s.checkChatter =
      { s with notices := { s.notices with outbound := s.chattered s.seq.sagCount } } := by
  unfold State.checkChatter State.chattered
  rw [State.queueNotice_of_ne_fault (by decide)]
  split <;> rfl

theorem State.leadAlreadyHeld_eq (s : State) (own : Bool) :
    s.leadAlreadyHeld own =
      { s with
        notices :=
          { s.notices with
            outbound :=
              { s.notices.outbound with
                mainsOk :=
                  if own = true ∧ s.front.mainsHeld = true then
                    some ⟨BitVec.ofNat 8 s.seq.phase, 0, 0⟩
                  else s.notices.outbound.mainsOk } } } := by
  unfold State.leadAlreadyHeld State.queueMainsOk
  rw [State.queueNotice_of_ne_fault (by decide)]
  simp only [Bool.and_eq_true]
  split <;> rfl

/-- The station that has counted a SAG, with its sender as lead (R133). -/
def State.sagLed (s : State) (n : Notice) (own : Bool) : State :=
  { s with
    seq :=
      { s.seq with
        sagCount := satInc s.seq.sagCount
        signature := crc16Byte s.seq.signature 0x40
        lead := some n.sender, mainsReturned := false, owed := own }
    cur := { s.cur with sags := satInc s.cur.sags, lead := some n.sender } }

theorem State.countTakenSag_setLead (s : State) (n : Notice) (own : Bool) :
    s.countTakenSag.setLead n own = s.sagLed n own := rfl

end Urgency

end Sys2Proof.Machine

namespace Sys2Proof
open Machine

/-- Settles O44. -/
theorem sagElsewhereIsCounted : Obligations.SagElsewhereIsCounted := by
  unfold Obligations.SagElsewhereIsCounted
  intro s n own hold takes kind u chattered
  have mode : u.seq.mode = s.seq.mode := State.atNotice_mode _ _ _ _
  have fixed : s.seq.mode = .riding ∨ s.seq.mode = .descending ∨ s.seq.mode = .off ∨
      s.seq.mode = .lockout ∨ s.seq.mode = .solo → s.noRiseFirst .sag hold := by
    intro h
    refine .inl ?_
    rcases h with m | m | m | m | m <;> rw [m] <;> rfl
  have chatter : chattered = u.chattered (satInc s.seq.sagCount) := by
    simp [State.chattered, chattered, u]
  refine ⟨fun riding => ?_, fun descending => ?_, fun rests => ?_⟩
  · let counted : State :=
      { u with
        seq :=
          { u.seq with
            sagCount := satInc s.seq.sagCount, signature := crc16Byte s.seq.signature 0x40 }
        cur :=
          { u.cur with
            sags := satInc u.cur.sags
            leadConflicts :=
              if s.seq.lead = some n.sender then u.cur.leadConflicts
              else satInc u.cur.leadConflicts
            alertPending := u.cur.alertPending || !decide (s.seq.lead = some n.sender) } }
    have acts : u.onSag n own = counted.checkChatter := by
      have counts : (if u.seq.lead = some n.sender then u.countTakenSag
          else u.countTakenSag.leadConflict) = counted := by
        by_cases lead : s.seq.lead = some n.sender
        · simp [counted, u, lead, State.countTakenSag, State.countSag, State.feed]
        · simp [counted, u, lead, State.countTakenSag, State.countSag, State.feed,
            State.leadConflict]
      unfold State.onSag
      rw [mode, riding]
      exact congrArg State.checkChatter counts
    refine ⟨counted.checkChatter, State.take_eq takes kind (fixed (.inl riding)) acts, ?_⟩
    rw [State.checkChatter_eq, chatter]
    exact ⟨rfl, rfl, rfl, by simp [counted, u], rfl, by simp [counted, u], by simp [counted, u]⟩
  · let b : State :=
      { u.sagLed n own with notices := { u.notices with outbound := chattered } }
    have led : (u.sagLed n own).checkChatter = b := by
      rw [State.checkChatter_eq, show (u.sagLed n own).chattered _ = chattered from ?_]
      · rfl
      · rw [chatter]
        simp [State.sagLed, State.chattered, u]
    have acts : u.onSag n own = b.holdUpStartIfStopped.leadAlreadyHeld own := by
      unfold State.onSag
      rw [mode, descending]
      dsimp only
      rw [State.countTakenSag_setLead, led]
    have mode' : b.seq.mode = .descending := mode.trans descending
    have running : b.holdUp.running = s.holdUp.running := by simp [b, State.sagLed, u]
    have rail : ∀ i, b.rail i = s.rail i := State.rail_congr (by simp [b, State.sagLed, u])
    have urged : ∀ i, b.urgedRail i = s.urgedRail i := fun i =>
      State.urgedRail_congr (by simp [b, State.sagLed, u]) (by simp [b, State.sagLed, u]) (rail i)
    have roles : b.settings.roles = s.settings.roles := by simp [b, State.sagLed, u]
    have dim : b.dim = s.dim := by simp [b, State.sagLed, u]
    refine ⟨b.holdUpStartIfStopped.leadAlreadyHeld own,
      State.take_eq takes kind (fixed (.inr (.inl descending))) acts, ?_⟩
    rw [State.leadAlreadyHeld_eq]
    refine ⟨b.holdUpStartIfStopped_running, fun runs => ?_, fun stands => ⟨?_, fun i => ?_,
      fun backlight => ?_⟩, fun fixed => ?_, ?_, ?_, ?_, ?_, ?_, ?_⟩
    · rw [State.holdUpStartIfStopped_of_running (running.trans runs)]
      simp [b, State.sagLed, u]
    · show b.holdUpStartIfStopped.holdUp.count = 0
      rw [State.holdUpStartIfStopped_of_stopped (running.trans stands), State.holdUpStart_holdUp]
      rfl
    · show b.holdUpStartIfStopped.rail i = s.urgedRail i
      rw [State.rail_holdUpStartIfStopped, running, stands, urged]
      rfl
    · show b.holdUpStartIfStopped.dim = s.dim.cut
      rw [State.holdUpStartIfStopped_of_stopped (running.trans stands),
        State.holdUpStart_dim_of_cut (running.trans stands) mode' (by rw [roles, backlight]), dim]
    · show b.holdUpStartIfStopped.dim = s.dim
      rw [State.holdUpStartIfStopped_dim, dim]
      rw [running, roles]
      exact fixed.imp_right .inl
    · show b.holdUpStartIfStopped.seq = _
      rw [State.holdUpStartIfStopped_seq, running]
      cases s.holdUp.running <;> simp [b, State.sagLed, u]
    · show b.holdUpStartIfStopped.cur = _
      rw [State.holdUpStartIfStopped_cur]
      simp [b, State.sagLed]
    · have phase : b.holdUpStartIfStopped.seq.phase = s.seq.phase := by
        rw [State.holdUpStartIfStopped_seq]
        split <;> simp [b, State.sagLed, u]
      have front : b.holdUpStartIfStopped.front = s.front := by simp [b, State.sagLed, u]
      dsimp only
      rw [phase, front, State.holdUpStartIfStopped_notices]
    · simp [b, State.sagLed, u]
    · simp [b, State.sagLed, u]
    · simp [b, State.sagLed, u]
  · refine State.take_eq takes kind (fixed (.inr (.inr rests))) ?_
    unfold State.onSag
    rw [mode]
    rcases rests with m | m | m <;> rw [m] <;> rfl

end Sys2Proof

/-! Entry to RIDING (R134) and the SAG that brings it (R133). -/

namespace Sys2Proof.Machine

section Riding

variable {s t : State} {i : Fin 8} {n : Notice} {own : Bool}

/-- The station at the entry to RIDING, before its rails are held and shed. -/
def State.rideReady (s : State) : State :=
  ({ s with
    seq :=
      { s.seq with
        mode := .riding, returnMode := s.seq.mode.toReturn,
        recovered := false } }).claimNow.holdUpStart.pausePhase.stopOnTimers

/-- The station at the entry to RIDING, with its rails held (R12). -/
def State.rideHeld (s : State) : State :=
  ({ s.rideReady with ctl := { s.rideReady.ctl with ride := true } }).hold

theorem State.enterRiding_eq (s : State) :
    s.enterRiding = (s.rideHeld.forEachRail State.shed).dimCap := rfl

/-! ### Holding and shedding report nothing -/

theorem State.hold_ctl (s : State) : s.hold.ctl = { s.ctl with held := true } :=
  State.forEachRail_ctl (f := fun i t => t.modifyRail i Rail.pauseTimed) (fun _ _ => rfl)
    { s with ctl := { s.ctl with held := true } }

theorem State.hold_notices (s : State) : s.hold.notices = s.notices :=
  State.forEachRail_keeps (P := fun u => u.notices = s.notices) (fun _ _ h => h) _ rfl

theorem State.hold_cur (s : State) : s.hold.cur = s.cur :=
  State.forEachRail_keeps (P := fun u => u.cur = s.cur) (fun _ _ h => h) _ rfl

theorem State.shed_ctl (s : State) (i : Fin 8) : (s.shed i).ctl = s.ctl := by
  unfold State.shed
  split <;> rfl

theorem State.shed_notices (s : State) (i : Fin 8) : (s.shed i).notices = s.notices := by
  unfold State.shed
  split <;> rfl

theorem State.shed_cur (s : State) (i : Fin 8) : (s.shed i).cur = s.cur := by
  unfold State.shed
  split <;> rfl

theorem State.shedAll_ctl (s : State) : (s.forEachRail State.shed).ctl = s.ctl :=
  s.forEachRail_ctl fun i u => u.shed_ctl i

theorem State.shedAll_notices (s : State) : (s.forEachRail State.shed).notices = s.notices :=
  State.forEachRail_keeps (P := fun u => u.notices = s.notices)
    (fun i u h => (u.shed_notices i).trans h) s rfl

theorem State.shedAll_cur (s : State) : (s.forEachRail State.shed).cur = s.cur :=
  State.forEachRail_keeps (P := fun u => u.cur = s.cur)
    (fun i u h => (u.shed_cur i).trans h) s rfl

theorem State.shedAll_frame (s : State) : RailFrame s (s.forEachRail State.shed) :=
  (Alike.forEachRail RailTurn.shed s).frame

/-! ### What an entry to RIDING does -/

theorem State.enterRiding_notices (s : State) : s.enterRiding.notices = s.notices := by
  rw [State.enterRiding_eq, State.dimCap_notices, State.shedAll_notices, State.rideHeld,
    State.hold_notices]
  simp [State.rideReady]

theorem State.enterRiding_cur (s : State) : s.enterRiding.cur = s.cur := by
  rw [State.enterRiding_eq, State.dimCap_cur, State.shedAll_cur, State.rideHeld, State.hold_cur]
  simp [State.rideReady]

theorem State.holdUpStart_solo (s : State) : s.holdUpStart.ctl.solo = s.ctl.solo := by
  have urgent : ∀ u : State, u.urgentRails.ctl.solo = u.ctl.solo := fun u => by
    have alike : Alike u (u.forEachRail State.urgentRail) := .forEachRail RailTurn.urgentRail u
    have tidied := (RailTurn.tidyBlankWait (i := 0) (u.forEachRail State.urgentRail)).alike.solo
    rw [State.urgentRails, tidied, alike.solo]
  cases running : s.holdUp.running with
  | true =>
    rw [State.holdUpStart_of_running running]
    rfl
  | false =>
    rw [State.holdUpStart_of_stopped running]
    unfold State.urgentSet
    split
    · rw [State.dimCut_ctl, urgent]
      rfl
    · rw [urgent]
      rfl

theorem State.enterRiding_ctl (s : State) :
    s.enterRiding.ctl.ride = true ∧ s.enterRiding.ctl.held = true ∧
      s.enterRiding.ctl.solo = s.ctl.solo := by
  rw [State.enterRiding_eq, State.dimCap_ctl, State.shedAll_ctl, State.rideHeld, State.hold_ctl]
  refine ⟨rfl, rfl, ?_⟩
  show s.rideReady.ctl.solo = s.ctl.solo
  rw [State.rideReady, State.stopOnTimers_ctl, State.pausePhase_ctl, State.holdUpStart_solo,
    State.claimNow_ctl]

/-- Everything of the held and shed station but its rails is as it was before. -/
theorem State.enterRiding_frame (s : State) :
    let t := s.enterRiding
    t.line = s.claimNow.line ∧ t.timers = s.rideReady.timers ∧
      t.freeIndex = s.rideReady.freeIndex ∧ t.table = s.table ∧ t.front = s.front ∧
      t.mute = s.mute ∧ t.last = s.last ∧ t.port = s.port ∧ t.loader = s.loader := by
  have shed := s.rideHeld.shedAll_frame
  dsimp only
  rw [State.enterRiding_eq]
  have line : ({ s with
      seq :=
        { s.seq with
          mode := .riding, returnMode := s.seq.mode.toReturn,
          recovered := false } }).claimNow.line = s.claimNow.line := by
    unfold State.claimNow
    dsimp only
    split <;> rfl
  refine ⟨?_, ?_, ?_, ?_, ?_, ?_, ?_, ?_, ?_⟩
  · rw [State.dimCap_line, shed.line, State.rideHeld, State.hold_line, ← line]
    simp [State.rideReady]
  · rw [State.dimCap_timers, shed.timers, State.rideHeld, State.hold_timers]
  · rw [State.dimCap_freeIndex, shed.freeIndex, State.rideHeld, State.hold_freeIndex]
  · rw [State.dimCap_table, shed.table, State.rideHeld, State.hold_table]
    simp [State.rideReady]
  · rw [State.dimCap_front, shed.front, State.rideHeld, State.hold_front]
    simp [State.rideReady]
  · rw [State.dimCap_mute, shed.mute, State.rideHeld, State.hold_mute]
    simp [State.rideReady]
  · rw [State.dimCap_last, shed.last, State.rideHeld, State.hold_last]
    simp [State.rideReady]
  · rw [State.dimCap_port, shed.port, State.rideHeld, State.hold_port]
    simp [State.rideReady]
  · rw [State.dimCap_loader, shed.loader, State.rideHeld, State.hold_loader]
    simp [State.rideReady]

theorem State.enterRiding_dim (s : State) :
    s.enterRiding.dim =
      if s.settings.roles.backlight then
        { s.dim with setting := .cap, capLimit := s.dim.ceiling.capLimit }
      else s.dim := by
  have shed := s.rideHeld.shedAll_frame
  have dim : s.rideHeld.dim = s.dim := by
    have started : ∀ u : State, u.seq.mode = .riding → u.holdUpStart.dim = u.dim := fun u mode =>
      State.holdUpStart_dim_of_not_cut (.inr (.inr (by simp [mode])))
    rw [State.rideHeld, State.hold_dim]
    show s.rideReady.dim = s.dim
    rw [State.rideReady, State.stopOnTimers_dim, State.pausePhase_dim, started _ (by simp),
      State.claimNow_dim]
  have settings : s.rideHeld.settings = s.settings := by
    rw [State.rideHeld, State.hold_settings]
    simp [State.rideReady]
  rw [State.enterRiding_eq]
  unfold State.dimCap State.hasDimming
  rw [shed.settings, settings, shed.dim, dim]
  split
  · rfl
  · rw [shed.dim, dim]

/-- The phase timer is paused; an expiry at the same tick comes before or after (R42, log 29). -/
theorem State.rideReady_timers_of_not_due (h : s.timers.phase ≠ .running 0) :
    s.rideReady.freeIndex = s.freeIndex ∧
      s.rideReady.timers =
        { s.timers with phase := s.timers.phase.pause, quiet := .stopped, mute := .stopped } := by
  have due : s.timers.phase.due = false := by
    rw [← Bool.not_eq_true, OneShot.due_iff]
    exact h
  rw [State.rideReady, State.pausePhase_of_not_due _ (by simpa using due)]
  simp [State.stopOnTimers]

theorem State.rideReady_timers_of_due (h : s.timers.phase = .running 0) :
    s.rideReady.freeIndex = s.freeIndex + 1 ∧
      (s.rideReady.timers =
          { s.timers with phase := .paused 0, quiet := .stopped, mute := .stopped } ∨
        s.rideReady.timers = { s.timers with quiet := .stopped, mute := .stopped }) := by
  have due : s.timers.phase.due = true := (OneShot.due_iff _).mpr h
  unfold State.rideReady
  rcases State.pausePhase_of_due (({ s with
      seq :=
        { s.seq with
          mode := .riding, returnMode := s.seq.mode.toReturn,
          recovered := false } }).claimNow.holdUpStart) (by simpa using due) with paused | paused
  · rw [paused]
    simp [State.stopOnTimers, State.nextFree]
  · rw [paused]
    simp [State.stopOnTimers, State.nextFree, h, OneShot.pause]

/-! ### The rails of a ride-through -/

/-- The rail held and, where urgency has set in, urged (R12, R121). -/
theorem State.rail_rideHeld (s : State) (i : Fin 8) :
    s.rideHeld.rail i =
      (if s.holdUp.running then s.rail i else s.urgedRail i).pauseTimed := by
  have claimed : ∀ u : State, u.claimNow.rail i = u.rail i ∧
      u.claimNow.urgedRail i = u.urgedRail i := fun u => by
    have rail : u.claimNow.rail i = u.rail i := State.rail_congr (by simp) i
    exact ⟨rail, State.urgedRail_congr (by simp) (by simp) rail⟩
  rw [State.rideHeld, State.rail_hold]
  have ready : s.rideReady.rail i = if s.holdUp.running then s.rail i else s.urgedRail i := by
    have same : ∀ u : State, u.pausePhase.stopOnTimers.rail i = u.rail i :=
      fun u => State.rail_congr (by simp) i
    rw [State.rideReady, same, State.rail_holdUpStart, (claimed _).1, (claimed _).2,
      State.claimNow_holdUp]
    rfl
  exact congrArg Rail.pauseTimed ready

theorem RailState.leaving.not_serving {r : RailState} (h : r.leaving) : r.serving = false := by
  rcases h with rfl | rfl | rfl | rfl | rfl <;> rfl

/-- The enable is applied alike whatever the rail timer does. -/
theorem Rail.applyEnable_timer (e : RailEntry) (level : Bool) (r : Rail) (timer : OneShot) :
    { r with timer := timer }.applyEnable e level = { r.applyEnable e level with timer := timer } := by
  unfold Rail.applyEnable
  split <;> rfl

theorem Rail.pauseTimed_timer (r : Rail) : ∃ timer, r.pauseTimed = { r with timer := timer } := by
  unfold Rail.pauseTimed
  split
  · exact ⟨_, rfl⟩
  · exact ⟨r.timer, rfl⟩

theorem Rail.pauseTimed_state (r : Rail) : r.pauseTimed.state = r.state := by
  unfold Rail.pauseTimed
  split <;> rfl

/-- The onset of urgency takes no rail that serves and lets none serve. -/
theorem State.urgedRail_serving (s : State) (i : Fin 8) :
    (s.urgedRail i).state.serving = (s.rail i).state.serving := by
  rcases (s.urgedRail_state i).2 with same | ⟨before, after⟩
  · rw [same]
  · rw [before.not_serving, after.not_serving]

theorem State.urgedRail_of_serving (h : (s.rail i).state.serving = true) :
    s.urgedRail i = s.rail i := by
  rcases (s.urgedRail_state i).2 with same | ⟨before, -⟩
  · exact same
  · rw [before.not_serving] at h
    cases h

/-- The onset of urgency makes no rail RAMPING or SETTLING. -/
theorem State.urgedRail_not_timed {st : RailState} (h : (s.rail i).state ≠ st)
    (timed : st = .ramping ∨ st = .settling) : (s.urgedRail i).state ≠ st := by
  rcases (s.urgedRail_state i).2 with same | ⟨-, after⟩
  · rwa [same]
  · rintro rfl
    rcases timed with st | st <;> simp [st, RailState.leaving] at after

theorem State.rideHeld_sheds (s : State) (i : Fin 8) : s.rideHeld.sheds i ↔ s.sheds i := by
  have entry : s.rideHeld.entry i = s.entry i :=
    State.entry_congr (by rw [State.rideHeld, State.hold_table]; simp [State.rideReady]) i
  have serving : (s.rideHeld.rail i).state.serving = (s.rail i).state.serving := by
    rw [State.rail_rideHeld, Rail.pauseTimed_state]
    split
    · rfl
    · exact s.urgedRail_serving i
  simp only [State.sheds, entry, serving]

theorem State.rail_enterRiding_of_sheds (h : s.sheds i) :
    s.enterRiding.rail i =
      { (s.rail i).applyEnable (s.entry i) false with
        state := .shed, timer := .stopped, restoring := false, requested := false } := by
  have entry : s.rideHeld.entry i = s.entry i :=
    State.entry_congr (by rw [State.rideHeld, State.hold_table]; simp [State.rideReady]) i
  have urged : s.urgedRail i = s.rail i := State.urgedRail_of_serving h.2.2
  have held : s.rideHeld.rail i = (s.rail i).pauseTimed := by
    rw [State.rail_rideHeld, urged, ite_self]
  rw [State.enterRiding_eq, State.rail_congr (State.dimCap_rails _),
    State.rail_forEach_shed_of_sheds ((s.rideHeld_sheds i).mpr h), held, entry]
  obtain ⟨timer, paused⟩ := (s.rail i).pauseTimed_timer
  rw [paused, Rail.applyEnable_timer]

theorem State.rail_enterRiding_of_not_sheds (h : ¬s.sheds i) :
    s.enterRiding.rail i =
      (if s.holdUp.running then s.rail i else s.urgedRail i).pauseTimed := by
  rw [State.enterRiding_eq, State.rail_congr (State.dimCap_rails _),
    State.rail_forEach_shed_of_not fun sheds => h ((s.rideHeld_sheds i).mp sheds),
    State.rail_rideHeld]

/-! ### The SAG that brings a ride-through -/

theorem State.leadAlreadyHeld_link (s : State) (own : Bool) :
    (s.leadAlreadyHeld own).notices.link = s.notices.link := by
  rw [State.leadAlreadyHeld_eq]

theorem State.leadAlreadyHeld_cur (s : State) (own : Bool) :
    (s.leadAlreadyHeld own).cur = s.cur := by
  rw [State.leadAlreadyHeld_eq]

theorem State.leadAlreadyHeld_commit (s : State) (own : Bool) :
    (s.leadAlreadyHeld own).pendingOf .commit = s.notices.outbound.commit := by
  rw [State.leadAlreadyHeld_eq]
  rfl

theorem State.leadAlreadyHeld_mainsOk (mine : own = true) (held : s.front.mainsHeld = true) :
    (s.leadAlreadyHeld own).pendingOf .mainsOk = some ⟨BitVec.ofNat 8 s.seq.phase, 0, 0⟩ := by
  rw [State.leadAlreadyHeld_eq]
  exact if_pos ⟨mine, held⟩

/-- The station that has counted a SAG and judged COMMIT CHATTER (R133, R140). -/
def State.sagBooked (s : State) (n : Notice) (own : Bool) : State :=
  { s.sagLed n own with
    notices := { s.notices with outbound := s.chattered (satInc s.seq.sagCount) } }

theorem State.sagBooked_eq (s : State) (n : Notice) (own : Bool) :
    (s.sagLed n own).checkChatter = s.sagBooked n own := by
  rw [State.checkChatter_eq]
  rfl

/-- A SAG in ROLLCALL, RISING or ON (R133, R134). -/
theorem State.onSag_of_active
    (mode : s.seq.mode = .rollcall ∨ s.seq.mode = .rising ∨ s.seq.mode = .on) :
    s.onSag n own = (s.sagBooked n own).enterRiding.leadAlreadyHeld own := by
  have books : (s.countTakenSag.setLead n own).checkChatter = s.sagBooked n own :=
    s.sagBooked_eq n own
  unfold State.onSag
  rcases mode with m | m | m
  · rw [m]; dsimp only; rw [books]
  · rw [m]; dsimp only; rw [books]
  · rw [m]; dsimp only; rw [books]

end Riding

end Sys2Proof.Machine

namespace Sys2Proof
open Machine

/-- Settles O43. -/
theorem sagBeginsARideThrough : Obligations.SagBeginsARideThrough := by
  unfold Obligations.SagBeginsARideThrough
  intro s n own hold takes kind active noRise u sheds
  let b : State := u.sagBooked n own
  have acts : u.onSag n own = b.enterRiding.leadAlreadyHeld own :=
    State.onSag_of_active (by simpa [u] using active)
  have seq : b.enterRiding.seq =
      { u.seq with
        mode := .riding, returnMode := s.seq.mode.toReturn, recovered := false
        sagCount := satInc s.seq.sagCount, lead := some n.sender, mainsReturned := false
        owed := own, budgetPassed := false
        signature := crc16Byte s.seq.signature 0x40 } := by
    rw [State.enterRiding_seq]
    simp [b, State.sagBooked, State.sagLed, u]
  have notices : b.enterRiding.notices =
      { u.notices with outbound := u.chattered (satInc s.seq.sagCount) } := by
    rw [State.enterRiding_notices]
    simp [b, State.sagBooked, u]
  obtain ⟨line, timers, freeIndex, table, front, mute, last, port, loader⟩ := b.enterRiding_frame
  obtain ⟨ride, held, solo⟩ := b.enterRiding_ctl
  have rail : ∀ i, b.rail i = s.rail i :=
    State.rail_congr (by simp [b, State.sagBooked, State.sagLed, u])
  have entry : ∀ i, b.entry i = s.entry i :=
    State.entry_congr (by simp [b, State.sagBooked, State.sagLed, u])
  have sheds_iff : ∀ i, b.sheds i ↔ sheds i := fun i => by
    simp only [State.sheds, rail, entry, sheds]
  have running : b.holdUp.running = s.holdUp.running := by simp [b, State.sagBooked, State.sagLed, u]
  have urged : ∀ i, b.urgedRail i = s.urgedRail i := fun i =>
    State.urgedRail_congr (by simp [b, State.sagBooked, State.sagLed, u])
      (by simp [b, State.sagBooked, State.sagLed, u]) (rail i)
  have line_b : b.line = u.line := rfl
  have timers_b : b.timers = s.timers := by simp [b, State.sagBooked, State.sagLed, u]
  have free_b : b.freeIndex = s.freeIndex := by simp [b, State.sagBooked, State.sagLed, u]
  let t := b.enterRiding.leadAlreadyHeld own
  have seq_t : t.seq = _ := (State.leadAlreadyHeld_seq b.enterRiding own).trans seq
  have line_t : t.line = b.claimNow.line := (State.leadAlreadyHeld_line b.enterRiding own).trans line
  have timers_t : t.timers = b.rideReady.timers :=
    (State.leadAlreadyHeld_timers b.enterRiding own).trans timers
  have freeIndex_t : t.freeIndex = b.rideReady.freeIndex :=
    (State.leadAlreadyHeld_freeIndex b.enterRiding own).trans freeIndex
  have ctl_t : t.ctl = b.enterRiding.ctl := State.leadAlreadyHeld_ctl b.enterRiding own
  have cur_t : t.cur = b.cur :=
    (State.leadAlreadyHeld_cur b.enterRiding own).trans b.enterRiding_cur
  have rail_t : ∀ i, t.rail i = b.enterRiding.rail i :=
    State.rail_congr (State.leadAlreadyHeld_rails b.enterRiding own)
  have rests : t.conclude = t := by
    refine State.conclude_of_resting ?_ ?_ ?_
    · rw [seq_t]
      simp
    · simp [State.canRelease, State.releaseCondition, seq_t]
    · rw [State.leadAlreadyHeld_link, notices]
      simp [u]
  refine ⟨t, (State.take_eq takes kind noRise acts).trans (congrArg Host.Outcome.next rests),
    seq_t, ?_, fun claimed => ?_, ?_, fun waits => ?_, fun due => ?_, ?_, ?_, ?_, ?_, ?_, ?_,
    fun limit => ?_, fun mine mains => ?_, fun i s_i => ?_, fun i timed stays => ?_,
    fun i ramps settles stays => ?_, ?_, ?_, ?_, ?_, ?_, ?_, ?_⟩
  · rw [line_t]
    cases claimed : b.line.claimed with
    | true => rw [State.claimNow_of_claimed claimed, claimed]
    | false => rw [State.claimNow_line_of_free claimed]; rfl
  · rw [line_t, State.claimNow_of_claimed]
    · rw [line_b]
    · rw [line_b]
      simpa [u] using claimed
  · rw [show t.holdUp = _ from State.leadAlreadyHeld_holdUp _ own, State.enterRiding_holdUp]
    simp [HoldUp.started, b, State.sagBooked, State.sagLed, u]
  · rw [timers_t, freeIndex_t, ← timers_b, ← free_b]
    exact b.rideReady_timers_of_not_due (by rw [timers_b]; exact waits)
  · rw [timers_t, freeIndex_t, ← timers_b, ← free_b]
    exact b.rideReady_timers_of_due (by rw [timers_b]; exact due)
  · rw [ctl_t, ride]
  · rw [ctl_t, held]
  · rw [ctl_t, solo]
    simp [b, State.sagBooked, State.sagLed, u]
  · rw [cur_t]
    simp [b, State.sagBooked, State.sagLed, u]
  · rw [cur_t]
    simp [b, State.sagBooked, State.sagLed, u]
  · rw [show t.dim = _ from State.leadAlreadyHeld_dim _ own, State.enterRiding_dim]
    simp [b, State.sagBooked, State.sagLed, u]
  · rw [seq_t] at limit
    rw [show t.pendingOf .commit = _ from State.leadAlreadyHeld_commit _ own, notices]
    exact (if_pos (by simpa [u] using limit)).trans (by simp [u])
  · have front' : b.enterRiding.front.mainsHeld = true := by
      rw [front]
      simpa [b, State.sagBooked, State.sagLed, u] using mains
    rw [show t.pendingOf .mainsOk = _ from State.leadAlreadyHeld_mainsOk mine front', seq]
    simp [u]
  · rw [rail_t, State.rail_enterRiding_of_sheds ((sheds_iff i).mpr s_i), rail, entry]
  · rw [rail_t, State.rail_enterRiding_of_not_sheds fun h => stays ((sheds_iff i).mp h), running,
      rail, urged, State.urgedRail_of_serving, ite_self, Rail.pauseTimed_of_timed timed]
    rcases timed with st | st <;> rw [st] <;> rfl
  · rw [rail_t, State.rail_enterRiding_of_not_sheds fun h => stays ((sheds_iff i).mp h), running,
      rail, urged]
    exact Rail.pauseTimed_of_not (by split; exacts [ramps, State.urgedRail_not_timed ramps (.inl rfl)])
      (by split; exacts [settles, State.urgedRail_not_timed settles (.inr rfl)])
  · rw [State.leadAlreadyHeld_settings, State.enterRiding_settings]
    simp [b, State.sagBooked, State.sagLed, u]
  · rw [State.leadAlreadyHeld_table, table]
    simp [b, State.sagBooked, State.sagLed, u]
  · rw [State.leadAlreadyHeld_front, front]
    simp [b, State.sagBooked, State.sagLed, u]
  · rw [State.leadAlreadyHeld_mute, mute]
    simp [b, State.sagBooked, State.sagLed, u]
  · rw [State.leadAlreadyHeld_last, last]
    simp [b, State.sagBooked, State.sagLed, u]
  · rw [State.leadAlreadyHeld_port, port]
    simp [b, State.sagBooked, State.sagLed, u]
  · rw [State.leadAlreadyHeld_loader, loader]
    simp [b, State.sagBooked, State.sagLed, u]

end Sys2Proof

/-! Entry to DESCENDING (R117, R118, R143, R152). -/

namespace Sys2Proof.Machine

section Descending

variable {s t x : State} {i : Fin 8} {c : Cause}

/-! ### The end of a ride-through -/

theorem State.resume_ctl (s : State) : s.resume.ctl = { s.ctl with held := false } :=
  State.forEachRail_ctl (f := fun i t => t.modifyRail i Rail.resumeTimed) (fun _ _ => rfl)
    { s with ctl := { s.ctl with held := false } }

theorem State.clearRide_alike (s : State) :
    s.clearRide.ctl.held = s.ctl.held ∧ s.clearRide.ctl.solo = s.ctl.solo := by
  by_cases ride : s.ctl.ride = true
  · have cleared : s.clearRide =
        ({ s with ctl := { s.ctl with ride := false } }).forEachRail State.rideEndRail :=
      if_pos ride
    have alike : Alike { s with ctl := { s.ctl with ride := false } } s.clearRide := by
      rw [cleared]
      exact .forEachRail RailTurn.rideEndRail _
    exact ⟨alike.held, alike.solo⟩
  · rw [State.clearRide, if_neg ride]
    exact ⟨rfl, rfl⟩

/-- The station whose standing rail timers run on. -/
def State.runOn (s : State) : State := if s.ctl.held then s.resume else s

theorem State.endRide_eq (s : State) : s.endRide = s.runOn.clearRide := rfl

theorem State.runOn_ctl (s : State) :
    s.runOn.ctl.held = false ∧ s.runOn.ctl.ride = s.ctl.ride ∧ s.runOn.ctl.solo = s.ctl.solo := by
  unfold State.runOn
  split
  · rw [State.resume_ctl]
    exact ⟨rfl, rfl, rfl⟩
  case isFalse free => exact ⟨by simpa using free, rfl, rfl⟩

theorem State.endRide_ctl (s : State) :
    s.endRide.ctl.ride = false ∧ s.endRide.ctl.held = false ∧
      s.endRide.ctl.solo = s.ctl.solo := by
  obtain ⟨held, -, solo⟩ := s.runOn_ctl
  obtain ⟨held', solo'⟩ := s.runOn.clearRide_alike
  exact ⟨State.clearRide_ride _, held'.trans held, solo'.trans solo⟩

/-- Rail `i` with its timer running on where it stands. -/
def State.ranOnRail (s : State) (i : Fin 8) : Rail :=
  if s.ctl.held then (s.rail i).resumeTimed else s.rail i

theorem State.rail_runOn (s : State) (i : Fin 8) : s.runOn.rail i = s.ranOnRail i := by
  unfold State.runOn State.ranOnRail
  split
  · exact s.rail_resume i
  · rfl

theorem State.runOn_frame (s : State) :
    s.runOn.table = s.table ∧ s.runOn.front = s.front := by
  unfold State.runOn
  split <;> simp

theorem Rail.resumeTimed_state (r : Rail) : r.resumeTimed.state = r.state := by
  unfold Rail.resumeTimed
  split <;> rfl

theorem State.ranOnRail_state (s : State) (i : Fin 8) :
    (s.ranOnRail i).state = (s.rail i).state := by
  unfold State.ranOnRail
  split
  · exact Rail.resumeTimed_state _
  · rfl

theorem State.ranOnRail_of_not_timed (ramps : (s.rail i).state ≠ .ramping)
    (settles : (s.rail i).state ≠ .settling) : s.ranOnRail i = s.rail i := by
  unfold State.ranOnRail
  rw [Rail.resumeTimed_of_not ramps settles, ite_self]

theorem State.ranOnRail_of_timed (h : (s.rail i).state = .ramping ∨ (s.rail i).state = .settling) :
    s.ranOnRail i =
      { s.rail i with
        timer := if s.ctl.held then (s.rail i).timer.resume else (s.rail i).timer } := by
  unfold State.ranOnRail
  rw [Rail.resumeTimed_of_timed h]
  split <;> rfl

/-- A rail that runs on differs from the rail that stood in its timer alone. -/
theorem State.ranOnRail_timer (s : State) (i : Fin 8) :
    ∃ timer, s.ranOnRail i = { s.rail i with timer := timer } := by
  unfold State.ranOnRail Rail.resumeTimed
  repeat' split
  · exact ⟨_, rfl⟩
  · exact ⟨(s.rail i).timer, rfl⟩
  · exact ⟨(s.rail i).timer, rfl⟩

theorem State.runOn_dips : s.runOn.dips i ↔ s.dips i := by
  simp only [State.dips, State.rail_runOn, State.ranOnRail_state,
    State.zone_congr s.runOn_frame.2]

theorem State.rail_endRide_of_dips (ride : s.ctl.ride = true) (h : s.dips i) :
    s.endRide.rail i = s.dippedRail i := by
  have stands : s.runOn.rail i = s.rail i := by
    rw [State.rail_runOn, State.ranOnRail_of_not_timed] <;> simp [h.1]
  rw [State.endRide_eq,
    State.rail_clearRide_of_dips (s.runOn_ctl.2.1.trans ride) (State.runOn_dips.mpr h),
    State.dippedRail, State.fallenRail_congr s.runOn_frame.1 s.runOn_frame.2 stands]
  rfl

theorem State.rail_endRide_of_not_dips (h : ¬(s.ctl.ride = true ∧ s.dips i)) :
    s.endRide.rail i = s.ranOnRail i := by
  rw [State.endRide_eq, State.rail_clearRide_of_not_dips, State.rail_runOn]
  rintro ⟨ride, dips⟩
  exact h ⟨s.runOn_ctl.2.1.symm.trans ride, State.runOn_dips.mp dips⟩

/-! ### The stages of an entry to DESCENDING -/

/-- The station in DESCENDING, before the dimming channel and the rails of phase N. -/
def State.descentBegun (s : State) (c : Cause) : State :=
  (((({ s with
      seq :=
        { s.seq with
          mode := .descending, phase := s.settings.phaseCount, cause := c,
          returnMode := .none, recovered := false } }).endRide.claimNow).startPhase
    .phaseLimit).stopOnTimers).assertMute

/-- The station in DESCENDING with DIM_OUT dark, before the rails of phase N. -/
def State.descentDark (s : State) (c : Cause) : State :=
  if (s.descentBegun c).urgent then (s.descentBegun c).dimCut else (s.descentBegun c).dimZeroDark

/-- The station in DESCENDING, before a BREAK for a passed budget (R143). -/
def State.descended (s : State) (c : Cause) : State :=
  ((s.descentDark c).switchOffPhase s.settings.phaseCount).setOutcome c.outcome

theorem State.enterDescending_eq (s : State) (c : Cause) :
    s.enterDescending c =
      if s.seq.mode == .riding && s.seq.budgetPassed then (s.descended c).issueBreak
      else s.descended c := rfl

theorem State.enterDescending_of {P : State → Prop} (h : P (s.descended c))
    (breaks : P (s.descended c) → P (s.descended c).issueBreak) : P (s.enterDescending c) := by
  rw [State.enterDescending_eq]
  split
  · exact breaks h
  · exact h

theorem State.assertMute_mute (s : State) :
    s.assertMute.mute = (s.settings.roles.panel || s.mute) := by
  unfold State.assertMute
  split <;> simp [*]

/-- What the first stage of a descent does besides the rails. -/
theorem State.descentBegun_facts (s : State) (c : Cause) :
    let t := s.descentBegun c
    t.line = s.claimNow.line ∧ t.ctl.ride = false ∧ t.ctl.held = false ∧
      t.ctl.solo = s.ctl.solo ∧
      t.timers =
        { s.timers with
          phase := .running (s.settings.phaseLimit * 10000), phaseSetting := .phaseLimit
          quiet := .stopped, mute := .stopped } ∧
      t.mute = (s.settings.roles.panel || s.mute) ∧ t.holdUp = s.holdUp ∧ t.dim = s.dim ∧
      t.table = s.table ∧ t.front = s.front ∧ t.settings = s.settings ∧ t.last = s.last ∧
      t.port = s.port ∧ t.loader = s.loader ∧ t.notices.link = s.notices.link ∧
      t.notices.breakDrive = s.notices.breakDrive ∧
      ∃ later, t.cur = { s.cur with laterFaults := later } := by
  let d : State :=
    { s with
      seq :=
        { s.seq with
          mode := .descending, phase := s.settings.phaseCount, cause := c,
          returnMode := .none, recovered := false } }
  have line : d.endRide.claimNow.line = s.claimNow.line := by
    cases claimed : s.line.claimed with
    | true =>
      rw [State.claimNow_of_claimed (by simpa [d] using claimed),
        State.claimNow_of_claimed claimed]
      simp [d]
    | false =>
      rw [State.claimNow_line_of_free (by simpa [d] using claimed),
        State.claimNow_line_of_free claimed]
  have ctl : (s.descentBegun c).ctl = d.endRide.ctl := by simp [State.descentBegun, d]
  have cur : (s.descentBegun c).cur = d.endRide.cur := by simp [State.descentBegun, d]
  obtain ⟨ride, held, solo⟩ := d.endRide_ctl
  obtain ⟨later, laterFaults⟩ := (RailFrame.endRide d).cur
  refine ⟨?_, ctl ▸ ride, ctl ▸ held, ctl ▸ solo, ?_, ?_, by simp [State.descentBegun],
    by simp [State.descentBegun], by simp [State.descentBegun], by simp [State.descentBegun],
    by simp [State.descentBegun], by simp [State.descentBegun], by simp [State.descentBegun],
    by simp [State.descentBegun], by simp [State.descentBegun], by simp [State.descentBegun],
    later, cur.trans laterFaults⟩
  · rw [← line]
    simp [State.descentBegun, d]
  · simp [State.descentBegun, State.startPhase, State.stopOnTimers]
    rfl
  · rw [State.descentBegun, State.assertMute_mute]
    simp

/-! ### The dimming channel goes dark -/

theorem State.descentBegun_urgent (s : State) (c : Cause) :
    (s.descentBegun c).urgent = s.holdUp.running := by
  obtain ⟨-, -, -, -, -, -, holdUp, -⟩ := s.descentBegun_facts c
  simp [State.urgent, holdUp]

theorem State.descentDark_of_urgent (urgent : s.holdUp.running = true) :
    s.descentDark c = (s.descentBegun c).dimCut :=
  if_pos ((s.descentBegun_urgent c).trans urgent)

theorem State.descentDark_of_calm (calm : s.holdUp.running = false) :
    s.descentDark c = (s.descentBegun c).dimZeroDark :=
  if_neg (by simp [s.descentBegun_urgent c, calm])

theorem State.dimZeroDark_dim (s : State) :
    s.dimZeroDark.dim =
      if s.settings.roles.backlight then
        { s.dim with setting := .zero, active := false, activeLeft := none }
      else s.dim := by
  unfold State.dimZeroDark State.hasDimming
  split <;> rfl

/-- Everything but the dimming channel and the rails is as the first stage left it. -/
theorem State.descentDark_frame (s : State) (c : Cause) :
    let t := s.descentDark c
    let d := s.descentBegun c
    t.line = d.line ∧ t.ctl = d.ctl ∧ t.timers = d.timers ∧ t.mute = d.mute ∧
      t.holdUp = d.holdUp ∧ t.table = d.table ∧ t.front = d.front ∧ t.settings = d.settings ∧
      t.last = d.last ∧ t.port = d.port ∧ t.loader = d.loader ∧ t.notices = d.notices ∧
      t.cur = d.cur := by
  dsimp only
  unfold State.descentDark
  split <;> simp

theorem State.descentDark_dim (s : State) (c : Cause) :
    (s.settings.roles.backlight = true →
      (s.descentDark c).dim.setting = .zero ∧ (s.descentDark c).dim.active = false ∧
        (s.descentDark c).dim.activeLeft = none) ∧
      (s.settings.roles.backlight = true → s.holdUp.running = true →
        (s.descentDark c).dim.ceiling = .limited 0) ∧
      (s.holdUp.running = false →
        (s.descentDark c).dim.ceiling = s.dim.ceiling ∧
          (s.descentDark c).dim.zeroReport = s.dim.zeroReport) := by
  obtain ⟨-, -, -, -, -, -, -, dim, -, -, settings, -⟩ := s.descentBegun_facts c
  cases running : s.holdUp.running with
  | true =>
    rw [State.descentDark_of_urgent running]
    have cut : s.settings.roles.backlight = true →
        (s.descentBegun c).dimCut.dim = s.dim.cut := fun backlight => by
      rw [State.dimCut_dim (by rw [settings, backlight]), dim]
    refine ⟨fun backlight => ?_, fun backlight _ => ?_, nofun⟩
    · rw [cut backlight]
      exact ⟨rfl, rfl, rfl⟩
    · rw [cut backlight]
      rfl
  | false =>
    rw [State.descentDark_of_calm running, State.dimZeroDark_dim, settings, dim]
    refine ⟨fun backlight => ?_, nofun, fun _ => ?_⟩
    · rw [if_pos backlight]
      exact ⟨rfl, rfl, rfl⟩
    · split <;> exact ⟨rfl, rfl⟩

/-! ### The rails of an entry to DESCENDING -/

/-- At the entry to DESCENDING, rail `i` takes DIP (R15). -/
def State.dipsAtEnd (s : State) (i : Fin 8) : Prop := s.ctl.ride = true ∧ s.dips i

theorem State.rail_descentBegun_of_dips (h : s.dipsAtEnd i) :
    (s.descentBegun c).rail i = s.dippedRail i := by
  have begun : ∀ d : State, d.ctl.ride = true → d.dips i →
      (((d.endRide.claimNow.startPhase .phaseLimit).stopOnTimers).assertMute).rail i =
        d.dippedRail i := fun d ride dips => by
    rw [← State.rail_endRide_of_dips ride dips]
    exact State.rail_congr (by simp) i
  exact begun _ h.1 h.2

theorem State.rail_descentBegun_of_not_dips (h : ¬s.dipsAtEnd i) :
    (s.descentBegun c).rail i = s.ranOnRail i := by
  have begun : ∀ d : State, ¬(d.ctl.ride = true ∧ d.dips i) →
      (((d.endRide.claimNow.startPhase .phaseLimit).stopOnTimers).assertMute).rail i =
        d.ranOnRail i := fun d calm => by
    rw [← State.rail_endRide_of_not_dips calm]
    exact State.rail_congr (by simp) i
  exact begun _ h

/-- The cut of an urgent descent lets rail `i` fall (R152, R20). -/
def State.fallsAtCut (s : State) (i : Fin 8) : Prop :=
  (s.rail i).state = .dimWait ∧ s.holdUp.running = true ∧ s.cutDarkens

theorem State.descentBegun_cutDarkens : (s.descentBegun c).cutDarkens ↔ s.cutDarkens := by
  obtain ⟨-, -, -, -, -, -, -, dim, -, -, settings, -⟩ := s.descentBegun_facts c
  simp only [State.cutDarkens, dim, settings]

/-- A fall is the same whatever the rail timer was. -/
theorem State.fallenRail_retimed (table : t.table = s.table) (front : t.front = s.front)
    (rail : ∃ timer, t.rail i = { s.rail i with timer := timer }) (urgent : Bool) :
    t.fallenRail i urgent = s.fallenRail i urgent := by
  obtain ⟨timer, rail⟩ := rail
  simp only [State.fallenRail, State.entry_congr table, State.zone_congr front, rail,
    Rail.applyEnable_timer]
  split <;> rfl

theorem State.rail_descentDark_of_falls (h : s.fallsAtCut i) :
    (s.descentDark c).rail i = s.fallenRail i true := by
  obtain ⟨waits, running, dark⟩ := h
  have calm : ¬s.dipsAtEnd i := fun dips => absurd (waits.symm.trans dips.2.1) (by simp)
  obtain ⟨-, -, -, -, -, -, -, -, table, front, -⟩ := s.descentBegun_facts c
  have begun : (s.descentBegun c).rail i = s.rail i := by
    rw [State.rail_descentBegun_of_not_dips calm, State.ranOnRail_of_not_timed] <;> simp [waits]
  rw [State.descentDark_of_urgent running,
    State.rail_dimCut_of_dimWait (State.descentBegun_cutDarkens.mpr dark) (by rw [begun, waits]),
    State.descentBegun_urgent, running, State.fallenRail_congr table front begun]

theorem State.rail_descentDark_other (h : ¬s.fallsAtCut i) :
    (s.descentDark c).rail i = (s.descentBegun c).rail i := by
  cases running : s.holdUp.running with
  | false =>
    rw [State.descentDark_of_calm running]
    exact State.rail_congr (by simp) i
  | true =>
    rw [State.descentDark_of_urgent running, State.rail_dimCut_other]
    rintro ⟨dark, waits⟩
    by_cases dips : s.dipsAtEnd i
    · rw [State.rail_descentBegun_of_dips dips] at waits
      have falls := s.fallenRail_state i true
      rw [State.dippedRail] at waits
      rcases falls with st | st <;> simp [st] at waits
    · rw [State.rail_descentBegun_of_not_dips dips, State.ranOnRail_state] at waits
      exact h ⟨waits, running, State.descentBegun_cutDarkens.mp dark⟩

theorem State.descentDark_entry (s : State) (c : Cause) (i : Fin 8) :
    (s.descentDark c).entry i = s.entry i := by
  obtain ⟨-, -, -, -, -, -, -, -, table, -⟩ := s.descentBegun_facts c
  obtain ⟨-, -, -, -, -, table', -⟩ := s.descentDark_frame c
  exact State.entry_congr (table'.trans table) i

theorem State.descentDark_inDownPhase {d : Nat} :
    (s.descentDark c).inDownPhase d i ↔ s.inDownPhase d i := by
  simp only [State.inDownPhase, State.descentDark_entry]

/-- A rail named by the down phase of the entry to DESCENDING. -/
def State.inTopPhase (s : State) (i : Fin 8) : Prop := s.inDownPhase s.settings.phaseCount i

theorem State.rail_descended (h : s.inTopPhase i) :
    (s.descended c).rail i = (s.descentDark c).switchedOffRail i := by
  rw [State.descended, State.rail_congr (State.setOutcome_rails _ _)]
  exact State.rail_switchOffPhase (State.descentDark_inDownPhase.mpr h)

theorem State.rail_descended_other (h : ¬s.inTopPhase i) :
    (s.descended c).rail i = (s.descentDark c).rail i := by
  rw [State.descended, State.rail_congr (State.setOutcome_rails _ _)]
  exact State.rail_switchOffPhase_other fun down => h (State.descentDark_inDownPhase.mp down)

theorem State.switchedOffRail_of_leaving (h : (s.rail i).state.leaving) :
    s.switchedOffRail i = s.rail i := by
  unfold State.switchedOffRail
  rcases h with st | st | st | st | st <;> simp only [st]

/-- A rail that leaves already goes on as it is. -/
theorem State.rail_descended_of_leaving (h : ((s.descentDark c).rail i).state.leaving) :
    (s.descended c).rail i = (s.descentDark c).rail i := by
  by_cases top : s.inTopPhase i
  · rw [State.rail_descended top, State.switchedOffRail_of_leaving h]
  · exact State.rail_descended_other top

theorem State.rail_descended_of_dips (h : s.dipsAtEnd i) :
    (s.descended c).rail i = s.dippedRail i := by
  have stays : ¬s.fallsAtCut i := fun falls => absurd (falls.1.symm.trans h.2.1) (by simp)
  have dark : (s.descentDark c).rail i = s.dippedRail i := by
    rw [State.rail_descentDark_other stays, State.rail_descentBegun_of_dips h]
  rw [State.rail_descended_of_leaving, dark]
  rw [dark]
  exact s.fallenRail_leaving i true

theorem State.rail_descended_of_falls (h : s.fallsAtCut i) :
    (s.descended c).rail i = s.fallenRail i true := by
  have dark : (s.descentDark c).rail i = s.fallenRail i true := State.rail_descentDark_of_falls h
  rw [State.rail_descended_of_leaving, dark]
  rw [dark]
  exact s.fallenRail_leaving i true

theorem State.rail_descentDark_of_rest (calm : ¬s.dipsAtEnd i) (stays : ¬s.fallsAtCut i) :
    (s.descentDark c).rail i = s.ranOnRail i := by
  rw [State.rail_descentDark_other stays, State.rail_descentBegun_of_not_dips calm]

/-- What a switch off takes (R8). -/
def RailState.takesOff (r : RailState) : Prop :=
  r.serving = true ∨ r = .armedOn ∨ r = .shed

theorem RailState.leaving_of_not_takesOff {r : RailState} (h : ¬r.takesOff) : r.leaving := by
  cases r <;> simp_all [RailState.takesOff, RailState.leaving, RailState.serving]

/-- A rail that the switch off does not take runs on. -/
theorem State.rail_descended_of_rest (calm : ¬s.dipsAtEnd i) (stays : ¬s.fallsAtCut i)
    (h : ¬(s.inTopPhase i ∧ (s.rail i).state.takesOff)) :
    (s.descended c).rail i = s.ranOnRail i := by
  have dark : (s.descentDark c).rail i = s.ranOnRail i := State.rail_descentDark_of_rest calm stays
  by_cases top : s.inTopPhase i
  · rw [State.rail_descended_of_leaving, dark]
    rw [dark, State.ranOnRail_state]
    exact RailState.leaving_of_not_takesOff fun takes => h ⟨top, takes⟩
  · rw [State.rail_descended_other top, dark]

theorem State.rail_descended_of_waiting (top : s.inTopPhase i)
    (st : (s.rail i).state = .armedOn ∨ (s.rail i).state = .shed) :
    (s.descended c).rail i = (s.rail i).rests := by
  have calm : ¬s.dipsAtEnd i := fun dips => by
    rcases st with st | st <;> exact absurd (st.symm.trans dips.2.1) (by simp)
  have stays : ¬s.fallsAtCut i := fun falls => by
    rcases st with st | st <;> exact absurd (st.symm.trans falls.1) (by simp)
  have dark : (s.descentDark c).rail i = s.rail i := by
    rw [State.rail_descentDark_of_rest calm stays, State.ranOnRail_of_not_timed] <;>
      rcases st with st | st <;> simp [st]
  rw [State.rail_descended top]
  unfold State.switchedOffRail
  rw [dark]
  rcases st with st | st <;> simp only [st]

/-- A serving rail of the down phase waits for blanking or dimming, or falls (R8). -/
theorem State.rail_descended_of_serving (top : s.inTopPhase i) (calm : ¬s.dipsAtEnd i)
    (serves : (s.rail i).state.serving = true) :
    let waits :=
      { s.rail i with timer := .stopped, restoring := false, requested := false }
    (s.descended c).rail i =
      if (s.entry i).blankAligned = true ∧ s.urgent = false ∧ s.ctl.solo = false then
        { waits with state := .armedOff }
      else if (s.entry i).dimGated = true ∧ s.urgent = false ∧ s.zeroReport = false then
        { waits with state := .dimWait }
      else s.fallenRail i s.urgent := by
  intro waits
  have stays : ¬s.fallsAtCut i := fun falls => by
    rw [falls.1] at serves
    cases serves
  have dark := State.rail_descentDark_of_rest (c := c) calm stays
  obtain ⟨timer, ran⟩ := s.ranOnRail_timer i
  obtain ⟨-, -, -, solo, -, -, holdUp, -, table, front, -⟩ := s.descentBegun_facts c
  obtain ⟨-, ctl, -, -, holdUp', table', front', -⟩ := s.descentDark_frame c
  obtain ⟨-, -, report⟩ := s.descentDark_dim c
  have urgent : (s.descentDark c).urgent = s.urgent :=
    State.urgent_congr (holdUp'.trans holdUp)
  have solo' : (s.descentDark c).ctl.solo = s.ctl.solo := by rw [ctl, solo]
  have falls : (s.descentDark c).fallenRail i s.urgent = s.fallenRail i s.urgent :=
    State.fallenRail_retimed (table'.trans table) (front'.trans front)
      ⟨timer, dark.trans ran⟩ _
  have zero : s.urgent = false → (s.descentDark c).zeroReport = s.zeroReport :=
    fun calm => (report calm).2
  have rail : (s.descentDark c).rail i = { s.rail i with timer := timer } := dark.trans ran
  have zeroes : ((s.entry i).dimGated = true ∧ s.urgent = false ∧
      (s.descentDark c).zeroReport = false) ↔
      ((s.entry i).dimGated = true ∧ s.urgent = false ∧ s.zeroReport = false) :=
    and_congr_right fun _ => and_congr_right fun calm => by rw [zero calm]
  have st : ((s.descentDark c).rail i).state = .ramping ∨
      ((s.descentDark c).rail i).state = .settling ∨ ((s.descentDark c).rail i).state = .good := by
    rw [rail]
    simpa [RailState.serving, or_assoc] using serves
  rw [State.rail_descended top, State.switchedOffRail_of_serving st, rail, urgent, solo', falls,
    State.descentDark_entry]
  simp only [zeroes, waits]

end Descending

end Sys2Proof.Machine

namespace Sys2Proof.Machine

section Notice

variable {s u x : State} {i : Fin 8} {c : Cause} {n : Notice} {own hold : Bool}

/-! ### An entry to DESCENDING, field by field -/

theorem State.enterDescending_rails (s : State) (c : Cause) :
    (s.enterDescending c).rails = (s.descended c).rails :=
  State.enterDescending_of (P := fun t => t.rails = (s.descended c).rails) rfl (by simp)

theorem State.switchOffPhase_ctl (s : State) (d : Nat) :
    (s.switchOffPhase d).ctl.ride = s.ctl.ride ∧ (s.switchOffPhase d).ctl.held = s.ctl.held ∧
      (s.switchOffPhase d).ctl.solo = s.ctl.solo := by
  have alike : Alike s (s.switchOffPhase d) := .forEachRail (RailTurn.switchOffIf d) s
  exact ⟨alike.ride, alike.held, alike.solo⟩

/-- Besides the sequence, the dimming channel and the rails (R117, R118, R143). -/
theorem State.descended_facts (s : State) (c : Cause) :
    let v := s.descended c
    v.line = s.claimNow.line ∧ v.ctl.ride = false ∧ v.ctl.held = false ∧
      v.timers =
        { s.timers with
          phase := .running (s.settings.phaseLimit * 10000), phaseSetting := .phaseLimit
          quiet := .stopped, mute := .stopped } ∧
      v.mute = (s.settings.roles.panel || s.mute) ∧ v.holdUp = s.holdUp ∧
      v.dim = (s.descentDark c).dim ∧
      v.settings = s.settings ∧ v.table = s.table ∧ v.front = s.front ∧ v.last = s.last ∧
      v.port = s.port ∧ v.loader = s.loader ∧
      ∃ later, v.cur = { s.cur with laterFaults := later, outcome := c.outcome } := by
  obtain ⟨line, ride, held, -, timers, mute, holdUp, -, table, front, settings, last, port,
    loader, -, -, later, cur⟩ := s.descentBegun_facts c
  obtain ⟨line', ctl', timers', mute', holdUp', table', front', settings', last', port', loader',
    -, cur'⟩ := s.descentDark_frame c
  obtain ⟨rideKept, heldKept, -⟩ :=
    (s.descentDark c).switchOffPhase_ctl s.settings.phaseCount
  refine ⟨?_, ?_, ?_, ?_, ?_, ?_, ?_, ?_, ?_, ?_, ?_, ?_, ?_, later, ?_⟩
  · simp [State.descended, line', line]
  · rw [State.descended, State.setOutcome_ctl, rideKept, ctl', ride]
  · rw [State.descended, State.setOutcome_ctl, heldKept, ctl', held]
  · simp [State.descended, timers', timers]
  · simp [State.descended, mute', mute]
  · simp [State.descended, holdUp', holdUp]
  · simp [State.descended]
  · simp [State.descended, settings', settings]
  · simp [State.descended, table', table]
  · simp [State.descended, front', front]
  · simp [State.descended, last', last]
  · simp [State.descended, port', port]
  · simp [State.descended, loader', loader]
  · simp [State.descended, State.setOutcome, cur', cur]

theorem State.enterDescending_facts (s : State) (c : Cause) :
    let v := s.enterDescending c
    v.line = s.claimNow.line ∧ v.ctl.ride = false ∧ v.ctl.held = false ∧
      v.timers =
        { s.timers with
          phase := .running (s.settings.phaseLimit * 10000), phaseSetting := .phaseLimit
          quiet := .stopped, mute := .stopped } ∧
      v.mute = (s.settings.roles.panel || s.mute) ∧ v.holdUp = s.holdUp ∧
      v.dim = (s.descentDark c).dim ∧
      v.settings = s.settings ∧ v.table = s.table ∧ v.front = s.front ∧ v.last = s.last ∧
      v.port = s.port ∧ v.loader = s.loader ∧
      ∃ later, v.cur = { s.cur with laterFaults := later, outcome := c.outcome } := by
  have facts := s.descended_facts c
  dsimp only at facts ⊢
  rw [State.enterDescending_eq]
  split
  · simpa only [State.issueBreak_line, State.issueBreak_ctl, State.issueBreak_timers,
      State.issueBreak_mute, State.issueBreak_holdUp, State.issueBreak_dim,
      State.issueBreak_settings, State.issueBreak_table, State.issueBreak_front,
      State.issueBreak_last, State.issueBreak_port, State.issueBreak_loader,
      State.issueBreak_cur] using facts
  · exact facts

/-- A budget passed in RIDING brings a BREAK at the entry to DESCENDING (R143). -/
theorem State.enterDescending_breaks (mode : s.seq.mode = .riding)
    (passed : s.seq.budgetPassed = true) (link : s.notices.link = .waiting)
    (free : s.notices.breakDrive = none) :
    (s.enterDescending c).notices.breakDrive = some 48 := by
  obtain ⟨-, -, -, -, -, -, -, -, -, -, -, -, -, -, begunLink, begunDrive, -⟩ :=
    s.descentBegun_facts c
  obtain ⟨-, -, -, -, -, -, -, -, -, -, -, notices, -⟩ := s.descentDark_frame c
  have link' : (s.descended c).notices.link = .waiting := by
    simp [State.descended, notices, begunLink, link]
  have free' : (s.descended c).notices.breakDrive = none := by
    simp [State.descended, notices, begunDrive, free]
  rw [State.enterDescending_eq, if_pos (by simp [mode, passed])]
  unfold State.issueBreak
  rw [link', free']
  rfl

/-! ### Before the entry -/

/-- The station `x` that enters DESCENDING for a notice taken in the station `u`, which is `s` at
the notice; `commits` says that a COMMIT has started the hold-up timer where it stood (R141). -/
structure DescentFrom (s u x : State) (commits : Bool) : Prop where
  rails : ∀ i, (commits = true ∧ s.holdUp.running = false → x.rail i = s.urgedRail i) ∧
    (¬(commits = true ∧ s.holdUp.running = false) → x.rail i = s.rail i)
  held : x.ctl.held = s.ctl.held
  ride : x.ctl.ride = s.ctl.ride
  solo : x.ctl.solo = s.ctl.solo
  settings : x.settings = s.settings
  table : x.table = s.table
  front : x.front = s.front
  timers : x.timers = s.timers
  mute : x.mute = s.mute
  dim : x.dim = s.dim
  line : x.line = u.line
  last : x.last = s.last
  port : x.port = s.port
  loader : x.loader = s.loader
  seq : ∃ g b, x.seq = { u.seq with signature := g, budgetPassed := b } ∧
    (s.holdUp.running = true → b = s.seq.budgetPassed)
  running : x.holdUp.running = (s.holdUp.running || commits)
  link : x.notices.link = .waiting
  breakDrive : x.notices.breakDrive = u.notices.breakDrive
  runNumber : x.cur.runNumber = s.cur.runNumber

@[simp] theorem State.checkClash_breakDrive (s : State) (n : Notice) (own : Bool) :
    (s.checkClash n own).notices.breakDrive = s.notices.breakDrive := by
  unfold State.checkClash State.recordClash State.queueStationFault
  dsimp only
  repeat' split
  all_goals simp

@[simp] theorem State.withdrawForTaken_breakDrive (s : State) (k : Kind) (own : Bool) :
    (s.withdrawForTaken k own).notices.breakDrive = s.notices.breakDrive := by
  unfold State.withdrawForTaken
  repeat' split
  all_goals rfl

@[simp] theorem State.atNotice_breakDrive (s : State) (n : Notice) (own hold : Bool) :
    (s.atNotice n own hold).notices.breakDrive = s.notices.breakDrive := by
  simp [State.atNotice]

theorem DescentFrom.notice (s : State) (n : Notice) (own hold : Bool) :
    DescentFrom s (s.atNotice n own hold) (s.atNotice n own hold) false where
  rails i := ⟨nofun, fun _ => State.atNotice_rail _ _ _ _ i⟩
  held := by simp
  ride := by simp
  solo := by simp
  settings := by simp
  table := by simp
  front := by simp
  timers := by simp
  mute := by simp
  dim := by simp
  line := rfl
  last := by simp
  port := by simp
  loader := by simp
  seq := ⟨(s.atNotice n own hold).seq.signature, (s.atNotice n own hold).seq.budgetPassed, rfl,
    fun _ => State.atNotice_budgetPassed _ _ _ _⟩
  running := by simp
  link := by simp
  breakDrive := rfl
  runNumber := by simp

/-- A change of the record alone. -/
theorem DescentFrom.of_cur (h : DescentFrom s u x false) {r : RunRecord}
    (run : r.runNumber = x.cur.runNumber) : DescentFrom s u { x with cur := r } false :=
  { h with runNumber := run.trans h.runNumber, rails := h.rails }

theorem State.recordFault_eq (s : State) (n : Notice) :
    ∃ r : RunRecord, s.recordFault n = { s with cur := r } ∧ r.runNumber = s.cur.runNumber := by
  unfold State.recordFault
  split
  · exact ⟨_, rfl, rfl⟩
  · exact ⟨_, rfl, rfl⟩

/-- The station that has taken a COMMIT, before the hold-up timer starts (R141). -/
def State.committed (s : State) (n : Notice) : State :=
  { s with
    cur :=
      { s.cur with
        commitCause := some (CommitCause.ofByte n.arg1), alertPending := true }
    seq :=
      { s.seq with
        signature :=
          crc16Byte s.seq.signature
            (BitVec.ofNat 8 (0x42 + (CommitCause.ofByte n.arg1).code)) } }

theorem State.onCommit_of_active (active : s.seq.mode.active = true) :
    s.onCommit n own = (s.committed n).holdUpStartIfStopped.enterDescending .brownout :=
  if_pos active

theorem State.urgentRails_alike (s : State) : Alike s s.urgentRails := by
  have loop : Alike s (s.forEachRail State.urgentRail) := .forEachRail RailTurn.urgentRail s
  unfold State.urgentRails
  exact loop.trans (RailTurn.tidyBlankWait (i := 0) _).alike

theorem State.holdUpStartIfStopped_ctl (s : State) :
    s.holdUpStartIfStopped.ctl.held = s.ctl.held ∧
      s.holdUpStartIfStopped.ctl.ride = s.ctl.ride ∧
      s.holdUpStartIfStopped.ctl.solo = s.ctl.solo := by
  have urgent : ∀ u : State, u.urgentRails.ctl.held = u.ctl.held ∧
      u.urgentRails.ctl.ride = u.ctl.ride ∧ u.urgentRails.ctl.solo = u.ctl.solo := fun u =>
    ⟨u.urgentRails_alike.held, u.urgentRails_alike.ride, u.urgentRails_alike.solo⟩
  cases running : s.holdUp.running with
  | true =>
    rw [State.holdUpStartIfStopped_of_running running]
    exact ⟨rfl, rfl, rfl⟩
  | false =>
    rw [State.holdUpStartIfStopped_of_stopped running, State.holdUpStart_of_stopped running]
    unfold State.urgentSet
    split
    · rw [State.dimCut_ctl]
      exact urgent _
    · exact urgent _

/-- A COMMIT in an active mode starts the hold-up timer where it stands (R141). -/
theorem DescentFrom.commit (active : s.seq.mode.active = true) :
    DescentFrom s (s.atNotice n own hold)
      ((s.atNotice n own hold).committed n).holdUpStartIfStopped true := by
  let w : State := (s.atNotice n own hold).committed n
  have running : w.holdUp.running = s.holdUp.running := by simp [w, State.committed]
  have rail : ∀ i, w.rail i = s.rail i := State.rail_congr (by simp [w, State.committed])
  have urged : ∀ i, w.urgedRail i = s.urgedRail i := fun i =>
    State.urgedRail_congr (by simp [w, State.committed]) (by simp [w, State.committed]) (rail i)
  have mode : w.seq.mode ≠ .descending := by
    have same : w.seq.mode = s.seq.mode := by simp [w, State.committed]
    rw [same]
    rintro m
    rw [m] at active
    cases active
  obtain ⟨held, ride, solo⟩ := w.holdUpStartIfStopped_ctl
  refine ⟨fun i => ⟨fun starts => ?_, fun stays => ?_⟩, held.trans ?_, ride.trans ?_,
    solo.trans ?_, ?_, ?_, ?_, ?_, ?_, ?_, ?_, ?_, ?_, ?_, ?_, ?_, ?_, ?_, ?_⟩
  · rw [State.rail_holdUpStartIfStopped, running, starts.2, urged]
    rfl
  · have runs : s.holdUp.running = true := by simpa using stays
    rw [State.rail_holdUpStartIfStopped, running, runs, rail]
    rfl
  · simp [w, State.committed]
  · simp [w, State.committed]
  · simp [w, State.committed]
  · simp [State.committed]
  · simp [State.committed]
  · simp [State.committed]
  · simp [State.committed]
  · simp [State.committed]
  · rw [State.holdUpStartIfStopped_dim (.inr (.inr mode))]
    simp [w, State.committed]
  · simp [State.committed]
  · simp [State.committed]
  · simp [State.committed]
  · simp [State.committed]
  · rw [State.holdUpStartIfStopped_seq, running]
    cases s.holdUp.running with
    | true => exact ⟨_, _, rfl, fun _ => by simp⟩
    | false => exact ⟨_, _, rfl, nofun⟩
  · rw [State.holdUpStartIfStopped_running]
    simp
  · simp [State.committed]
  · simp [State.committed]
  · simp [State.committed]

end Notice

end Sys2Proof.Machine

namespace Sys2Proof.Machine

section Descent

variable {s u x : State} {n : Notice} {own hold : Bool} {i : Fin 8}

/-- What a FALL, FAULT or COMMIT taken in an active mode leaves before the entry to DESCENDING, in
the record and the signature (R89, R90, R141). -/
structure Noticed (s x : State) (n : Notice) : Prop where
  commit : n.kind = .commit →
    x.cur.commitCause = some (CommitCause.ofByte n.arg1) ∧ x.cur.alertPending = true ∧
      x.seq.signature =
        crc16Byte s.seq.signature (BitVec.ofNat 8 (0x42 + (CommitCause.ofByte n.arg1).code))
  other : n.kind ≠ .commit → x.seq.signature = s.seq.signature
  fault : n.kind = .fault →
    (s.cur.firstFault = none →
      x.cur.firstFault = some ⟨n.arg2, n.sender, n.arg1, s.seq.phase⟩ ∧
        x.cur.alertPending = true) ∧
    (s.cur.firstFault ≠ none → x.cur.firstFault = s.cur.firstFault)

theorem Noticed.fall (kind : n.kind = .fall) : Noticed s (s.atNotice n own hold) n where
  commit h := absurd (kind.symm.trans h) (by simp)
  other _ := by simp
  fault h := absurd (kind.symm.trans h) (by simp)

theorem Noticed.ofFault (kind : n.kind = .fault) :
    Noticed s ((s.atNotice n own hold).recordFault n) n where
  commit h := absurd (kind.symm.trans h) (by simp)
  other _ := by simp
  fault _ := by
    refine ⟨fun first => ?_, fun later => ?_⟩
    · rw [State.recordFault_first (by simpa using first)]
      simp
    · rw [State.recordFault_later (by simpa using later)]
      simp [State.countLaterFault]

theorem Noticed.ofCommit (kind : n.kind = .commit) :
    Noticed s ((s.atNotice n own hold).committed n).holdUpStartIfStopped n where
  commit _ := by
    rw [State.holdUpStartIfStopped_cur, State.holdUpStartIfStopped_seq]
    refine ⟨rfl, rfl, ?_⟩
    split <;> simp [State.committed]
  other h := absurd kind h
  fault h := absurd (kind.symm.trans h) (by simp)

/-! ### The rails before the entry -/

theorem DescentFrom.rail_of_not_leaving {commits : Bool} (h : DescentFrom s u x commits)
    (stays : ¬(s.rail i).state.leaving) : x.rail i = s.rail i := by
  by_cases starts : commits = true ∧ s.holdUp.running = false
  · rw [(h.rails i).1 starts]
    exact (s.urgedRail_state i).2.resolve_right fun both => stays both.1
  · exact (h.rails i).2 starts

theorem DescentFrom.leaving {commits : Bool} (h : DescentFrom s u x commits)
    (leaves : (s.rail i).state.leaving) : (x.rail i).state.leaving := by
  by_cases starts : commits = true ∧ s.holdUp.running = false
  · rw [(h.rails i).1 starts]
    rcases (s.urgedRail_state i).2 with same | ⟨-, after⟩
    · rwa [same]
    · exact after
  · rwa [(h.rails i).2 starts]

theorem DescentFrom.dipsAtEnd_iff {commits : Bool} (h : DescentFrom s u x commits) :
    x.dipsAtEnd i ↔ s.ctl.ride = true ∧ s.dips i := by
  have zone : x.zone i = s.zone i := State.zone_congr h.front i
  unfold State.dipsAtEnd State.dips
  rw [h.ride, zone]
  by_cases leaves : (s.rail i).state.leaving
  · have calm : (s.rail i).state ≠ .good := by
      rintro st
      simp [st, RailState.leaving] at leaves
    have calm' : (x.rail i).state ≠ .good := by
      have leaves' := h.leaving leaves
      rintro st
      simp [st, RailState.leaving] at leaves'
    simp [calm, calm']
  · rw [h.rail_of_not_leaving leaves]

theorem DescentFrom.inTopPhase_iff {commits : Bool} (h : DescentFrom s u x commits) :
    x.inTopPhase i ↔ (s.entry i).present = true ∧ (s.entry i).downPhase = s.settings.phaseCount := by
  simp only [State.inTopPhase, State.inDownPhase, State.entry_congr h.table, h.settings]

theorem DescentFrom.fallsAtCut_iff {commits : Bool} (h : DescentFrom s u x commits) :
    x.fallsAtCut i ↔
      (s.rail i).state = .dimWait ∧ s.holdUp.running = true ∧ s.cutDarkens := by
  unfold State.fallsAtCut State.cutDarkens
  rw [h.running, h.settings, h.dim]
  cases running : s.holdUp.running with
  | true =>
    rw [(h.rails i).2 (by simp [running])]
    simp
  | false =>
    cases commits with
    | false => simp
    | true =>
      have urged : x.rail i = s.urgedRail i := (h.rails i).1 ⟨rfl, running⟩
      simp [urged, (s.urgedRail_state i).1]

theorem RailState.takesOff.not_leaving {r : RailState} (h : r.takesOff) : ¬r.leaving := by
  cases r <;> simp_all [RailState.takesOff, RailState.leaving, RailState.serving]

/-- The cause of the descent that a taken notice brings (R89, R90, R141). -/
def descentCause (k : Kind) : Cause :=
  match k with
  | .fall => .request
  | .fault => .fault
  | .commit | .sag | .mainsOk | .rise | .roll | .tally => .brownout

/-- The station that enters DESCENDING for the notice. -/
theorem exists_descentFrom (takes : s.takes n own) (noRise : s.noRiseFirst n.kind hold)
    (active : s.seq.mode.active = true)
    (kind : n.kind = .fall ∨ n.kind = .fault ∨ n.kind = .commit) :
    ∃ x : State,
      DescentFrom s (s.atNotice n own hold) x (decide (n.kind = .commit)) ∧ Noticed s x n ∧
        exec (n.kind.taken hold) s =
          .next (x.enterDescending (descentCause n.kind)).conclude := by
  have active' : (s.atNotice n own hold).seq.mode.active = true := by simpa using active
  rcases kind with fall | fault | commit
  · refine ⟨s.atNotice n own hold, ?_, .fall fall, ?_⟩
    · rw [fall]
      exact .notice s n own hold
    · rw [fall]
      exact State.take_eq takes fall (fall ▸ noRise) (if_pos active')
  · refine ⟨(s.atNotice n own hold).recordFault n, ?_, .ofFault fault, ?_⟩
    · obtain ⟨r, eq, run⟩ := (s.atNotice n own hold).recordFault_eq n
      rw [fault, eq]
      exact (DescentFrom.notice s n own hold).of_cur run
    · rw [fault]
      exact State.take_eq takes fault (fault ▸ noRise) (if_pos (by simpa using active))
  · refine ⟨((s.atNotice n own hold).committed n).holdUpStartIfStopped, ?_, .ofCommit commit, ?_⟩
    · rw [commit]
      exact .commit active
    · rw [commit]
      exact State.take_eq takes commit (commit ▸ noRise) (State.onCommit_of_active active')

end Descent

end Sys2Proof.Machine

namespace Sys2Proof
open Machine

/-- Settles O45. -/
theorem noticeBringsTheDescent : Obligations.NoticeBringsTheDescent := by
  unfold Obligations.NoticeBringsTheDescent
  intro s n own hold takes noRise active kind u c cause top
  obtain ⟨x, pre, noticed, acts⟩ := exists_descentFrom takes noRise active kind
  have command : c = n.kind.taken hold := by
    rcases kind with k | k | k <;> simp only [c, k] <;> rfl
  have causes : descentCause n.kind = cause := rfl
  rw [← command, causes] at acts
  obtain ⟨line, ride, held, timers, mute, holdUp, dim, settings, table, front, last, port, loader,
    later, cur⟩ := x.enterDescending_facts cause
  obtain ⟨g, b, seq, budget⟩ := pre.seq
  obtain ⟨dark, cut, calmDim⟩ := x.descentDark_dim cause
  have seq_v : (x.enterDescending cause).seq = _ := State.enterDescending_seq cause x
  have running : (x.enterDescending cause).holdUp.running =
      (s.holdUp.running || decide (n.kind = .commit)) := by rw [holdUp, pre.running]
  refine ⟨x.enterDescending cause, acts, ?_, ?_, ?_, ?_, ?_, ?_, ?_, ?_, ?_, ?_, fun claimed => ?_,
    ride, held, ?_, ?_, ?_, ?_, running, ?_, ?_, ?_, fun riding passed runs free => ?_,
    fun commit => ?_, fun other => ?_, fun fault => ?_, fun i present down => ?_, fun i => ?_,
    settings.trans pre.settings, table.trans pre.table, front.trans pre.front,
    last.trans pre.last, port.trans pre.port, loader.trans pre.loader⟩
  · rw [seq_v]
  · rw [seq_v]
    exact congrArg Settings.phaseCount pre.settings
  · rw [seq_v]
  · rw [seq_v]
  · rw [seq_v, seq]
    exact State.atNotice_attempts _ _ _ _
  · rw [seq_v, seq]
    exact State.atNotice_lastCause _ _ _ _
  · rw [seq_v, seq]
    exact State.atNotice_lead _ _ _ _
  · rw [seq_v, seq]
    exact State.atNotice_sagCount _ _ _ _
  · rw [seq_v, seq]
  · rw [line]
    cases claimed : x.line.claimed with
    | true => rw [State.claimNow_of_claimed claimed, claimed]
    | false => rw [State.claimNow_line_of_free claimed]; rfl
  · rw [line, State.claimNow_of_claimed]
    · exact pre.line
    · rw [pre.line]
      simpa using claimed
  · rw [timers, pre.timers, pre.settings]
  · rw [mute, pre.mute, pre.settings]
  · rw [cur]
  · rw [cur]
    exact pre.runNumber
  · intro backlight
    rw [dim]
    exact dark (by rw [pre.settings]; exact backlight)
  · intro backlight urgent
    rw [dim]
    rw [holdUp] at urgent
    exact cut (by rw [pre.settings]; exact backlight) urgent
  · intro calm
    rw [holdUp] at calm
    rw [dim, (calmDim calm).1, pre.dim]
  · have mode : x.seq.mode = .riding := by
      rw [seq]
      exact (State.atNotice_mode _ _ _ _).trans riding
    have passed' : x.seq.budgetPassed = true := by
      rw [seq]
      exact (budget runs).trans passed
    refine State.enterDescending_breaks mode passed' pre.link ?_
    rw [pre.breakDrive]
    exact (State.atNotice_breakDrive s n own hold).trans free
  · obtain ⟨code, alert, signature⟩ := noticed.commit commit
    rw [seq_v, cur]
    exact ⟨code, alert, signature⟩
  · rw [seq_v]
    exact noticed.other other
  · rw [cur]
    exact noticed.fault fault
  · have falls : (x.descended cause).rail i = (x.descentDark cause).switchedOffRail i := by
      refine State.rail_descended ⟨?_, ?_⟩
      · rw [State.entry_congr pre.table, present]
      · rw [State.entry_congr pre.table, down, pre.settings]
    rw [State.rail_congr (State.enterDescending_rails x cause), falls]
    exact State.switchedOffRail_leaving _ i
  · intro e r dips timed urgent off leaves blanks dims waits darkens
    have dips_iff : x.dipsAtEnd i ↔ dips := pre.dipsAtEnd_iff
    have top_iff : x.inTopPhase i ↔ off := pre.inTopPhase_iff
    have falls_iff : x.fallsAtCut i ↔ darkens := pre.fallsAtCut_iff
    have stays : ¬r.state.leaving → x.rail i = r := pre.rail_of_not_leaving
    have fallen : x.rail i = r → ∀ b, x.fallenRail i b = s.fallenRail i b := fun same =>
      State.fallenRail_congr pre.table pre.front same
    have urgent_x : x.urgent = urgent := (congrArg HoldUp.running holdUp).symm
    rw [State.rail_congr (State.enterDescending_rails x cause)]
    refine ⟨fun h => ?_, fun calm down serves => ?_, fun down st => ?_, fun calm still =>
      ⟨fun h => ?_, fun h => ?_, fun idle bright => ?_⟩⟩
    · have same : x.rail i = r := stays (by rw [h.2.1]; simp [RailState.leaving])
      rw [State.rail_descended_of_dips (dips_iff.mpr h), State.dippedRail, fallen same]
    · have same : x.rail i = r := stays (RailState.takesOff.not_leaving (.inl serves))
      have served := State.rail_descended_of_serving (c := cause) (top_iff.mpr down)
        (fun h => calm (dips_iff.mp h)) (by rw [same]; exact serves)
      rw [same, State.entry_congr pre.table, urgent_x, pre.solo, fallen same,
        show x.zeroReport = s.zeroReport by rw [State.zeroReport, pre.dim]; rfl] at served
      rw [served]
      refine ⟨fun h => ?_, fun h b => ?_, fun h b d => ?_, fun h b d => ?_⟩
      · simp [h]
      · exact if_pos ⟨b.1, h, b.2⟩
      · exact (if_neg fun all => b ⟨all.1, all.2.2⟩).trans (if_pos ⟨d.1, h, d.2⟩)
      · rw [if_neg fun all => b ⟨all.1, all.2.2⟩, if_neg fun all => d ⟨all.1, all.2.2⟩, h]
    · have same : x.rail i = r := stays (RailState.takesOff.not_leaving (.inr st))
      rw [State.rail_descended_of_waiting (top_iff.mpr down) (by rw [same]; exact st), same]
    · have same : x.rail i = r := stays (by rcases h with st | st <;> simp [st, RailState.leaving])
      have bright : ¬x.fallsAtCut i := fun f => by
        rcases h with st | st <;> exact absurd (st.symm.trans (falls_iff.mp f).1) (by simp)
      rw [State.rail_descended_of_rest (fun d => calm (dips_iff.mp d)) bright, State.ranOnRail_of_timed,
        same, pre.held]
      · rw [same]; exact h
      · rw [same]
        exact fun both => still ⟨top_iff.mp both.1, both.2⟩
    · have same : x.rail i = r := (pre.rails i).2 fun starts =>
        absurd (h.2.1.symm.trans starts.2) (by simp)
      rw [State.rail_descended_of_falls (falls_iff.mpr h), fallen same]
    · have back : ¬(x.rail i).state.leaving → x.rail i = r := fun out =>
        stays fun leaves => out (pre.leaving leaves)
      have ramps : (x.rail i).state ≠ .ramping := fun st =>
        idle (.inl (back (by simp [st, RailState.leaving]) ▸ st))
      have settles : (x.rail i).state ≠ .settling := fun st =>
        idle (.inr (back (by simp [st, RailState.leaving]) ▸ st))
      rw [State.rail_descended_of_rest (fun d => calm (dips_iff.mp d))
        (fun f => bright (falls_iff.mp f)), State.ranOnRail_of_not_timed ramps settles]
      · split
        case isTrue starts => exact (pre.rails i).1 ⟨by simp [starts.1], starts.2⟩
        case isFalse rests => exact (pre.rails i).2 fun starts => rests ⟨by simpa using starts.1, starts.2⟩
      · rintro ⟨down, takes⟩
        have same := back takes.not_leaving
        rw [same] at takes
        exact still ⟨top_iff.mp down, takes⟩

end Sys2Proof

/-! Recovery (R138, R10, R151). -/

namespace Sys2Proof.Machine

section Recovery

variable {s t : State} {i : Fin 8} {n : Notice} {own : Bool}

/-! ### Restore -/

/-- A rail that a restore takes (R10). -/
def State.restores (s : State) (i : Fin 8) : Prop :=
  (s.entry i).present = true ∧ (s.rail i).state = .shed

theorem State.restore_of_restores (h : s.restores i) :
    s.restore i =
      (s.setRail i { s.rail i with requested := true, restoring := true }).bringUp i :=
  if_pos (by simp [h.1, h.2])

theorem State.restore_of_not (h : ¬s.restores i) : s.restore i = s := by
  refine if_neg ?_
  simpa [State.restores] using h

theorem State.reportRailFault_commit (s : State) (i : Fin 8) (reason : RailReason) :
    (s.reportRailFault i reason).pendingOf .commit = s.pendingOf .commit := by
  unfold State.reportRailFault
  split
  · exact State.queueNotice_pendingOf_other _ _ _ (by decide)
  · rfl

theorem State.railFault_commit (s : State) (i : Fin 8) (reason : RailReason) :
    (s.railFault i reason).pendingOf .commit = s.pendingOf .commit := by
  rw [State.railFault_eq, State.reportRailFault_commit]
  simp only [State.pendingOf, State.tidyBlankWait_notices, State.setRail_notices]

theorem State.bringUp_commit (s : State) (i : Fin 8) :
    (s.bringUp i).pendingOf .commit = s.pendingOf .commit := by
  by_cases high : (s.entry i).sense = true ∧ s.zone i = some .high
  · rw [State.bringUp_of_high high.1 high.2, State.railFault_commit]
    rfl
  · rw [State.bringUp_of_not_high high]
    rfl

theorem State.restoreAll_commit (s : State) :
    (s.forEachRail State.restore).pendingOf .commit = s.pendingOf .commit := by
  refine State.forEachRail_keeps (P := fun u => u.pendingOf .commit = s.pendingOf .commit)
    (fun i u h => ?_) s rfl
  by_cases takes : u.restores i
  · rw [State.restore_of_restores takes, State.bringUp_commit]
    exact h
  · rw [State.restore_of_not takes]
    exact h

theorem Alike.restores {u : State} (h : Alike s u) (rail : u.rail i = s.rail i) :
    u.restores i ↔ s.restores i := by
  simp only [State.restores, h.entry, rail]

theorem State.rail_restoreAll_of_not (h : ¬s.restores i) :
    (s.forEachRail State.restore).rail i = s.rail i := by
  obtain ⟨u, alike, same, result⟩ := s.forEachRail_rail RailTurn.restore i
  rw [result, State.restore_of_not fun takes => h ((alike.restores same).mp takes), same]

/-- A SHED rail is restored with the restoring mark and rises, where it is not sensed HIGH. -/
theorem State.rail_restoreAll_of_not_high (h : s.restores i)
    (fine : ¬((s.entry i).sense = true ∧ s.zone i = some .high)) :
    (s.forEachRail State.restore).rail i =
      s.raisedRail i { s.rail i with requested := true, restoring := true } := by
  obtain ⟨u, alike, same, result⟩ := s.forEachRail_rail RailTurn.restore i
  rw [result, State.restore_of_restores ((alike.restores same).mpr h),
    State.bringUp_setRail_of_not_high _ (by rw [alike.entry, alike.zone]; exact fine),
    State.rail_setRail_self, alike.raisedRail, same]

theorem State.rail_restoreAll_of_high (h : s.restores i) (sense : (s.entry i).sense = true)
    (zone : s.zone i = some .high) :
    ((s.forEachRail State.restore).rail i).state = .falling ∧
      ((s.forEachRail State.restore).rail i).faultReason = some .over := by
  obtain ⟨u, alike, same, result⟩ := s.forEachRail_rail RailTurn.restore i
  rw [result, State.restore_of_restores ((alike.restores same).mpr h)]
  refine State.rail_bringUp_of_high ?_ ?_
  · rw [State.entry_setRail, alike.entry, sense]
  · rw [State.zone_setRail, alike.zone, zone]

/-! ### Recovery -/

/-- The phase timer runs on where it stood (R138). -/
def State.phaseResumed (s : State) : State :=
  { s with timers := { s.timers with phase := s.timers.phase.resume } }

/-- The lead ends with a recovery. -/
def State.leadEnded (s : State) : State :=
  { s with seq := { s.seq with lead := none, recovered := true } }

/-- The station at a recovery whose rails are still to be restored (R138). -/
def State.recovering (s : State) : State :=
  (s.holdUpStopCapture.withdraw .commit).phaseResumed.resume

/-- The station at a recovery whose rails are restored. -/
def State.restored (s : State) : State := s.recovering.forEachRail State.restore

theorem State.recover_eq (s : State) :
    s.recover = s.restored.dimLift.leadEnded.feed 0x41 := by
  unfold State.recover
  simp only [State.restored, State.recovering, State.phaseResumed, State.leadEnded]

theorem State.holdUpStopCapture_running (s : State) :
    s.holdUpStopCapture.holdUp.running = false := by
  unfold State.holdUpStopCapture
  split
  · rfl
  case isFalse stands => simpa using stands

theorem State.holdUpStopCapture_seq_eq (s : State) :
    s.holdUpStopCapture.seq = { s.seq with budgetPassed := false } := by
  unfold State.holdUpStopCapture
  split <;> rfl

theorem State.holdUpStopCapture_of_running (h : s.holdUp.running = true) :
    s.holdUpStopCapture.holdUp.capture = s.holdUp.count ∧
      s.holdUpStopCapture.cur.longestHoldUp =
        if s.cur.longestHoldUp < s.holdUp.count then s.holdUp.count else s.cur.longestHoldUp := by
  unfold State.holdUpStopCapture
  rw [if_pos h]
  exact ⟨rfl, rfl⟩

theorem State.resume_cur (s : State) : s.resume.cur = s.cur :=
  State.forEachRail_keeps (P := fun u => u.cur = s.cur) (fun _ _ h => h) _ rfl

theorem State.resume_notices (s : State) : s.resume.notices = s.notices :=
  State.forEachRail_keeps (P := fun u => u.notices = s.notices) (fun _ _ h => h) _ rfl

theorem State.withdraw_pendingOf (s : State) (k : Kind) : (s.withdraw k).pendingOf k = none := by
  have cleared : (s.setPending k none).pendingOf k = none := State.pendingOf_setPending_self _ _ _
  unfold State.withdraw
  dsimp only
  repeat' split
  all_goals exact cleared

/-- What stands of a withdrawal does not depend on the station around the notices. -/
theorem State.withdraw_inFlight_congr (same : t.notices.inFlight = s.notices.inFlight) (k : Kind) :
    (t.withdraw k).notices.inFlight = (s.withdraw k).notices.inFlight := by
  have set : ∀ u : State, (u.setPending k none).notices.inFlight = u.notices.inFlight :=
    fun _ => rfl
  cases flight : s.notices.inFlight with
  | none =>
    simp only [State.withdraw, set, same, flight]
  | some f =>
    simp only [State.withdraw, set, same, flight]
    split
    · rfl
    · rw [set, set, same]

/-- What a recovery does before the rails are restored. -/
theorem State.recovering_seq (s : State) :
    s.recovering.seq = { s.seq with budgetPassed := false } := by
  rw [State.recovering, State.resume_seq, ← State.holdUpStopCapture_seq_eq]
  simp [State.phaseResumed]

theorem State.recovering_holdUp (s : State) :
    s.recovering.holdUp = s.holdUpStopCapture.holdUp := by
  rw [State.recovering, State.resume_holdUp]
  simp [State.phaseResumed]

theorem State.recovering_timers (s : State) :
    s.recovering.timers = { s.timers with phase := s.timers.phase.resume } := by
  rw [State.recovering, State.resume_timers]
  simp [State.phaseResumed]

theorem State.recovering_ctl (s : State) : s.recovering.ctl = { s.ctl with held := false } := by
  rw [State.recovering, State.resume_ctl]
  simp [State.phaseResumed]

theorem State.recovering_cur (s : State) : s.recovering.cur = s.holdUpStopCapture.cur := by
  rw [State.recovering, State.resume_cur]
  simp [State.phaseResumed]

theorem State.recovering_frame (s : State) :
    s.recovering.line = s.line ∧ s.recovering.dim = s.dim ∧
      s.recovering.settings = s.settings ∧ s.recovering.table = s.table ∧
      s.recovering.front = s.front := by
  rw [State.recovering, State.resume_line, State.resume_dim, State.resume_settings,
    State.resume_table, State.resume_front]
  simp [State.phaseResumed]

theorem State.recovering_inFlight (s : State) :
    s.recovering.notices.inFlight = (s.withdraw .commit).notices.inFlight := by
  rw [State.recovering, State.resume_inFlight]
  exact State.withdraw_inFlight_congr (by simp) _

theorem State.recovering_commit (s : State) : s.recovering.pendingOf .commit = none := by
  rw [State.recovering, State.pendingOf, State.resume_notices]
  exact State.withdraw_pendingOf _ _

theorem State.rail_recovering (s : State) (i : Fin 8) :
    s.recovering.rail i = (s.rail i).resumeTimed := by
  rw [State.recovering, State.rail_resume]
  exact congrArg Rail.resumeTimed (State.rail_congr (by simp [State.phaseResumed]) i)

theorem State.restored_alike (s : State) : Alike s.recovering s.restored :=
  .forEachRail RailTurn.restore _

theorem State.restored_commit (s : State) : s.restored.pendingOf .commit = none :=
  s.recovering.restoreAll_commit.trans s.recovering_commit

/-- A SHED rail is restored at a recovery (R10), and rises where it is not sensed HIGH. -/
theorem State.rail_restored_of_shed (present : (s.entry i).present = true)
    (shed : (s.rail i).state = .shed) :
    (¬((s.entry i).sense = true ∧ s.zone i = some .high) →
        s.restored.rail i =
          ({ s with ctl := { s.ctl with held := false } }).raisedRail i
            { s.rail i with requested := true, restoring := true }) ∧
      ((s.entry i).sense = true → s.zone i = some .high →
        (s.restored.rail i).state = .falling ∧
          (s.restored.rail i).faultReason = some .over) := by
  obtain ⟨-, -, -, table, front⟩ := s.recovering_frame
  have rail : s.recovering.rail i = s.rail i := by
    rw [State.rail_recovering, Rail.resumeTimed_of_not] <;> simp [shed]
  have entry := State.entry_congr table i
  have zone := State.zone_congr front i
  have takes : s.recovering.restores i := by
    rw [State.restores, entry, rail]
    exact ⟨present, shed⟩
  refine ⟨fun fine => ?_, fun sense high => ?_⟩
  · rw [State.restored, State.rail_restoreAll_of_not_high takes (by rw [entry, zone]; exact fine),
      rail]
    refine State.raisedRail_congr (s := { s with ctl := { s.ctl with held := false } })
      table front ?_ _
    rw [State.recovering_ctl]
  · exact State.rail_restoreAll_of_high takes (by rw [entry, sense]) (by rw [zone, high])

theorem State.rail_restored_of_not_shed
    (h : (s.entry i).present = false ∨ (s.rail i).state ≠ .shed) :
    s.restored.rail i = (s.rail i).resumeTimed := by
  obtain ⟨-, -, -, table, -⟩ := s.recovering_frame
  rw [State.restored, State.rail_restoreAll_of_not, State.rail_recovering]
  rw [State.restores, State.entry_congr table, State.rail_recovering, Rail.resumeTimed_state]
  rintro ⟨present, shed⟩
  rcases h with absent | stays
  · exact absurd (absent.symm.trans present) (by decide)
  · exact stays shed

theorem State.recover_rails (s : State) : s.recover.rails = s.restored.rails := by
  rw [State.recover_eq]
  simp [State.leadEnded]

theorem State.recover_seq_eq (s : State) :
    s.recover.seq =
      { s.seq with
        lead := none, recovered := true, budgetPassed := false
        signature := crc16Byte s.seq.signature 0x41 } := by
  have same : s.restored.dimLift.seq = { s.seq with budgetPassed := false } := by
    rw [State.dimLift_seq, s.restored_alike.frame.seq, State.recovering_seq]
  rw [State.recover_eq, State.feed, State.leadEnded, same]

theorem State.recover_holdUp_eq (s : State) : s.recover.holdUp = s.holdUpStopCapture.holdUp := by
  rw [← State.recovering_holdUp, ← s.restored_alike.frame.holdUp, State.recover_eq]
  simp [State.leadEnded]

theorem State.recover_timers_eq (s : State) :
    s.recover.timers = { s.timers with phase := s.timers.phase.resume } := by
  rw [← State.recovering_timers, ← s.restored_alike.frame.timers, State.recover_eq]
  simp [State.leadEnded]

theorem State.recover_ctl_eq (s : State) :
    s.recover.ctl.held = false ∧ s.recover.ctl.ride = s.ctl.ride := by
  have ctl : s.recover.ctl = s.restored.ctl := by
    rw [State.recover_eq]
    simp [State.leadEnded]
  rw [ctl, s.restored_alike.held, s.restored_alike.ride, State.recovering_ctl]
  exact ⟨rfl, rfl⟩

theorem State.recover_line_eq (s : State) : s.recover.line = s.line := by
  rw [← s.recovering_frame.1, ← s.restored_alike.frame.line, State.recover_eq]
  simp [State.leadEnded]

theorem State.recover_longestHoldUp (s : State) :
    s.recover.cur.longestHoldUp = s.holdUpStopCapture.cur.longestHoldUp := by
  obtain ⟨later, cur⟩ := s.restored_alike.frame.cur
  have same : s.recover.cur = s.restored.cur := by
    rw [State.recover_eq]
    simp [State.leadEnded]
  rw [same, cur, State.recovering_cur]

theorem State.recover_notices_eq (s : State) : s.recover.notices = s.restored.notices := by
  rw [State.recover_eq]
  simp [State.leadEnded]

theorem State.dimLift_of_role (role : s.settings.roles.backlight = true) :
    (s.seq.returnMode = .on →
        s.dimLift.dim =
          { s.dim with setting := .lift, rampIndex := 0, liftFloor := s.dim.ceiling }) ∧
      (s.seq.returnMode ≠ .on → s.dimLift.dim = { s.dim with setting := .zero }) := by
  have has : s.hasDimming = true := role
  unfold State.dimLift
  rw [if_pos has]
  refine ⟨fun on => by rw [if_pos on], fun other => ?_⟩
  rw [if_neg other, State.dimZero, if_pos has]

theorem State.recover_dim_eq (s : State) :
    (s.settings.roles.backlight = true →
      (s.seq.returnMode = .on →
        s.recover.dim =
          { s.dim with setting := .lift, rampIndex := 0, liftFloor := s.dim.ceiling }) ∧
      (s.seq.returnMode ≠ .on → s.recover.dim = { s.dim with setting := .zero })) ∧
    (s.settings.roles.backlight = false → s.recover.dim = s.dim) := by
  obtain ⟨-, dim, settings, -, -⟩ := s.recovering_frame
  have frame := s.restored_alike.frame
  have settings' := frame.settings.trans settings
  have dim' := frame.dim.trans dim
  have returns : s.restored.seq.returnMode = s.seq.returnMode := by
    rw [frame.seq, State.recovering_seq]
  have same : s.recover.dim = s.restored.dimLift.dim := by
    rw [State.recover_eq, State.feed_dim, State.leadEnded]
  rw [same]
  refine ⟨fun role => ?_, fun none => ?_⟩
  · have lifts := State.dimLift_of_role (s := s.restored) (by rw [settings', role])
    rwa [returns, dim'] at lifts
  · rw [State.dimLift, if_neg (by simp [State.hasDimming, settings', none]), dim']

end Recovery

end Sys2Proof.Machine

namespace Sys2Proof
open Machine

/-- Settles O47. -/
theorem mainsOkEndsTheSag : Obligations.MainsOkEndsTheSag := by
  unfold Obligations.MainsOkEndsTheSag
  intro s n own hold takes kind u owed
  have noRise : s.noRiseFirst .mainsOk hold := State.noRiseFirst_of_kind (.inl rfl)
  let w : State := { u with seq := { u.seq with owed := owed } }
  have cleared : (if own then { u with seq := { u.seq with owed := false } } else u) = w := by
    cases own with
    | false =>
      have kept : u.seq.owed = owed := (State.atNotice_owed s n false hold).trans (by simp [owed])
      rw [if_neg (by decide)]
      simp only [w, ← kept]
    | true =>
      have gone : owed = false := by simp [owed]
      rw [if_pos rfl]
      simp only [w, gone]
  have acts : u.onMainsOk n own =
      if w.seq.lead = some n.sender then
        if w.seq.mode = .riding then w.recover else w.markReturned
      else w.leadConflict := by
    rw [State.onMainsOk, cleared]
  have lead : w.seq.lead = s.seq.lead := State.atNotice_lead s n own hold
  have mode : w.seq.mode = s.seq.mode := State.atNotice_mode s n own hold
  have wait : w.seq.wait = s.seq.wait := State.atNotice_wait s n own hold
  refine ⟨fun other => ?_, fun led elsewhere awake => ?_, fun led off waits => ?_,
    fun led riding => ?_⟩
  · refine State.take_eq takes kind noRise (acts.trans ?_)
    rw [if_neg (by rw [lead]; exact other)]
    rfl
  · refine State.take_eq takes kind noRise (acts.trans ?_)
    rw [if_pos (by rw [lead, led]), if_neg (by rw [mode]; exact elsewhere)]
    exact if_neg (by rw [mode, wait]; exact awake)
  · refine State.take_eq takes kind noRise (acts.trans ?_)
    rw [if_pos (by rw [lead, led]), if_neg (by rw [mode, off]; decide)]
    exact if_pos (by rw [mode, wait]; exact ⟨off, waits⟩)
  · have recovers : u.onMainsOk n own = w.recover := by
      rw [acts, if_pos (by rw [lead, led]), if_pos (by rw [mode, riding])]
    have signature : u.seq.signature = s.seq.signature := State.atNotice_signature s n own hold
    have settings : w.settings = s.settings := State.atNotice_settings s n own hold
    have dim : w.dim = s.dim := State.atNotice_dim s n own hold
    have returns : w.seq.returnMode = s.seq.returnMode := State.atNotice_returnMode s n own hold
    have holdUp : w.holdUp = s.holdUp := State.atNotice_holdUp s n own hold
    have longest : w.cur.longestHoldUp = s.cur.longestHoldUp :=
      State.atNotice_longestHoldUp s n own hold
    have table : w.table = s.table := State.atNotice_table s n own hold
    have front : w.front = s.front := State.atNotice_front s n own hold
    have ctl : w.ctl = s.ctl := State.atNotice_ctl s n own hold
    have rail : ∀ i, w.rail i = s.rail i := State.rail_congr (State.atNotice_rails s n own hold)
    have entry : ∀ i, w.entry i = s.entry i := State.entry_congr table
    have zone : ∀ i, w.zone i = s.zone i := State.zone_congr front
    have final : ∀ i, w.recover.rail i = w.restored.rail i := State.rail_congr w.recover_rails
    obtain ⟨held, ride⟩ := w.recover_ctl_eq
    obtain ⟨lit, dark⟩ := w.recover_dim_eq
    rw [settings, dim] at dark
    rw [settings, dim, returns] at lit
    refine ⟨w.recover, State.take_eq takes kind noRise recovers, ?_, ?_, fun running => ?_, ?_, ?_,
      ?_, held, ?_, State.recover_line_eq w, fun i present shed => ?_, fun i timed => ?_,
      fun i ramps settles stays => ?_, lit, dark⟩
    · rw [State.recover_seq_eq, ← signature]
    · rw [State.recover_holdUp_eq, State.holdUpStopCapture_running]
    · obtain ⟨capture, longer⟩ :=
        State.holdUpStopCapture_of_running (s := w) (by rw [holdUp, running])
      rw [State.recover_holdUp_eq, State.recover_longestHoldUp, capture, longer, holdUp, longest]
      exact ⟨rfl, rfl⟩
    · rw [State.recover_timers_eq, show w.timers = s.timers from State.atNotice_timers s n own hold]
    · rw [State.pendingOf, State.recover_notices_eq]
      exact w.restored_commit
    · rw [State.recover_notices_eq, w.restored_alike.frame.inFlight, State.recovering_inFlight]
      exact State.withdraw_inFlight_congr (s := u) (t := w) rfl _
    · rw [ride, ctl]
    · intro r free
      obtain ⟨rises, falls⟩ := State.rail_restored_of_shed (s := w) (i := i)
        (by rw [entry, present]) (by rw [rail, shed])
      rw [final, entry, zone] at *
      refine ⟨fun fine => ?_, falls⟩
      rw [rises fine, rail]
      exact State.raisedRail_congr (s := free) (t := { w with ctl := { w.ctl with held := false } })
        table front rfl _
    · rw [final, State.rail_restored_of_not_shed, rail, Rail.resumeTimed_of_timed timed]
      rw [rail]
      rcases timed with st | st <;> simp [st]
    · rw [final, State.rail_restored_of_not_shed (by rw [entry, rail]; exact stays), rail,
        Rail.resumeTimed_of_not ramps settles]

end Sys2Proof

/-! The outbound set and the frames of the data line (R63 to R81, R99). -/

namespace Sys2Proof.Machine

section Outbound

variable {s : State} {k : Kind} {p : Pending} {a b : Byte}

/-! ### The FAULTs that hold their place -/

theorem State.mem_heldFaults :
    p ∈ s.heldFaults ↔
      s.pendingOf .fault = some p ∨
        ∃ f, s.notices.inFlight = some f ∧ f.kind = .fault ∧ f.notice = p := by
  unfold State.heldFaults
  rw [List.mem_append, Option.mem_toList]
  refine or_congr_right ?_
  cases flight : s.notices.inFlight with
  | none => simp
  | some f =>
    by_cases fault : f.kind = .fault
    · simp [fault, eq_comm]
    · simp [fault]

theorem State.refusesFault_iff :
    s.refusesFault a = true ↔ ∃ p ∈ s.heldFaults, p.arg1 ≠ 15 ∨ a = 15 := by
  simp [State.refusesFault, stationLevel]

/-! ### The lowest notice -/

/-- The kinds stand in their list by rising code. -/
theorem Kind.kinds_split (k : Kind) :
    kinds = kinds.take k.code ++ k :: kinds.drop (k.code + 1) ∧
      ∀ j ∈ kinds.take k.code, j.code < k.code := by
  cases k <;> decide

/-- The pending notice of a kind with no lower one pending goes first (R66). -/
theorem Outbound.lowest_eq {o : Outbound} (here : o.get k = some p)
    (lower : ∀ j, j.code < k.code → o.get j = none) : o.lowest = some (k, p) := by
  obtain ⟨split, below⟩ := k.kinds_split
  refine List.findSome?_eq_some_iff.mpr ⟨_, k, _, split, by rw [here, Option.map_some], ?_⟩
  intro j mem
  rw [lower j (below j mem), Option.map_none]

theorem Outbound.lowest_eq_none {o : Outbound} (empty : ∀ k, o.get k = none) :
    o.lowest = none := by
  rw [Outbound.lowest, List.findSome?_eq_none_iff]
  intro k _
  rw [empty, Option.map_none]

theorem Outbound.set_set (o : Outbound) (k : Kind) (x y : Option Pending) :
    (o.set k x).set k y = o.set k y := by cases k <;> rfl

/-- The station that begins the frame of its pending notice (R66). -/
def State.sendBegun (s : State) (k : Kind) (p : Pending) : State :=
  { s with
    notices :=
      { s.notices with
        link := .frame ⟨[], true⟩
        outbound := s.notices.outbound.set k none
        inFlight := some ⟨k, p, false⟩
        drive :=
          ⟨0, (Notice.mk k s.settings.number p.arg1 p.arg2).slots.map fun bit =>
            if bit then 2 else 6⟩ } }

theorem State.beginFrame_of_lowest (lowest : s.notices.outbound.lowest = some (k, p)) :
    s.beginFrame = s.sendBegun k p := by
  unfold State.beginFrame
  rw [lowest]
  rfl

theorem State.beginFrame_of_empty (empty : s.notices.outbound.lowest = none) :
    s.beginFrame =
      { s with
        notices := { s.notices with link := .frame ⟨[], false⟩, drive := ⟨0, []⟩ } } := by
  unfold State.beginFrame
  rw [empty]
  rfl

theorem State.sendIfFree_of_pending (free : s.notices.link = .free)
    (here : s.pendingOf k = some p) (lower : ∀ j, j.code < k.code → s.pendingOf j = none) :
    s.sendIfFree = s.sendBegun k p := by
  have lowest : s.notices.outbound.lowest = some (k, p) := Outbound.lowest_eq here lower
  rw [State.sendIfFree, if_pos (by simp [State.maySend, free, lowest]),
    State.beginFrame_of_lowest lowest]

/-! ### The slots that are read -/

/-- The station whose frame reads `slots`, before its fate as a sender shows. -/
def State.slotsRead (s : State) (slots : List Bool) (sending : Bool) (micros : List Nat) :
    State :=
  { s with
    notices :=
      { s.notices with
        link := .frame ⟨slots, sending⟩, drive := { s.notices.drive with micros := micros } } }

theorem State.readSlots_eq (s : State) (sending : Bool) (slots : List Bool) :
    s.readSlots sending slots =
      (s.slotsRead slots (sending && s.fateOf sending slots == SendFate.sending)
        (cutDrive (s.fateOf sending slots) (s.agreed slots) s.notices.drive.micros)).meetFate
          (s.fateOf sending slots) := rfl

theorem State.readSlots_receiving (s : State) (slots : List Bool) :
    s.readSlots false slots =
      { s with notices := { s.notices with link := .frame ⟨slots, false⟩ } } := by
  have fate : s.fateOf false slots = .sending := by
    unfold State.fateOf
    split <;> simp_all
  rw [State.readSlots_eq, fate]
  rfl

theorem State.fateOf_sender {g : InFlight} (flight : s.notices.inFlight = some g)
    (slots : List Bool) :
    s.fateOf true slots =
      sendFate 1 (Notice.mk g.kind s.settings.number g.notice.arg1 g.notice.arg2).slots slots := by
  unfold State.fateOf
  rw [flight]
  rfl

theorem State.readSlots_agreeing {g : InFlight} {slots : List Bool}
    (flight : s.notices.inFlight = some g)
    (reads : slots <+: (Notice.mk g.kind s.settings.number g.notice.arg1 g.notice.arg2).slots) :
    s.readSlots true slots =
      { s with notices := { s.notices with link := .frame ⟨slots, true⟩ } } := by
  rw [State.readSlots_eq, State.fateOf_sender flight, sendFate_of_prefix 1 reads]
  rfl

theorem State.hearFrame_of_first {own : Bool} (begun : s.notices.link = .frame ⟨[], own⟩)
    (slots : List Bool) : s.hearFrame slots = s.readSlots own slots := by
  unfold State.hearFrame
  rw [begun]
  rfl

theorem State.hearFrame_of_read {f : Frame} (under : s.notices.link = .frame f)
    (read : f.slots ≠ []) (slots : List Bool) : s.hearFrame slots = s := by
  unfold State.hearFrame
  rw [under]
  exact if_neg (by simpa using read)

theorem exec_frameStart_of_free (free : s.notices.link = .free) (slots : List Bool) :
    exec (.frameStart slots) s = .next (s.beginFrame.hearFrame slots) := by
  rw [show exec (.frameStart slots) s = execFrameStart slots s from rfl, execFrameStart, free]

theorem exec_frameStart_of_frame {f : Frame} (under : s.notices.link = .frame f)
    (slots : List Bool) : exec (.frameStart slots) s = .next (s.hearFrame slots) := by
  rw [show exec (.frameStart slots) s = execFrameStart slots s from rfl, execFrameStart, under]

/-! ### A notice returns -/

section Returns

variable {g : InFlight} {charged : Bool}

theorem State.returnInFlight_of_none (none : s.notices.inFlight = none) :
    s.returnInFlight charged = s := by
  unfold State.returnInFlight
  rw [none]

/-- The station whose attempt is over. -/
def State.landed (s : State) : State := { s with notices := { s.notices with inFlight := none } }

theorem State.returnInFlight_of_third (flight : s.notices.inFlight = some g)
    (third : 2 ≤ g.notice.resend) :
    s.returnInFlight true = s.landed.dropNotice g.kind := by
  unfold State.returnInFlight
  rw [flight]
  exact if_pos (by simpa using third)

theorem State.returnInFlight_of_discarded (flight : s.notices.inFlight = some g)
    (allowed : charged = true → g.notice.resend < 2)
    (stale : s.pendingOf g.kind ≠ none ∨ g.withdrawn = true) :
    s.returnInFlight charged = s.landed := by
  unfold State.returnInFlight
  rw [flight]
  refine (if_neg ?_).trans (if_pos ?_)
  · simpa using allowed
  · rw [Bool.or_eq_true]
    rcases stale with newer | withdrawn
    · exact .inr (Option.isSome_iff_ne_none.mpr newer)
    · exact .inl withdrawn

theorem State.returnInFlight_of_place (flight : s.notices.inFlight = some g)
    (allowed : charged = true → g.notice.resend < 2) (place : s.pendingOf g.kind = none)
    (stands : g.withdrawn = false) :
    s.returnInFlight charged =
      { s with
        notices :=
          { s.notices with
            inFlight := none
            outbound :=
              s.notices.outbound.set g.kind
                (some
                  { g.notice with
                    resend := g.notice.resend + if charged then 1 else 0 }) } } := by
  unfold State.returnInFlight
  rw [flight]
  refine (if_neg ?_).trans (if_neg ?_)
  · simpa using allowed
  · rw [Bool.or_eq_true, stands]
    rintro (withdrawn | newer)
    · exact absurd withdrawn (by decide)
    · exact Option.isSome_iff_ne_none.mp newer place

end Returns

end Outbound

end Sys2Proof.Machine

namespace Sys2Proof
open Machine

/-- Settles O34: who holds the place of a FAULT is told by `heldFaults`. -/
theorem queuedNoticeEntersItsPlace : Obligations.QueuedNoticeEntersItsPlace := by
  unfold Obligations.QueuedNoticeEntersItsPlace
  intro s k a b held enters refused
  have held_iff : ∀ P : Pending → Prop, held P ↔ ∃ p ∈ s.heldFaults, P p := fun P => by
    simp only [held, State.mem_heldFaults]
    constructor
    · rintro (⟨q, pending, holds⟩ | ⟨f, flight, fault, holds⟩)
      · exact ⟨q, .inl pending, holds⟩
      · exact ⟨f.notice, .inr ⟨f, flight, fault, rfl⟩, holds⟩
    · rintro ⟨q, pending | ⟨f, flight, fault, rfl⟩, holds⟩
      · exact .inl ⟨q, pending, holds⟩
      · exact .inr ⟨f, flight, fault, holds⟩
  simp only [held_iff]
  refine ⟨fun other => State.queueNotice_of_ne_fault other a b, ?_, State.queueNotice_inFlight s k a b⟩
  rintro rfl
  have free : ¬s.refusesFault a = true → s.queueNotice .fault a b = enters := fun takes =>
    State.queueNotice_fault_of_place (by simpa using takes)
  have busy : s.refusesFault a = true → s.queueNotice .fault a b = refused :=
    State.queueNotice_of_refused
  refine ⟨fun empty => free fun refuses => ?_, fun rail => busy ?_, fun station calm => ⟨fun rail =>
    free fun refuses => ?_, fun level => busy ?_⟩⟩
  · obtain ⟨p, mem, -⟩ := State.refusesFault_iff.mp refuses
    exact empty ⟨p, mem, trivial⟩
  · obtain ⟨p, mem, rails⟩ := rail
    exact State.refusesFault_iff.mpr ⟨p, mem, .inl rails⟩
  · obtain ⟨p, mem, rails | level⟩ := State.refusesFault_iff.mp refuses
    · exact calm ⟨p, mem, rails⟩
    · exact rail level
  · obtain ⟨p, mem, -⟩ := station
    exact State.refusesFault_iff.mpr ⟨p, mem, .inr level⟩

/-- Settles O37. -/
theorem frameBeginsWithTheLowestKind : Obligations.FrameBeginsWithTheLowestKind := by
  unfold Obligations.FrameBeginsWithTheLowestKind
  intro drives
  refine ⟨fun s => ⟨?_, fun k p free here lower => State.sendIfFree_of_pending free here lower⟩,
    fun s slots => ⟨fun notFree noFirst => ?_, fun first => ?_, fun g first flight reads => ?_,
      fun free => ⟨fun empty => ?_, fun k p here lower reads => ?_⟩⟩⟩
  · rintro (busy | empty)
    · exact s.sendIfFree_of_link busy
    · exact s.sendIfFree_of_not_maySend (by simp [State.maySend, Outbound.lowest_eq_none empty])
  · cases link : s.notices.link with
    | free => exact absurd link notFree
    | frame f =>
      have read : f.slots ≠ [] := fun first => noFirst f.sending (by rw [link, ← first])
      rw [exec_frameStart_of_frame link, State.hearFrame_of_read link read]
    | dormant | waiting | broken =>
      rw [show exec (.frameStart slots) s = execFrameStart slots s from rfl, execFrameStart, link]
  · rw [exec_frameStart_of_frame first, State.hearFrame_of_first first, State.readSlots_receiving]
  · rw [exec_frameStart_of_frame first, State.hearFrame_of_first first,
      State.readSlots_agreeing flight reads]
  · rw [exec_frameStart_of_free free,
      State.beginFrame_of_empty (Outbound.lowest_eq_none empty),
      State.hearFrame_of_first rfl, State.readSlots_receiving]
  · rw [exec_frameStart_of_free free, State.beginFrame_of_lowest (Outbound.lowest_eq here lower),
      State.hearFrame_of_first (own := true) rfl,
      State.readSlots_agreeing (s := s.sendBegun k p) (g := ⟨k, p, false⟩) rfl reads]
    rfl

/-- Settles O39. -/
theorem frameEndsWithoutTaking : Obligations.FrameEndsWithoutTaking := by
  unfold Obligations.FrameEndsWithoutTaking
  intro s f under ended foreign counted objected
  have abandoned : exec .frameAbandoned s = .next (ended.returnInFlight false) := by
    rw [show exec .frameAbandoned s = execFrameAbandoned s from rfl, execFrameAbandoned, under]
    rfl
  have isForeign : foreign → exec .foreignFrame s = .next (counted.returnInFlight false) := by
    rintro ⟨received, spells⟩
    rw [show exec .foreignFrame s = execForeignFrame s from rfl, execForeignFrame, under]
    exact if_pos (by simp [received, spells])
  have isObjected : f.received = true → exec .objectedFrame s = .next (objected.returnInFlight true) :=
    fun received => by
      rw [show exec .objectedFrame s = execObjectedFrame s from rfl, execObjectedFrame, under]
      exact if_pos received
  refine ⟨fun none => ⟨?_, fun h => ?_, fun h => ?_⟩,
    fun g flight place stands => ⟨?_, fun h => ?_, fun h less => ?_⟩,
    fun g flight stale => ⟨?_, fun h => ?_, fun h less => ?_⟩, fun h => ?_, fun h => ?_⟩
  · rw [abandoned, State.returnInFlight_of_none (s := ended) none]
  · rw [isForeign h, State.returnInFlight_of_none (s := counted) none]
  · rw [isObjected h, State.returnInFlight_of_none (s := objected) none]
  · rw [abandoned, State.returnInFlight_of_place (s := ended) flight (by simp) place stands]
    rfl
  · rw [isForeign h, State.returnInFlight_of_place (s := counted) flight (by simp) place stands]
    rfl
  · rw [isObjected h,
      State.returnInFlight_of_place (s := objected) flight (fun _ => less) place stands]
    rfl
  · rw [abandoned, State.returnInFlight_of_discarded (s := ended) flight (by simp) stale]
    rfl
  · rw [isForeign h, State.returnInFlight_of_discarded (s := counted) flight (by simp) stale]
    rfl
  · rw [isObjected h,
      State.returnInFlight_of_discarded (s := objected) flight (fun _ => less) stale]
    rfl
  · rw [show exec .foreignFrame s = execForeignFrame s from rfl, execForeignFrame, under]
    exact if_neg (by simpa [foreign] using h)
  · rw [show exec .objectedFrame s = execObjectedFrame s from rfl, execObjectedFrame, under]
    exact if_neg (by simp [h])

end Sys2Proof

/-! BREAK, dropped notices and the fates of a sender (R69, R73, R74, R81, R99). -/

namespace Sys2Proof.Machine

section Dropped

variable {s : State} {k : Kind} {p : Pending}

/-! ### BREAK -/

theorem State.issueBreak_of_not (h : s.notices.link = .dormant ∨ s.notices.breakDrive ≠ none) :
    s.issueBreak = s := by
  unfold State.issueBreak
  split <;> simp_all

theorem State.issueBreak_of_frame {f : Frame} (under : s.notices.link = .frame f)
    (undriven : s.notices.breakDrive = none) :
    s.issueBreak =
      { s with notices := { s.notices with link := .waiting, breakDrive := some 48 } } := by
  unfold State.issueBreak
  rw [under, undriven]
  rfl

theorem State.issueBreak_of_free (free : s.notices.link = .free)
    (undriven : s.notices.breakDrive = none) :
    s.issueBreak =
      { s with
        notices :=
          { s.notices with
            link := .frame ⟨[], false⟩, drive := ⟨0, []⟩, breakDrive := some 48 } } := by
  unfold State.issueBreak
  rw [free, undriven]
  rfl

theorem State.issueBreak_of_waiting
    (waits : s.notices.link = .waiting ∨ s.notices.link = .broken)
    (undriven : s.notices.breakDrive = none) :
    s.issueBreak = { s with notices := { s.notices with breakDrive := some 48 } } := by
  unfold State.issueBreak
  rcases waits with link | link <;> rw [link, undriven] <;> rfl

/-- In a frame a BREAK moves the link and its own drive alone. -/
theorem State.issueBreak_in_frame {f : Frame} (under : s.notices.link = .frame f) :
    (s.issueBreak.notices.link = .frame f ∨ s.issueBreak.notices.link = .waiting) ∧
      s.issueBreak.notices.inFlight = s.notices.inFlight ∧
      s.issueBreak.notices.drive = s.notices.drive ∧
      s.issueBreak.notices.outbound = s.notices.outbound ∧ s.issueBreak.cur = s.cur := by
  cases drive : s.notices.breakDrive with
  | some n =>
    rw [State.issueBreak_of_not (.inr (by simp [drive]))]
    exact ⟨.inl under, rfl, rfl, rfl, rfl⟩
  | none =>
    rw [State.issueBreak_of_frame under drive]
    exact ⟨.inr rfl, rfl, rfl, rfl, rfl⟩

/-! ### A dropped notice -/

theorem State.dropNotice_of_break (h : k = .sag ∨ k = .commit ∨ k = .fault) :
    s.dropNotice k = s.countDrop.issueBreak := by
  rcases h with rfl | rfl | rfl <;> rfl

theorem State.dropNotice_of_quiet (h : k = .mainsOk ∨ k = .roll ∨ k = .tally) :
    s.dropNotice k = s.countDrop := by
  rcases h with rfl | rfl | rfl <;> rfl

/-- The requester takes up a dropped RISE as a wait for a new request (R99). -/
theorem State.requesterDropped_rise :
    s.requesterDropped .rise =
      if (s.settings.roles.requester = true ∧ s.front.pwrReq.level = true) ∧
          (s.seq.mode = .off ∨ s.seq.mode = .lockout) then
        { s with seq := { s.seq with wait := .fresh } }
      else s := by
  unfold State.requesterDropped
  cases s.settings.roles.requester <;> simp [and_comm]

/-- The requester queues a dropped FALL again (R99). -/
theorem State.requesterDropped_fall :
    s.requesterDropped .fall =
      if (s.settings.roles.requester = true ∧ s.front.pwrReq.level = false) ∧
          s.seq.mode.active = true then
        s.setPending .fall (some ⟨BitVec.ofNat 8 s.seq.phase, 0, 0⟩)
      else s := by
  unfold State.requesterDropped
  rw [State.queueNotice_of_ne_fault (by decide)]
  cases s.settings.roles.requester <;> simp [and_comm, State.phaseByte]

/-- What a drop in a frame leaves of the notices and changes of the record. -/
structure DroppedInFrame (s t : State) (f : Frame) : Prop where
  link : t.notices.link = .frame f ∨ t.notices.link = .waiting
  inFlight : t.notices.inFlight = s.notices.inFlight
  drive : t.notices.drive = s.notices.drive
  fault : t.pendingOf .fault = s.pendingOf .fault
  cur : t.cur = { s.cur with dropped := satInc s.cur.dropped }

theorem State.dropNotice_in_frame {f : Frame} (under : s.notices.link = .frame f) (k : Kind) :
    DroppedInFrame s (s.dropNotice k) f := by
  have quiet : DroppedInFrame s s.countDrop f := ⟨.inl under, rfl, rfl, rfl, rfl⟩
  have breaks : DroppedInFrame s s.countDrop.issueBreak f := by
    obtain ⟨link, flight, drive, outbound, cur⟩ :=
      State.issueBreak_in_frame (s := s.countDrop) under
    exact ⟨link, flight, drive, congrArg (Outbound.get · .fault) outbound, cur⟩
  cases k with
  | sag | commit | fault => exact breaks
  | mainsOk | roll | tally => exact quiet
  | rise =>
    rw [show s.dropNotice .rise = s.countDrop.requesterDropped .rise from rfl,
      State.requesterDropped_rise]
    split
    · exact ⟨.inl under, rfl, rfl, rfl, rfl⟩
    · exact quiet
  | fall =>
    rw [show s.dropNotice .fall = s.countDrop.requesterDropped .fall from rfl,
      State.requesterDropped_fall]
    split
    · exact ⟨.inl under, rfl, rfl, rfl, rfl⟩
    · exact quiet

end Dropped

end Sys2Proof.Machine

namespace Sys2Proof
open Machine

/-- Settles O35. -/
theorem droppedNoticeIssuesBreak : Obligations.DroppedNoticeIssuesBreak := by
  unfold Obligations.DroppedNoticeIssuesBreak
  refine ⟨fun s => ⟨State.issueBreak_of_not, fun awake undriven => ?_⟩, ?_⟩
  · cases link : s.notices.link with
    | dormant => exact absurd link awake
    | frame f =>
      exact ⟨_, _, State.issueBreak_of_frame link undriven, fun _ => rfl, nofun, fun _ => rfl,
        by rintro (h | h) <;> cases h⟩
    | free =>
      refine ⟨_, _, State.issueBreak_of_free link undriven, ?_, fun _ => ⟨rfl, rfl⟩,
        fun h => absurd rfl h, by rintro (h | h) <;> cases h⟩
      rintro ⟨_, h⟩
      cases h
    | waiting | broken =>
      refine ⟨s.notices.link, s.notices.drive,
        State.issueBreak_of_waiting (by simp [link]) undriven, ?_, nofun, fun _ => rfl,
        fun _ => link⟩
      rintro ⟨_, h⟩
      cases h
  · intro s f g under received flight third u asks refuses
    let x : State := { s with notices := { s.notices with link := .waiting, inFlight := none } }
    let y : State := { x with cur := { s.cur with objections := satInc s.cur.objections } }
    have drops : exec .objectedFrame s = .next (y.dropNotice g.kind) := by
      rw [show exec .objectedFrame s = execObjectedFrame s from rfl, execObjectedFrame, under]
      refine (if_pos received).trans ?_
      rw [State.returnInFlight_of_third (s := s.endFrame.countObjection) flight third]
      rfl
    have counts : y.countDrop = u := rfl
    rw [drops]
    refine ⟨fun kind => ?_, fun kind => ?_, fun kind => ⟨fun h => ?_, fun h => ?_⟩,
      fun kind => ⟨fun h => ?_, fun h => ?_⟩⟩
    · rw [State.dropNotice_of_break kind, counts]
    · rw [State.dropNotice_of_quiet kind, counts]
    · rw [kind, show y.dropNotice .rise = u.requesterDropped .rise from rfl,
        State.requesterDropped_rise, if_pos h]
    · rw [kind, show y.dropNotice .rise = u.requesterDropped .rise from rfl,
        State.requesterDropped_rise, if_neg h]
    · rw [kind, show y.dropNotice .fall = u.requesterDropped .fall from rfl,
        State.requesterDropped_fall, if_pos h]
    · rw [kind, show y.dropNotice .fall = u.requesterDropped .fall from rfl,
        State.requesterDropped_fall, if_neg h]

end Sys2Proof

/-! The fates of a sender (R69, R73, R74). -/

namespace Sys2Proof.Machine

section Fates

variable {s x : State} {k : Kind} {p : Pending} {slots : List Bool} {j : Nat}

/-! ### A charged return in a frame -/

/-- What a charged return of `g` in a frame changes. -/
structure ChargedInFrame (s t : State) (f : Frame) (g : InFlight) : Prop where
  link : t.notices.link = .frame f ∨ t.notices.link = .waiting ∧ 2 ≤ g.notice.resend
  inFlight : t.notices.inFlight = none
  drive : t.notices.drive = s.notices.drive
  clash : t.cur.numberClash = s.cur.numberClash
  alert : t.cur.alertPending = s.cur.alertPending
  third : 2 ≤ g.notice.resend → t.cur.dropped = satInc s.cur.dropped
  fault : g.kind ≠ .fault → t.pendingOf .fault = s.pendingOf .fault
  returns : g.notice.resend < 2 → s.pendingOf g.kind = none → g.withdrawn = false →
    t.pendingOf g.kind = some { g.notice with resend := g.notice.resend + 1 }

theorem State.returnInFlight_in_frame {f : Frame} {g : InFlight}
    (under : s.notices.link = .frame f) (flight : s.notices.inFlight = some g) :
    ChargedInFrame s (s.returnInFlight true) f g := by
  by_cases third : 2 ≤ g.notice.resend
  case pos =>
    rw [State.returnInFlight_of_third flight third]
    have drop := State.dropNotice_in_frame (s := s.landed) under g.kind
    exact
      { link := drop.link.imp_right fun waits => ⟨waits, third⟩
        inFlight := drop.inFlight
        drive := drop.drive
        clash := by rw [drop.cur]; rfl
        alert := by rw [drop.cur]; rfl
        third := fun _ => by rw [drop.cur]; rfl
        fault := fun _ => drop.fault
        returns := fun less => by omega }
  case neg =>
    have less : g.notice.resend < 2 := by omega
    by_cases stale : s.pendingOf g.kind ≠ none ∨ g.withdrawn = true
    case pos =>
      rw [State.returnInFlight_of_discarded flight (fun _ => less) stale]
      refine ⟨.inl under, rfl, rfl, rfl, rfl, fun h => absurd h third, fun _ => rfl,
        fun _ place stands => ?_⟩
      rcases stale with newer | withdrawn
      · exact absurd place newer
      · exact absurd (stands.symm.trans withdrawn) (by decide)
    case neg =>
      rw [not_or, not_not, Bool.not_eq_true] at stale
      rw [State.returnInFlight_of_place flight (fun _ => less) stale.1 stale.2]
      exact ⟨.inl under, rfl, rfl, rfl, rfl, fun h => absurd h third,
        fun other => Outbound.get_set_other _ _ (Ne.symm other),
        fun _ _ _ => Outbound.get_set_self _ _ _⟩

/-! ### A number clash of a sender -/

/-- The station that has marked a number clash, before it reports it (R75). -/
def State.clashMarked (s : State) : State :=
  ({ s with cur := { s.cur with numberClash := true, alertPending := true } }).modifyEntry
    s.settings.number fun e => { e with clash := true }

theorem State.recordClash_eq (s : State) :
    s.recordClash =
      if s.seq.mode.active then s.clashMarked.queueNotice .fault 15 21 else s.clashMarked := rfl

theorem State.recordClash_drive (s : State) :
    s.recordClash.notices.drive = s.notices.drive := by
  rw [State.recordClash_eq]
  split
  · unfold State.queueNotice
    split <;> rfl
  · rfl

theorem State.recordClash_inFlight (s : State) :
    s.recordClash.notices.inFlight = s.notices.inFlight := by
  rw [State.recordClash_eq]
  split
  · exact State.queueNotice_inFlight _ _ _ _
  · rfl

theorem State.recordClash_pendingOf (s : State) (other : k ≠ .fault) :
    s.recordClash.pendingOf k = s.pendingOf k := by
  rw [State.recordClash_eq]
  split
  · exact State.queueNotice_pendingOf_other _ _ _ other
  · rfl

/-- With no FAULT in its place, a number clash in an active mode enters there (R75, R77). -/
theorem State.recordClash_fault (active : s.seq.mode.active = true) (free : s.heldFaults = []) :
    s.recordClash.pendingOf .fault = some ⟨15, 21, 0⟩ := by
  have place : s.clashMarked.refusesFault 15 = false := by
    rw [State.refusesFault, State.heldFaults_congr (s := s) (t := s.clashMarked) rfl, free]
    rfl
  rw [State.recordClash_eq, if_pos active, State.queueNotice_fault_of_place place]
  exact State.pendingOf_setPending_self _ _ _

/-! ### A sender -/

/-- The station whose attempt with a notice of kind `k` ended in the slots. -/
def State.attemptOver (s : State) (k : Kind) (slots : List Bool) (micros : List Nat)
    (q : Pending) : State :=
  { s with
    notices :=
      { s.notices with
        link := .frame ⟨slots, false⟩
        inFlight := none
        outbound := s.notices.outbound.set k (some q)
        drive := { s.notices.drive with micros := micros } } }

/-- `x` is the station of `s` that sends the notice `p` of kind `k` where it reads `slots`. -/
structure Sends (s x : State) (k : Kind) (p : Pending) (slots : List Bool) : Prop where
  exec : exec (.frameStart slots) s = .next (x.readSlots true slots)
  flight : x.notices.inFlight = some ⟨k, p, false⟩
  place : x.pendingOf k = none
  settings : x.settings = s.settings
  cur : x.cur = s.cur
  seq : x.seq = s.seq
  others : ∀ i, i ≠ k → x.pendingOf i = s.pendingOf i

theorem Sends.of_begun (link : s.notices.link = .frame ⟨[], true⟩)
    (flight : s.notices.inFlight = some ⟨k, p, false⟩) (place : s.pendingOf k = none) :
    Sends s s k p slots :=
  ⟨by rw [exec_frameStart_of_frame link, State.hearFrame_of_first link], flight, place, rfl, rfl,
    rfl, fun _ _ => rfl⟩

theorem Sends.of_begins (free : s.notices.link = .free) (here : s.pendingOf k = some p)
    (lower : ∀ j, j.code < k.code → s.pendingOf j = none) :
    Sends s (s.sendBegun k p) k p slots :=
  ⟨by rw [exec_frameStart_of_free free,
        State.beginFrame_of_lowest (Outbound.lowest_eq here lower),
        State.hearFrame_of_first (own := true) rfl],
    rfl, Outbound.get_set_self _ _ _, rfl, rfl, rfl, fun _ other => Outbound.get_set_other _ _ other⟩

variable (sends : Sends s x k p slots)
include sends

/-- The fate of a sender whose slot `j` is the first that reads otherwise than it sent it. -/
theorem Sends.readSlots_of_differ {b : Bool} {fate : SendFate}
    (same : slots.take j = (Notice.mk k s.settings.number p.arg1 p.arg2).slots.take j)
    (sent : (Notice.mk k s.settings.number p.arg1 p.arg2).slots[j]? = some b)
    (read : slots[j]? = some !b)
    (decides : (if b then if 1 + j ≤ 8 then .lostArbitration else .collided
      else SendFate.driveFault) = fate)
    (ends : fate ≠ .sending) :
    x.readSlots true slots =
      (x.slotsRead slots false (cutDrive fate j x.notices.drive.micros)).meetFate fate := by
  rw [← sends.settings] at same sent
  have isFate : x.fateOf true slots = fate := by
    rw [State.fateOf_sender sends.flight, ← decides]
    exact sendFate_of_differ same sent read
  have agreed : x.agreed slots = j := by
    unfold State.agreed
    rw [sends.flight]
    exact agreedSlots_of_differ same sent read
  rw [State.readSlots_eq, isFate, agreed, Bool.true_and, beq_false_of_ne ends]

theorem Sends.returns {micros : List Nat} {charged : Bool}
    (allowed : charged = true → p.resend < 2) :
    (x.slotsRead slots false micros).returnInFlight charged =
      x.attemptOver k slots micros
        { p with resend := p.resend + if charged then 1 else 0 } := by
  rw [State.returnInFlight_of_place (s := x.slotsRead slots false micros) sends.flight allowed
    sends.place rfl]
  rfl

/-- What a collision brings (R73, R74, R75). -/
theorem Sends.collides {micros : List Nat} {t : State}
    (h : t = (x.slotsRead slots false micros).recordClash.returnInFlight true) :
    t.cur.numberClash = true ∧ t.cur.alertPending = true ∧
      (t.notices.link = .frame ⟨slots, false⟩ ∨ t.notices.link = .waiting ∧ 2 ≤ p.resend) ∧
      t.notices.inFlight = none ∧ t.notices.drive = ⟨x.notices.drive.ticks, micros⟩ ∧
      (k ≠ .fault → p.resend < 2 →
        t.pendingOf k = some { p with resend := p.resend + 1 }) ∧
      (2 ≤ p.resend → t.cur.dropped = satInc s.cur.dropped) ∧
      (s.seq.mode.active = true → k ≠ .fault → s.pendingOf .fault = none →
        t.pendingOf .fault = some ⟨15, 21, 0⟩) := by
  let y := x.slotsRead slots false micros
  obtain ⟨later, cur⟩ := y.recordClash_cur_eq
  have charge : ChargedInFrame y.recordClash t ⟨slots, false⟩ ⟨k, p, false⟩ := by
    rw [h]
    refine State.returnInFlight_in_frame ?_ ?_
    · rw [State.recordClash_link]; rfl
    · rw [State.recordClash_inFlight]; exact sends.flight
  refine ⟨by rw [charge.clash, cur], by rw [charge.alert, cur], charge.link, charge.inFlight, ?_,
    fun other less => ?_, fun third => ?_, fun active other empty => ?_⟩
  · rw [charge.drive, State.recordClash_drive]
    rfl
  · refine charge.returns less ?_ rfl
    rw [State.recordClash_pendingOf y other]
    exact sends.place
  · rw [charge.third third, cur, ← sends.cur]
    rfl
  · rw [charge.fault other]
    refine State.recordClash_fault ?_ (List.eq_nil_iff_forall_not_mem.mpr fun q mem => ?_)
    · rw [show y.seq = s.seq from sends.seq, active]
    · rcases State.mem_heldFaults.mp mem with pending | ⟨f, flight, fault, -⟩
      · have none : y.pendingOf .fault = none := (sends.others _ (Ne.symm other)).trans empty
        exact absurd (none.symm.trans pending) (by simp)
      · have mine : f = ⟨k, p, false⟩ := Option.some.inj (flight.symm.trans sends.flight)
        exact other (by rw [← fault, mine])

end Fates

end Sys2Proof.Machine

namespace Sys2Proof
open Machine

/-- Settles O38: the first slot that differs decides the fate, and the fate the return. -/
theorem senderLosesCollidesOrFails : Obligations.SenderLosesCollidesOrFails := by
  unfold Obligations.SenderLosesCollidesOrFails
  intro s slots k p j sent f begins begun full ticks micros back charged starts _ _ same
  obtain ⟨x, sends, drive, ended⟩ : ∃ x : State, Sends s x k p slots ∧
      x.notices.drive = ⟨ticks, micros⟩ ∧
      ∀ m q, x.attemptOver k slots m q =
        { s with
          notices :=
            { s.notices with
              link := f, inFlight := none, outbound := s.notices.outbound.set k (some q)
              drive := ⟨ticks, m⟩ } } := by
    rcases starts with ⟨free, here, lower⟩ | ⟨link, flight, place⟩
    · have noTicks : ticks = 0 := if_pos free
      have all : micros = full := if_pos free
      refine ⟨_, .of_begins free here lower, by rw [noTicks, all]; rfl, fun m q => ?_⟩
      rw [noTicks, ← Outbound.set_set _ k none]
      rfl
    · have busy : s.notices.link ≠ .free := by rw [link]; nofun
      have itsTicks : ticks = s.notices.drive.ticks := if_neg busy
      have its : micros = s.notices.drive.micros := if_neg busy
      refine ⟨s, .of_begun link flight place, by rw [itsTicks, its], fun m q => ?_⟩
      rw [itsTicks]
      rfl
  have drives : x.notices.drive.micros = micros := by rw [drive]
  have clocks : x.notices.drive.ticks = ticks := by rw [drive]
  rw [sends.exec]
  refine ⟨fun one zero early => ?_, fun one zero late => ?_, fun zero one => ⟨fun less => ?_,
    fun third => ?_⟩⟩
  · rw [sends.readSlots_of_differ (fate := .lostArbitration) same one zero
      ((if_pos rfl).trans (if_pos (by omega))) (by decide), drives]
    exact congrArg Host.Outcome.next ((sends.returns (charged := false) (by simp)).trans (ended _ _))
  · have reads := sends.readSlots_of_differ (fate := .collided) same one zero
      ((if_pos rfl).trans (if_neg (by omega))) (by decide)
    rw [drives] at reads
    have collides := sends.collides reads
    rw [clocks] at collides
    exact ⟨_, rfl, collides⟩
  · rw [sends.readSlots_of_differ (fate := .driveFault) same zero one rfl (by decide), drives]
    exact congrArg Host.Outcome.next
      ((sends.returns (charged := true) fun _ => less).trans (ended _ _))
  · have charge : ChargedInFrame (x.slotsRead slots false (micros.take j ++ [4])) _ _ _ :=
      State.returnInFlight_in_frame (g := ⟨k, p, false⟩) rfl sends.flight
    refine ⟨_, rfl, ?_⟩
    rw [sends.readSlots_of_differ (fate := .driveFault) same zero one rfl (by decide), drives,
      ← sends.cur, ← clocks]
    exact ⟨charge.third third, charge.inFlight, charge.drive⟩

end Sys2Proof

/-! The events of the phase line and the expiries of the phase timer (R51 to R62). -/

namespace Sys2Proof.Machine

section PhaseLine

variable {s : State} {hold : Bool}

/-- HOLD seen at a level by a station that has loaded (R53). -/
theorem State.seeHold_of_loaded (live : s.loaded = true) :
    s.seeHold hold =
      { s with
        line :=
          { s.line with
            high := hold, riseTaken := s.line.riseTaken && s.line.high && hold } } :=
  if_pos live

theorem State.takeRise_of_not_claims (h : s.seq.mode.claims = false) : s.takeRise = s := by
  unfold State.takeRise
  cases mode : s.seq.mode <;> simp_all [Mode.claims]

theorem State.phaseTimedBy_iff (c : PhaseSetting) :
    s.phaseTimedBy c = true ↔ s.timers.phase = .running 0 ∧ s.timers.phaseSetting = c := by
  simp [State.phaseTimedBy, OneShot.due_iff]

end PhaseLine

end Sys2Proof.Machine

namespace Sys2Proof
open Machine

/-- Settles O23. -/
theorem minimumHoldAndReclaimDelayEnd : Obligations.MinimumHoldAndReclaimDelayEnd := by
  unfold Obligations.MinimumHoldAndReclaimDelayEnd
  refine ⟨fun s hold => ⟨fun early => ?_, fun claimed short due live => ?_⟩,
    fun s => ⟨fun early => if_neg (by simpa using early), fun due => ⟨fun claims free => ?_,
      fun stays => ?_⟩⟩⟩
  · refine if_neg fun h => ?_
    obtain ⟨claimed, short, due⟩ := State.minHoldDue_iff.mp h
    rcases early with free | long | other
    · exact absurd (free.symm.trans claimed) (by decide)
    · exact absurd (short.symm.trans long) (by decide)
    · exact other due
  · intro u
    have sees : s.setMinHold.seeHold hold = u := State.seeHold_of_loaded live
    have ends : exec (.minimumHold hold) s = .next u.conclude := by
      rw [← sees]
      exact if_pos (State.minHoldDue_iff.mpr ⟨claimed, short, due⟩)
    refine ⟨ends, fun other calm => ?_⟩
    have after : u.lineAfterRelease = { u.line with claimed := !s.releaseCondition } := by
      have may : u.canRelease = s.releaseCondition := by
        have claimed' : u.line.claimed = true := claimed
        rw [State.canRelease, claimed']
        rfl
      unfold State.lineAfterRelease
      rw [may]
      cases s.releaseCondition with
      | true => rfl
      | false => simp [u, claimed]
    rw [ends, u.conclude_calm ⟨other, calm⟩, after]
  · have acts : exec .reclaimDelayEnd s = .next s.reclaimNow := if_pos (by simp [due])
    rw [acts]
    refine congrArg Host.Outcome.next ((if_pos claims).trans ?_)
    exact if_neg (by simpa using free)
  · have acts : exec .reclaimDelayEnd s = .next s.reclaimNow := if_pos (by simp [due])
    rw [acts]
    refine congrArg Host.Outcome.next ?_
    unfold State.reclaimNow
    dsimp only
    split
    case isTrue claims =>
      rcases stays with rests | claimed
      · exact absurd (rests.symm.trans claims) (by decide)
      · exact State.claimNow_of_claimed claimed
    case isFalse => rfl

/-- Settles O29. -/
theorem riseAndHoldLineFaultEventsAct : Obligations.RiseAndHoldLineFaultEventsAct := by
  unfold Obligations.RiseAndHoldLineFaultEventsAct
  refine ⟨fun s => ?_, fun s => ?_⟩
  · intro seen
    have sees : s.loaded = true → s.seeHold true = seen := fun live => by
      rw [State.seeHold_of_loaded live, Bool.and_true]
    have rises : s.line.claimed = false → s.loaded = true →
        s.seq.mode.claims = false ∨ (s.line.riseTaken && s.line.high) = true →
        exec .rise s = .next seen.conclude := fun free live rests => by
      have stays : seen.riseEvent = seen := by
        unfold State.riseEvent
        split
        case isTrue => rfl
        case isFalse fresh =>
          rcases rests with calm | taken
          · exact State.takeRise_of_not_claims calm
          · exact absurd taken fresh
      rw [← stays, ← sees live]
      exact if_pos (by simp [live, free])
    refine ⟨fun idle => if_neg ?_, fun free live other rests => ?_, fun free solo => ?_⟩
    · rcases idle with claimed | unloaded
      · simp [claimed]
      · simp [unloaded]
    · rw [rises free live rests, State.conclude_of_free (s := seen) other free]
    · exact rises free (by simp [State.loaded, solo, Mode.loaded]) (.inl (by rw [solo]; rfl))
  · intro u
    have finds : s.loaded = true → s.holdFaultFound = u := fun live => by
      unfold State.holdFaultFound
      rw [State.seeHold_of_loaded live]
      simp only [Bool.and_true, u]
    refine ⟨fun free => if_neg (by simp [free]), fun claimed => ⟨fun delivered live => ?_,
      fun first => ⟨fun mode => ?_, fun mode => ?_⟩⟩⟩
    · rw [← finds live]
      exact (if_pos claimed).trans (if_pos delivered)
    · have live : s.loaded = true := by
        rcases mode with m | m | m <;> simp [State.loaded, m, Mode.loaded]
      have answers : u.answerHoldFault = u.queueNotice .fault 15 20 := by
        have mode' : u.seq.mode = .rollcall ∨ u.seq.mode = .rising ∨ u.seq.mode = .riding := mode
        unfold State.answerHoldFault
        rcases mode' with m | m | m <;> rw [m] <;> rfl
      rw [← answers, ← finds live]
      exact (if_pos claimed).trans (if_neg (by simp [first]))
    · have live : s.loaded = true := by simp [State.loaded, mode, Mode.loaded]
      have answers : u.answerHoldFault = u.countLaterFault := by
        have mode' : u.seq.mode = .descending := mode
        unfold State.answerHoldFault
        rw [mode']
      have acts : exec .holdLineFault s = .next u.answerHoldFault.sendIfFree := by
        rw [← finds live]
        exact (if_pos claimed).trans (if_neg (by simp [first]))
      rw [acts, answers]
      rfl

/-- Settles O30. -/
theorem phaseTimerExpiriesAreJudged : Obligations.PhaseTimerExpiriesAreJudged := by
  unfold Obligations.PhaseTimerExpiriesAreJudged
  intro s hold live u ran low rising
  have sees : s.stopPhase.seeHold hold = u := by
    simp only [u]
    rw [State.seeHold_of_loaded live]
    exact State.seeHold_of_loaded (s := s.stopPhase) live
  have line : u.line.claimed = s.line.claimed ∧ u.line.high = hold := by
    rw [← sees, State.seeHold_of_loaded (s := s.stopPhase) live]
    exact ⟨rfl, rfl⟩
  have seq : u.seq = s.seq := State.seeHold_seq s hold
  have stuck : u.barrierStuck = low := by
    rw [State.barrierStuck, line.1, line.2]
  have roll : ran .rollTimeout →
      exec (.rollTimeoutExpiry hold) s = .next u.judgeRollTimeout.sendIfFree := fun due => by
    rw [← sees]
    exact if_pos ((State.phaseTimedBy_iff _).mpr due)
  have limit : ran .phaseLimit →
      exec (.phaseLimitExpiry hold) s = .next u.judgePhaseLimit.sendIfFree := fun due => by
    rw [← sees]
    exact if_pos ((State.phaseTimedBy_iff _).mpr due)
  have short : (u.inRollcall && u.rollcallStuck) = true ↔
      s.inRollcall = true ∧ (s.line.claimed = true ∨ hold = false) := by
    simp [State.inRollcall, State.rollcallStuck, seq, line.1, line.2]
  refine ⟨fun early => if_neg fun h => early ((State.phaseTimedBy_iff _).mp h),
    fun due => ⟨fun h => ?_, fun h => ?_⟩,
    fun early => if_neg fun h => early ((State.phaseTimedBy_iff _).mp h),
    fun due => ⟨?_, ?_, fun h => ?_⟩⟩
  · rw [roll due, State.judgeRollTimeout, if_pos (short.mpr h)]
    rfl
  · rw [roll due, State.judgeRollTimeout, if_neg fun both => h (short.mp both)]
  · rintro ⟨isLow, up⟩
    rw [limit due, State.judgePhaseLimit, if_pos (stuck.trans isLow), seq]
    rcases up with mode | ⟨mode, back⟩
    · rw [mode]; rfl
    · rw [mode, back]; rfl
  · rintro ⟨isLow, mode⟩
    rw [limit due, State.judgePhaseLimit, if_pos (stuck.trans isLow), seq, mode]
  · rw [limit due]
    unfold State.judgePhaseLimit
    split
    case isFalse => rfl
    case isTrue isLow =>
      rcases h with released | ⟨notUp, notDown⟩
      · exact absurd (released.symm.trans (stuck.symm.trans isLow)) (by decide)
      · rw [seq]
        cases mode : s.seq.mode with
        | rising => exact absurd (.inl mode) notUp
        | descending => exact absurd mode notDown
        | riding =>
          have other : s.seq.returnMode ≠ .rising := fun back => notUp (.inr ⟨mode, back⟩)
          simp only [if_neg other]
        | _ => rfl

end Sys2Proof

/-! What follows a step leaves the settings, the table and the inputs alone. -/

namespace Sys2Proof.Machine

/-- The settings, the rail table and the sense front end are the same in `t` as in `s`. -/
structure Steady (s t : State) : Prop where
  settings : t.settings = s.settings
  table : t.table = s.table
  front : t.front = s.front

namespace Steady

variable {s t u : State}

theorem refl (s : State) : Steady s s := ⟨rfl, rfl, rfl⟩

theorem trans (a : Steady s t) (b : Steady t u) : Steady s u :=
  ⟨b.settings.trans a.settings, b.table.trans a.table, b.front.trans a.front⟩

theorem ite {c : Prop} [Decidable c] (yes : Steady s t) (no : Steady s u) :
    Steady s (if c then t else u) := by
  split
  · exact yes
  · exact no

theorem of_railFrame (h : RailFrame s t) : Steady s t := ⟨h.settings, h.table, h.front⟩

/-- A change of the sequence controller's own values. -/
theorem of_seq (q : Sequence) : Steady s { s with seq := q } := ⟨rfl, rfl, rfl⟩

theorem enterRollcall (atOnce : Bool) : Steady s (s.enterRollcall atOnce) := by
  obtain ⟨-, -, front, -, -, -, settings, table, -, -⟩ := s.enterRollcall_frame atOnce
  exact ⟨settings, table, front⟩

theorem requesterEntersOff : Steady s s.requesterEntersOff := ⟨by simp, by simp, by simp⟩

theorem settleIdle (atOnce : Bool) : Steady s (s.settleIdle atOnce) := by
  unfold State.settleIdle
  split
  · exact .ite (.enterRollcall _) (.ite ((Steady.of_seq _).trans (.enterRollcall _)) (.of_seq _))
  · exact .ite .requesterEntersOff (.refl s)

theorem countAttempt : Steady s s.countAttempt := ⟨rfl, rfl, rfl⟩

theorem leaveClaim : Steady s s.leaveClaim := ⟨rfl, rfl, rfl⟩

theorem enterLockout : Steady s s.enterLockout := ⟨rfl, rfl, rfl⟩

theorem enterIdle (atOnce : Bool) : Steady s (s.enterIdle atOnce) := by
  have counted : Steady s s.countAttempt.leaveClaim := Steady.countAttempt.trans .leaveClaim
  exact (counted.trans (.ite .enterLockout (.of_seq _))).trans (.settleIdle _)

theorem stopPhase : Steady s s.stopPhase := ⟨rfl, rfl, rfl⟩

theorem holdUpStop : Steady s s.holdUpStop := ⟨by simp, by simp, by simp⟩

theorem endDescent : Steady s s.endDescent :=
  (Steady.stopPhase.trans .holdUpStop).trans (.enterIdle _)

theorem endSolo : Steady s s.endSolo :=
  have leaves (t : State) : Steady t { t with ctl := { t.ctl with solo := false } } :=
    ⟨rfl, rfl, rfl⟩
  (Steady.holdUpStop.trans (leaves _)).trans (.enterIdle _)

theorem enterRising (k : Nat) : Steady s (s.enterRising k) := by
  obtain ⟨-, -, settings, table, front, -⟩ := s.enterRising_facts k
  exact ⟨settings, table, front⟩

theorem arriveOn : Steady s s.arriveOn :=
  ⟨by simp [State.arriveOn], by simp [State.arriveOn], by simp [State.arriveOn]⟩

theorem startMute : Steady s s.startMute := ⟨rfl, rfl, rfl⟩

theorem queueTally : Steady s s.queueTally := ⟨by simp, by simp, by simp⟩

theorem enterOn : Steady s s.enterOn := by
  have queued : Steady s s.arriveOn.queueTally := Steady.arriveOn.trans .queueTally
  have muted (t : State) : Steady t t.startMuteIfPanel := .ite .startMute (.refl t)
  have ramped (t : State) : Steady t t.dimRamp := ⟨by simp, by simp, by simp⟩
  have ended (t : State) : Steady t (t.setOutcome .reachedOn) := ⟨rfl, rfl, rfl⟩
  exact ((queued.trans (muted _)).trans (ramped _)).trans (ended _)

theorem returnToOn : Steady s s.returnToOn :=
  .ite (Steady.arriveOn.trans .startMute) .arriveOn

theorem ascendFrom (k : Nat) : Steady s (s.ascendFrom k) := .ite (.enterRising _) .enterOn

theorem riseFromRiding : Steady s s.riseFromRiding := by
  have ends (t : State) : Steady t t.clearRide.reportStandingSag :=
    (Steady.of_railFrame (.clearRide t)).trans ⟨by simp, by simp, by simp⟩
  unfold State.riseFromRiding
  dsimp only
  split
  · exact (Steady.ascendFrom _).trans (ends _)
  · exact (Steady.ascendFrom _).trans (ends _)
  · exact Steady.returnToOn.trans (ends _)
  · exact Steady.returnToOn.trans (ends _)

theorem switchOffPhase (d : Nat) : Steady s (s.switchOffPhase d) :=
  .of_railFrame (.switchOffPhase d s)

theorem stepDown (d : Nat) : Steady s (s.stepDown d) := by
  have begun (t : State) :
      Steady t ((t.startPhase .phaseLimit).claimLater.feed (BitVec.ofNat 8 (0x80 + d))) :=
    ⟨rfl, rfl, rfl⟩
  exact ((Steady.of_seq _).trans (begun _)).trans (.switchOffPhase d)

theorem takeRise : Steady s s.takeRise := by
  have marked : Steady s { s with line := { s.line with riseTaken := true } } := ⟨rfl, rfl, rfl⟩
  have fed (t : State) : Steady t (t.feed 0x80) := ⟨rfl, rfl, rfl⟩
  unfold State.takeRise
  dsimp only
  split
  · exact marked.trans (.ascendFrom _)
  · exact marked.trans (.ascendFrom _)
  · exact marked.trans .riseFromRiding
  · exact .ite (marked.trans (.stepDown _)) ((marked.trans (fed _)).trans .endDescent)
  all_goals exact .refl s

theorem releaseIfReady : Steady s s.releaseIfReady := by
  have released : Steady s s.release := ⟨rfl, rfl, rfl⟩
  have ready (t : State) :
      Steady t { t with line := { t.line with riseTaken := false, highTwo := false } } :=
    ⟨rfl, rfl, rfl⟩
  exact .ite (.ite ((released.trans (ready _)).trans .takeRise) released) (.refl s)

theorem soloStep : Steady s s.soloStep :=
  .ite ((Steady.of_seq _).trans (.switchOffPhase _)) (.refl s)

theorem soloSteps (n : Nat) : Steady s (State.soloSteps n s) := by
  induction n generalizing s with
  | zero => exact .refl s
  | succ n ih => exact Steady.soloStep.trans ih

theorem advanceSolo : Steady s s.advanceSolo := by
  have steps : Steady s (State.soloSteps 15 s) := .soloSteps 15
  unfold State.advanceSolo
  dsimp only
  split
  · exact steps.trans .endSolo
  · exact steps

theorem sendIfFree : Steady s s.sendIfFree := ⟨by simp, by simp, by simp⟩

theorem conclude : Steady s s.conclude :=
  (Steady.advanceSolo.trans .releaseIfReady).trans .sendIfFree

end Steady

end Sys2Proof.Machine

/-! The sense front end: what a sample of each input does (R22 to R34, R80, R96, R131). -/

namespace Sys2Proof.Machine

section Samples

variable {s t u : State} {i j : Fin 8} {v : Nat}

/-- A filter accepts the raw value alone. -/
theorem Filter.sample_accepts {α : Type} [DecidableEq α] {f : Filter α} {bypass : Bool} {raw a : α}
    (h : (f.sample bypass raw).2 = some a) : a = raw := by
  revert h
  unfold Filter.sample
  split <;> try split <;> try split <;> try split
  all_goals simp [eq_comm]

/-! ### SNS -/

/-- What a sample of SNS `i` changes in the front end: at most the filter of that input. -/
structure SenseTurn (i : Fin 8) (s t : State) : Prop where
  settings : t.settings = s.settings
  table : t.table = s.table
  front : ∃ sns, t.front = { s.front with sns := sns }
  others : ∀ j, j ≠ i → t.front.sns[j] = s.front.sns[j]

theorem State.sampleRail_of_not_sensed (h : ¬((s.entry i).present = true ∧ (s.entry i).sense = true)) :
    s.sampleRail v i = s := if_neg (by simpa [State.senses] using h)

/-- Rail `i` with the glitch of this sample counted, where it is one (R30). -/
def State.glitched (s : State) (raw : Zone) (i : Fin 8) : State :=
  if s.glitches raw i then s.modifyRail i Rail.countGlitch else s

theorem State.glitched_steady (raw : Zone) : Steady s (s.glitched raw i) :=
  .ite ⟨rfl, rfl, rfl⟩ (.refl s)

/-- A sample of a sensed rail, by what its filter accepts (R25, R28). -/
theorem State.sampleRail_of_sensed {f : Filter Zone} {a : Option Zone}
    (h : (s.entry i).present = true ∧ (s.entry i).sense = true)
    (sampled : (s.front.sns[i]).sample s.settings.filterBypass (classifyRail (s.entry i) v) = (f, a)) :
    s.sampleRail v i =
      match a with
      | some z => ((s.glitched (classifyRail (s.entry i) v) i).setFilter i f).zoneEvent i z
      | none => (s.glitched (classifyRail (s.entry i) v) i).setFilter i f := by
  refine (if_pos (by simpa [State.senses] using h)).trans ?_
  simp only [sampled]
  cases a <;> rfl

theorem State.sampleRail_turn (s : State) (i : Fin 8) (v : Nat) :
    SenseTurn i s (s.sampleRail v i) ∧
      (s.sampleRail v i).front.sns[i] =
        if (s.entry i).present && (s.entry i).sense then
          ((s.front.sns[i]).sample s.settings.filterBypass (classifyRail (s.entry i) v)).1
        else s.front.sns[i] := by
  by_cases h : (s.entry i).present = true ∧ (s.entry i).sense = true
  case neg =>
    rw [State.sampleRail_of_not_sensed h, if_neg (by simpa using h)]
    exact ⟨⟨rfl, rfl, ⟨_, rfl⟩, fun _ _ => rfl⟩, rfl⟩
  case pos =>
    rw [if_pos (by simpa using h)]
    cases sampled : (s.front.sns[i]).sample s.settings.filterBypass (classifyRail (s.entry i) v) with
    | mk f a =>
      obtain ⟨settings, table, front⟩ :=
        State.glitched_steady (s := s) (i := i) (classifyRail (s.entry i) v)
      let w := (s.glitched (classifyRail (s.entry i) v) i).setFilter i f
      have filtered : w.front = { s.front with sns := s.front.sns.set i f } := by
        rw [← front]
        rfl
      have ends : Steady w (s.sampleRail v i) := by
        rw [State.sampleRail_of_sensed h sampled]
        cases a with
        | none => exact .refl w
        | some z => exact .of_railFrame (.zoneEvent i z w)
      have final : (s.sampleRail v i).front = { s.front with sns := s.front.sns.set i f } :=
        ends.front.trans filtered
      refine ⟨⟨ends.settings.trans settings, ends.table.trans table, ⟨_, final⟩, ?_⟩, ?_⟩
      · intro j other
        rw [final]
        exact Vector.getElem_set_ne i.isLt j.isLt fun same => other (Fin.ext same.symm)
      · rw [final]
        exact Vector.getElem_set_self i.isLt

/-- After the samples of all rails every filter has had the sample of its own input. -/
theorem State.sampleRails_front (s : State) (x : Sample) :
    let t := s.forEachRail fun i u => u.sampleRail x.sns[i] i
    t.settings = s.settings ∧ t.table = s.table ∧
      (∃ sns, t.front = { s.front with sns := sns }) ∧
      ∀ i, t.front.sns[i] =
        if (s.entry i).present && (s.entry i).sense then
          ((s.front.sns[i]).sample s.settings.filterBypass (classifyRail (s.entry i) x.sns[i])).1
        else s.front.sns[i] := by
  have go : ∀ (l : List (Fin 8)) (u : State), l.Nodup → u.settings = s.settings →
      u.table = s.table →
      let t := l.foldl (fun u i => u.sampleRail x.sns[i] i) u
      t.settings = s.settings ∧ t.table = s.table ∧
        (∃ sns, t.front = { u.front with sns := sns }) ∧
        ∀ i, t.front.sns[i] =
          if i ∈ l ∧ ((s.entry i).present && (s.entry i).sense) = true then
            ((u.front.sns[i]).sample s.settings.filterBypass
              (classifyRail (s.entry i) x.sns[i])).1
          else u.front.sns[i] := by
    intro l
    induction l with
    | nil => exact fun u _ settings table => ⟨settings, table, ⟨_, rfl⟩, fun i => by simp⟩
    | cons j l ih =>
      intro u distinct settings table
      obtain ⟨first, distinct⟩ := List.nodup_cons.mp distinct
      obtain ⟨turn, self⟩ := u.sampleRail_turn j x.sns[j]
      obtain ⟨a, front⟩ := turn.front
      obtain ⟨settings', table', ⟨b, front'⟩, each⟩ :=
        ih _ distinct (turn.settings.trans settings) (turn.table.trans table)
      refine ⟨settings', table', ⟨b, by rw [List.foldl_cons, front', front]⟩, fun i => ?_⟩
      rw [List.foldl_cons, each]
      by_cases here : i = j
      · subst here
        rw [if_neg fun h => first h.1, self, settings, State.entry_congr table]
        simp
      · rw [turn.others i here]
        simp [here]
  obtain ⟨settings, table, front, each⟩ := go railIndices s railIndices_nodup rfl rfl
  refine ⟨settings, table, front, fun i => ?_⟩
  rw [State.forEachRail, each]
  simp [mem_railIndices]

end Samples

end Sys2Proof.Machine

/-! The samples of the mains, the power request and the vertical blanking. -/

namespace Sys2Proof.Machine

section Inputs

variable {s : State} {v : Nat} {level : Bool}

/-! ### What each input changes in the front end -/

theorem State.mainsSagEvent_front_eq (s : State) :
    s.mainsSagEvent.front = { s.front with dwell := none, mainsHeld := false } := by
  unfold State.mainsSagEvent
  dsimp only
  split <;> simp

/-- A sample of MSNS updates the mains filter and what the dwell takes from it. -/
theorem State.sampleMainsInput_front (s : State) (v : Nat) :
    let t := s.sampleMainsInput v
    t.settings = s.settings ∧ t.table = s.table ∧
      ∃ dwell held, t.front =
        { s.front with
          dwell := dwell, mainsHeld := held
          msns :=
            if s.settings.roles.mains then
              (s.front.msns.sampleMains s.settings.filterBypass
                (classifyMains s.settings v)).1
            else s.front.msns } := by
  unfold State.sampleMainsInput
  dsimp only
  split
  case isFalse => exact ⟨rfl, rfl, s.front.dwell, s.front.mainsHeld, rfl⟩
  case isTrue =>
    split
    · refine ⟨by simp, by simp, none, false, ?_⟩
      rw [State.mainsSagEvent_front_eq]
    · exact ⟨rfl, rfl, some 0, false, rfl⟩
    · exact ⟨rfl, rfl, s.front.dwell, s.front.mainsHeld, rfl⟩

/-- A sample of PWR_REQ updates its filter. -/
theorem State.samplePwrReq_front (s : State) (level : Bool) :
    let t := s.samplePwrReq level
    t.settings = s.settings ∧ t.table = s.table ∧
      t.front =
        { s.front with
          pwrReq :=
            if s.settings.roles.requester then
              (s.front.pwrReq.sample s.settings.filterBypass level).1
            else s.front.pwrReq } := by
  unfold State.samplePwrReq
  dsimp only
  split
  case isFalse => exact ⟨rfl, rfl, rfl⟩
  case isTrue =>
    split
    · simp
    · simp
    · exact ⟨rfl, rfl, rfl⟩

/-- A sample of VBLANK updates its filter. -/
theorem State.sampleVblank_front (s : State) (level : Bool) :
    let t := s.sampleVblank level
    t.settings = s.settings ∧ t.table = s.table ∧
      t.front =
        { s.front with
          vblank :=
            if s.settings.roles.panel then
              (s.front.vblank.sample s.settings.filterBypass level).1
            else s.front.vblank } := by
  unfold State.sampleVblank
  dsimp only
  split
  case isFalse => exact ⟨rfl, rfl, rfl⟩
  case isTrue =>
    split
    · simp
    · exact ⟨rfl, rfl, rfl⟩
    · exact ⟨rfl, rfl, rfl⟩

/-- The front end of a station whose inputs other than SNS are sampled. -/
def FrontEnd.sampled (f : FrontEnd) (c : Settings) (x : Sample) (dwell : Option Nat)
    (held : Bool) : FrontEnd :=
  { f with
    dwell := dwell, mainsHeld := held
    msns :=
      if c.roles.mains then (f.msns.sampleMains c.filterBypass (classifyMains c x.msns)).1
      else f.msns
    pwrReq :=
      if c.roles.requester then (f.pwrReq.sample c.filterBypass x.pwrReq).1 else f.pwrReq
    vblank :=
      if c.roles.panel then (f.vblank.sample c.filterBypass x.vblank).1 else f.vblank }

theorem State.sampleLines_front (s : State) (x : Sample) :
    let t := ((s.sampleMainsInput x.msns).samplePwrReq x.pwrReq).sampleVblank x.vblank
    t.settings = s.settings ∧ t.table = s.table ∧
      ∃ dwell held, t.front = s.front.sampled s.settings x dwell held := by
  dsimp only
  obtain ⟨settings₁, table₁, dwell, held, front₁⟩ := s.sampleMainsInput_front x.msns
  obtain ⟨settings₂, table₂, front₂⟩ := (s.sampleMainsInput x.msns).samplePwrReq_front x.pwrReq
  obtain ⟨settings₃, table₃, front₃⟩ :=
    ((s.sampleMainsInput x.msns).samplePwrReq x.pwrReq).sampleVblank_front x.vblank
  refine ⟨by rw [settings₃, settings₂, settings₁], by rw [table₃, table₂, table₁], dwell, held, ?_⟩
  rw [front₃, settings₂, front₂, settings₁, front₁]
  rfl

/-- The front end after all samples of one instant. -/
theorem State.sampleAll_front (s : State) (x : Sample) :
    (s.sampleAll x).settings = s.settings ∧ (s.sampleAll x).table = s.table ∧
      (∃ sns dwell held, (s.sampleAll x).front =
        { s.front.sampled s.settings x dwell held with sns := sns }) ∧
      ∀ i, (s.sampleAll x).front.sns[i] =
        if (s.entry i).present && (s.entry i).sense then
          ((s.front.sns[i]).sample s.settings.filterBypass
            (classifyRail (s.entry i) x.sns[i])).1
        else s.front.sns[i] := by
  obtain ⟨settings, table, ⟨sns, front⟩, each⟩ := (s.seeHold x.hold).sampleRails_front x
  rw [State.sampleAll]
  generalize (s.seeHold x.hold).forEachRail (fun i u => u.sampleRail x.sns[i] i) = r at *
  obtain ⟨settings', table', dwell, held, front'⟩ := r.sampleLines_front x
  rw [State.seeHold_settings] at settings
  rw [State.seeHold_front] at front
  simp only [State.seeHold_settings, State.seeHold_front,
    State.entry_congr (State.seeHold_table s x.hold)] at each
  rw [settings, front] at front'
  refine ⟨settings'.trans settings, table'.trans (table.trans (by simp)),
    ⟨sns, dwell, held, front'⟩, fun i => ?_⟩
  rw [← each, front, front']
  rfl

end Inputs

end Sys2Proof.Machine

namespace Sys2Proof
open Machine

/-- Settles O9: the front end after the samples of all inputs, each in its own lemma. -/
theorem sampleUpdatesTheFilters : Obligations.SampleUpdatesTheFilters := by
  unfold Obligations.SampleUpdatesTheFilters
  refine ⟨fun x s => ?_, fun e v low high => ?_, fun x s live due => ?_, fun v i s => ?_⟩
  · intro period bypass sensed
    refine ⟨fun idle => if_neg ?_, fun live due => ?_⟩
    · rw [State.sampleDue, Bool.and_eq_true, beq_iff_eq]
      rintro ⟨live, due⟩
      rcases idle with unloaded | other
      · exact absurd (unloaded.symm.trans live) (by decide)
      · exact other due
    · obtain ⟨settings, table, ⟨sns, dwell, held, front⟩, each⟩ :=
        (s.startSample x).sampleAll_front x
      have after : Steady ((s.startSample x).sampleAll x) ((s.startSample x).sampleAll x).conclude :=
        .conclude
      have acts : exec (.senseSample x) s = .next ((s.startSample x).sampleAll x).conclude :=
        if_pos (by simp [State.sampleDue, live, due])
      refine ⟨_, acts, after.settings.trans settings, after.table.trans table, ?_⟩
      rw [after.front]
      refine ⟨?_, ?_, ?_, ?_, each, ?_, ?_, ?_, ?_⟩ <;> rw [front]
      all_goals rfl
  · simp only [classifyRail, Config.stepMicrovolts]
    by_cases off : v < e.offThreshold * 10000
    · simp [off]
      omega
    · by_cases dim : v < e.goodLow * 10000
      · simp [off, dim]
        omega
      · by_cases good : v ≤ e.goodHigh * 10000
        · simp [off, dim, good]
          omega
        · simp [off, dim, good]
          omega
  · have acts : exec (.senseSample x) s = .next ((s.startSample x).sampleAll x).conclude :=
      if_pos (by simp [State.sampleDue, live, due])
    rw [acts]
    rfl
  · intro bypass raw filter sensed glitch u
    have glitch_iff : s.glitches raw i = true ↔ glitch := by
      simp [State.glitches, glitch, filter, and_assoc]
    refine ⟨State.sampleRail_of_not_sensed, fun on calm => ?_, fun on marks => ?_⟩
    · have same : s.glitched raw i = s := if_neg fun h => calm (glitch_iff.mp h)
      refine ⟨fun f sampled => ?_, fun f z sampled => ?_⟩
      · rw [State.sampleRail_of_sensed on sampled, same]
      · rw [State.sampleRail_of_sensed on sampled, same]
    · have counted : s.glitched raw i = u := if_pos (glitch_iff.mpr marks)
      obtain ⟨-, good, fresh, other⟩ := marks
      have differs : filter.accepted ≠ some raw := fun h =>
        other (Option.some.inj (h.symm.trans good))
      refine ⟨fun filters => ?_, fun bypasses => ?_⟩
      · have sampled : filter.sample bypass raw = (⟨some .good, some raw, 1⟩, none) := by
          simp [Filter.sample, filters, fresh, good, Ne.symm other]
        rw [State.sampleRail_of_sensed on sampled, counted]
      · have sampled : filter.sample bypass raw = (⟨some raw, none, 0⟩, some raw) := by
          simp [Filter.sample, differs, bypasses]
        rw [State.sampleRail_of_sensed on sampled, counted]

end Sys2Proof

/-! The events of the mains input, the power request and the dimming input (R32, R80, R96, R131,
R147). -/

namespace Sys2Proof.Machine

section Events

variable {s : State} {v : Nat} {level : Bool}

/-! ### Mains -/

theorem State.sampleMainsInput_of_accepts {f : Filter MainsZone} {z : MainsZone}
    (mains : s.settings.roles.mains = true)
    (sampled : s.front.msns.sampleMains s.settings.filterBypass (classifyMains s.settings v) =
      (f, some z)) :
    s.sampleMainsInput v =
      match z with
      | .sag => ({ s with front := { s.front with msns := f } }).mainsSagEvent
      | .ok => ({ s with front := { s.front with msns := f } }).mainsRecoveryEvent := by
  refine (if_pos mains).trans ?_
  simp only [sampled]
  cases z <;> rfl

/-! ### PWR_REQ -/

theorem State.samplePwrReq_of_accepts {f : Filter Bool}
    (requester : s.settings.roles.requester = true)
    (sampled : s.front.pwrReq.sample s.settings.filterBypass level = (f, some level)) :
    s.samplePwrReq level =
      if level then ({ s with front := { s.front with pwrReq := f } }).pwrReqAsserted
      else ({ s with front := { s.front with pwrReq := f } }).pwrReqDeasserted := by
  refine (if_pos requester).trans ?_
  simp only [sampled]
  cases level <;> rfl

theorem State.withdraw_eq (k : Kind) (s : State) :
    s.withdraw k =
      { s with
        notices :=
          { s.notices with
            outbound := s.notices.outbound.set k none
            inFlight :=
              s.notices.inFlight.map fun f =>
                if f.kind = k then { f with withdrawn := true } else f } } := by
  have keeps : ∀ x, x = s.notices.inFlight →
      s.setPending k none =
        { s with
          notices :=
            { s.notices with outbound := s.notices.outbound.set k none, inFlight := x } } := by
    rintro _ rfl
    rfl
  have flies : (s.setPending k none).notices.inFlight = s.notices.inFlight := rfl
  unfold State.withdraw
  dsimp only
  rw [flies]
  cases flight : s.notices.inFlight with
  | none => exact keeps none flight.symm
  | some f =>
    by_cases same : f.kind = k
    · simp only [if_pos same, Option.map_some]
      rfl
    · simp only [if_neg same, Option.map_some]
      exact keeps (some f) flight.symm

theorem State.pwrReqAsserted_of_mode :
    (s.seq.mode = .off → s.pwrReqAsserted = (s.withdraw .fall).requestInOff) ∧
      (s.seq.mode = .lockout →
        s.pwrReqAsserted = (s.withdraw .fall).setPending .rise (some ⟨0, 0, 0⟩)) ∧
      (s.seq.mode ≠ .off → s.seq.mode ≠ .lockout → s.pwrReqAsserted = s.withdraw .fall) := by
  unfold State.pwrReqAsserted
  dsimp only
  rw [State.withdraw_seq, State.queueNotice_of_ne_fault (by decide)]
  cases s.seq.mode <;> simp

theorem State.pwrReqDeasserted_of_mode :
    (s.seq.mode = .off → s.pwrReqDeasserted = (s.withdraw .rise).stopRetry) ∧
      (s.seq.mode.active = true →
        s.pwrReqDeasserted =
          (s.withdraw .rise).setPending .fall (some ⟨BitVec.ofNat 8 s.seq.phase, 0, 0⟩)) ∧
      (s.seq.mode ≠ .off → s.seq.mode.active = false →
        s.pwrReqDeasserted = s.withdraw .rise) := by
  unfold State.pwrReqDeasserted
  dsimp only
  rw [State.queueNotice_of_ne_fault (by decide), State.phaseByte, State.withdraw_seq]
  cases s.seq.mode <;> simp [Mode.active]

/-- The requester at an assertion in OFF, by the last cause of a descent (R96). -/
theorem State.requestInOff_of_cause :
    (s.seq.lastCause = .fault ∨ s.seq.lastCause = .brk →
        s.requestInOff =
          { s with
            timers :=
              { s.timers with
                retry := .running (s.settings.retryDelay * 100000), retrySetting := .retryDelay }
            seq := { s.seq with wait := .retry } }) ∧
      (s.seq.lastCause ≠ .fault → s.seq.lastCause ≠ .brk →
        s.requestInOff =
          { s.setPending .rise (some ⟨0, 0, 0⟩) with seq := { s.seq with wait := .none } }) := by
  unfold State.requestInOff
  rw [State.queueNotice_of_ne_fault (by decide)]
  refine ⟨?_, fun fault brk => ?_⟩
  · rintro (cause | cause) <;> rw [cause] <;> rfl
  · cases cause : s.seq.lastCause with
    | fault => exact absurd cause fault
    | brk => exact absurd cause brk
    | none | request | brownout => rfl

theorem State.requesterEntersOff_of_request (requester : s.settings.roles.requester = true)
    (asks : s.front.pwrReq.level = true) : s.requesterEntersOff = s.requestAtOff := by
  unfold State.requesterEntersOff
  rw [if_pos requester, if_pos asks]

/-! ### DIM_IN -/

theorem Dimming.edge_of_idle {d : Dimming} (idle : d.measurement = none) (level : Bool) :
    d.edge level =
      { d with silence := 0, measurement := if level then some ⟨0, none⟩ else none } := by
  cases d
  cases idle
  cases level <;> rfl

theorem Dimming.edge_falling {d : Dimming} {since : Nat}
    (measures : d.measurement = some ⟨since, none⟩) :
    d.edge false = { d with silence := 0, measurement := some ⟨since, some since⟩ } := by
  cases d
  cases measures
  rfl

theorem Dimming.edge_rising {d : Dimming} {since high : Nat}
    (measures : d.measurement = some ⟨since, some high⟩) :
    d.edge true =
      { ({ d with silence := 0 }).completed since high with measurement := some ⟨0, none⟩ } := by
  cases d
  cases measures
  rfl

theorem Dimming.completed_of_fits {d : Dimming} {period high : Nat}
    (fits : 50 ≤ period ∧ period ≤ 65535) :
    d.completed period high = { d with pair := some ⟨period, high⟩, capture := .tracking } :=
  if_pos fits

theorem Dimming.completed_of_outside {d : Dimming} {period high : Nat}
    (outside : period < 50 ∨ 65535 < period) : d.completed period high = d.toLevel := by
  refine if_neg ?_
  simp only [Config.minPeriod, Config.maxPeriod]
  omega

/-- The dimming channel after a DIM_IN sample that accepts `a`. -/
def Dimming.after (d : Dimming) (a : Option Bool) : Dimming :=
  a.elim d fun level => d.edge level

theorem State.exec_dimInSample {f : Filter Bool} {a : Option Bool}
    (captures : s.captures = true) (due : s.front.dimInDue = true)
    (sampled : s.front.dimIn.sample s.settings.filterBypass level = (f, a)) :
    exec (.dimInSample level) s =
      .next
        { s with
          front := { s.front with dimIn := f, dimInDue := false, dimInLevel := level }
          dim := s.dim.after a } := by
  have acts : exec (.dimInSample level) s = .next ((s.seeDimIn level).sampleDimIn level) :=
    if_pos (by simp [State.dimInSampleDue, captures, due])
  have sampled' : (s.seeDimIn level).front.dimIn.sample (s.seeDimIn level).settings.filterBypass
      level = (f, a) := sampled
  rw [acts]
  unfold State.sampleDimIn
  dsimp only
  rw [sampled']
  cases a <;> rfl

end Events

end Sys2Proof.Machine

namespace Sys2Proof
open Machine

/-- Settles O12. -/
theorem mainsEventsAndDwellAct : Obligations.MainsEventsAndDwellAct := by
  unfold Obligations.MainsEventsAndDwellAct
  refine ⟨fun v s mains live => ⟨fun f accepts => ?_, fun f accepts => ?_⟩, fun s => ?_⟩
  · exact State.sampleMainsInput_of_accepts mains accepts
  · intro u
    let w : State := { s with front := { s.front with msns := f } }
    have sags : s.sampleMainsInput v = w.mainsSagEvent :=
      State.sampleMainsInput_of_accepts mains accepts
    rw [sags]
    refine ⟨fun mode => ?_, fun mode => ?_⟩
    · have queues : w.mainsSagEvent = u.queueSag := by
        unfold State.mainsSagEvent
        rcases mode with m | m | m | m <;> simp only [show w.seq.mode = _ from m] <;> rfl
      rw [queues, State.queueSag, State.queueNotice_of_ne_fault (by decide)]
      rfl
    · have counts : w.mainsSagEvent = u.countSag := by
        unfold State.mainsSagEvent
        rcases mode with m | m | m | m <;> simp only [show w.seq.mode = _ from m] <;> rfl
      rw [counts]
      rfl
  · intro ends
    refine ⟨fun due => ?_, fun early => if_neg fun due => early (State.dwellDue_iff.mp due)⟩
    have acts : exec .mainsHeldEvent s = .next s.mainsHeldEvent.sendIfFree :=
      if_pos (State.dwellDue_iff.mpr due)
    rw [acts, State.mainsHeldEvent]
    dsimp only
    cases owed : s.seq.owed with
    | true =>
      rw [if_pos rfl, if_pos rfl, State.queueMainsOk, State.queueNotice_of_ne_fault (by decide)]
      rfl
    | false => rw [if_neg (by decide), if_neg (by decide)]

/-- Settles O13: an edge withdraws a kind, and then acts by the mode. -/
theorem powerRequestEdgesAct : Obligations.PowerRequestEdgesAct := by
  unfold Obligations.PowerRequestEdgesAct
  refine ⟨fun level f s requester live accepts => ?_,
    fun k s => s.withdraw_eq k, fun s => ?_⟩
  · intro u t
    have edge := State.samplePwrReq_of_accepts requester accepts
    have asserted : level = true → t = u.pwrReqAsserted := fun up => edge.trans (if_pos up)
    have deasserted : level = false → t = u.pwrReqDeasserted := fun down =>
      edge.trans (if_neg (by simp [down]))
    have flight : ∀ k, (u.withdraw k).notices.inFlight = (s.withdraw k).notices.inFlight :=
      fun k => State.withdraw_inFlight_congr (s := s) (t := u) rfl k
    obtain ⟨offUp, lockoutUp, restUp⟩ := State.pwrReqAsserted_of_mode (s := u)
    obtain ⟨offDown, activeDown, restDown⟩ := State.pwrReqDeasserted_of_mode (s := u)
    have seq : ∀ k, (u.withdraw k).seq = s.seq := fun k => State.withdraw_seq u k
    have timers : ∀ k, (u.withdraw k).timers = s.timers := fun k => State.withdraw_timers u k
    refine ⟨fun up off => ?_, fun up lockout => (asserted up).trans (lockoutUp lockout),
      fun up off lockout => (asserted up).trans (restUp off lockout), fun down off => ?_,
      fun down active => (deasserted down).trans (activeDown active),
      fun down off idle => (deasserted down).trans (restDown off idle)⟩
    · have request : t = (u.withdraw .fall).requestInOff := (asserted up).trans (offUp off)
      obtain ⟨failed, calm⟩ := State.requestInOff_of_cause (s := u.withdraw .fall)
      rw [seq] at failed calm
      have emptied : (u.withdraw .fall).pendingOf .fall = none := State.withdraw_pendingOf _ _
      by_cases cause : s.seq.lastCause = .fault ∨ s.seq.lastCause = .brk
      · rw [request, failed cause]
        refine ⟨emptied, flight _, fun _ => ⟨rfl, ?_⟩, fun others => ?_⟩
        · rw [State.withdraw_settings, timers]
        · exact absurd cause (by simpa using others)
      · obtain ⟨fault, brk⟩ := not_or.mp cause
        rw [request, calm fault brk]
        refine ⟨?_, flight _, fun h => absurd h cause, fun _ => ⟨?_, rfl, timers _⟩⟩
        · exact (State.pendingOf_setPending_other _ _ (by decide)).trans emptied
        · exact State.pendingOf_setPending_self _ _ _
    · have stops : t = (u.withdraw .rise).stopRetry := (deasserted down).trans (offDown off)
      rw [stops]
      refine ⟨State.withdraw_pendingOf u .rise, flight _, ?_, ?_⟩
      · rw [State.stopRetry, timers]
      · rw [State.stopRetry, seq]
  · intro t waits cause
    refine ⟨fun other => if_neg (by simp [other]), fun requester => ⟨fun down => ?_, fun up =>
      ⟨fun known => ?_, fun known => ?_, fun known resumes => ?_, fun known rests => ?_⟩⟩⟩
    · exact (if_pos requester).trans (if_neg (by simp [down]))
    all_goals
      simp only [t, State.requesterEntersOff_of_request requester up]
      unfold State.requestAtOff
    · rw [State.queueNotice_of_ne_fault (by decide)]
      rcases known with h | h <;> rw [show s.seq.lastCause = _ from h] <;> rfl
    · rcases known with h | h <;> rw [show s.seq.lastCause = _ from h] <;> rfl
    · rw [show s.seq.lastCause = _ from known]
      exact if_pos resumes
    · rw [show s.seq.lastCause = _ from known]
      exact if_neg (by simp [rests])

/-- Settles O14. -/
theorem dimInSampleTimesTheInput : Obligations.DimInSampleTimesTheInput := by
  unfold Obligations.DimInSampleTimesTheInput
  refine fun level s => ⟨fun idle => if_neg ?_, fun captures due f a sampled => ?_⟩
  · rw [State.dimInSampleDue, Bool.and_eq_true]
    rintro ⟨captures, due⟩
    rcases idle with blind | rests
    · exact absurd (blind.symm.trans captures) (by decide)
    · exact absurd (rests.symm.trans due) (by decide)
  · have edge : a ≠ none → a = some level := fun accepts => by
      obtain ⟨l, isSome⟩ := Option.ne_none_iff_exists'.mp accepts
      have same : l = level := Filter.sample_accepts (by rw [sampled, isSome])
      rw [isSome, same]
    refine ⟨_, State.exec_dimInSample captures due sampled, fun none => by rw [none]; rfl,
      fun accepts idle => ?_, fun accepts down since measures => ?_,
      fun accepts up since high measures => ⟨fun fits => ?_, fun out => ?_⟩⟩
    · rw [edge accepts]
      exact Dimming.edge_of_idle idle level
    · rw [edge accepts, down]
      exact Dimming.edge_falling measures
    · rw [edge accepts, up]
      refine (Dimming.edge_rising measures).trans ?_
      rw [Dimming.completed_of_fits fits]
    · rw [edge accepts, up]
      refine (Dimming.edge_rising measures).trans ?_
      rw [Dimming.completed_of_outside out]
      rfl

end Sys2Proof

/-! Entry to SOLO (R11, R12, R15, R19, R82, R125 to R128, R152). -/

namespace Sys2Proof.Machine

section Solo

variable {s t : State} {i : Fin 8}

/-! ### What leaves the notices alone -/

theorem State.forEachRail_notices {f : Fin 8 → State → State}
    (turns : ∀ i u, (f i u).notices = u.notices) (s : State) :
    (s.forEachRail f).notices = s.notices :=
  State.forEachRail_keeps (P := fun u => u.notices = s.notices)
    (fun i u h => (turns i u).trans h) s rfl

theorem State.soloRail_notices (i : Fin 8) (s : State) : (s.soloRail i).notices = s.notices := by
  unfold State.soloRail
  split
  · exact State.enterFalling_notices _ _ _
  all_goals rfl

theorem State.setSolo_notices (s : State) : s.setSolo.notices = s.notices := by
  rw [State.setSolo, State.tidyBlankWait_notices]
  exact State.forEachRail_notices State.soloRail_notices _

theorem State.forceRailOff_notices (i : Fin 8) (s : State) :
    (s.forceRailOff i).notices = s.notices := by
  unfold State.forceRailOff
  split
  · split
    case h_1 | h_2 | h_8 | h_9 | h_10 => rfl
    all_goals exact State.enterFalling_notices _ _ _
  · rfl

theorem State.forceOff_notices (s : State) : s.forceOff.notices = s.notices := by
  rw [State.forceOff, State.tidyBlankWait_notices]
  exact State.forEachRail_notices State.forceRailOff_notices _

/-- Outside the active modes a rail fault is a count alone (R91). -/
theorem State.railFault_notices_of_idle (idle : s.seq.mode.active = false) (reason : RailReason) :
    (s.railFault i reason).notices = s.notices ∧ (s.railFault i reason).seq = s.seq := by
  rw [State.railFault_eq]
  unfold State.reportRailFault
  rw [if_neg (by simp [idle])]
  simp [State.countLaterFault]

theorem State.rideEndRail_notices_of_idle (idle : s.seq.mode.active = false) (i : Fin 8) :
    (s.rideEndRail i).notices = s.notices ∧ (s.rideEndRail i).seq = s.seq := by
  unfold State.rideEndRail
  split
  · exact State.railFault_notices_of_idle idle .dip
  · exact ⟨rfl, rfl⟩

theorem State.rideEndAll_notices_of_idle (idle : s.seq.mode.active = false) :
    (s.forEachRail State.rideEndRail).notices = s.notices :=
  have turn (i : Fin 8) (u : State) (h : u.notices = s.notices ∧ u.seq = s.seq) :
      (u.rideEndRail i).notices = s.notices ∧ (u.rideEndRail i).seq = s.seq := by
    obtain ⟨notices, seq⟩ := State.rideEndRail_notices_of_idle (s := u) (by rw [h.2, idle]) i
    exact ⟨notices.trans h.1, seq.trans h.2⟩
  (State.forEachRail_keeps (P := fun u => u.notices = s.notices ∧ u.seq = s.seq) turn s
    ⟨rfl, rfl⟩).1

/-- Outside the active modes the end of ride queues nothing (R15, R91). -/
theorem State.clearRide_notices_of_idle (idle : s.seq.mode.active = false) :
    s.clearRide.notices = s.notices := by
  unfold State.clearRide
  split
  · exact State.rideEndAll_notices_of_idle (s := { s with ctl := { s.ctl with ride := false } })
      idle
  · rfl

theorem State.endRide_notices_of_idle (idle : s.seq.mode.active = false) :
    s.endRide.notices = s.notices := by
  have runs : s.runOn.notices = s.notices ∧ s.runOn.seq = s.seq := by
    unfold State.runOn
    split
    · exact ⟨s.resume_notices, s.resume_seq⟩
    · exact ⟨rfl, rfl⟩
  rw [State.endRide_eq, State.clearRide_notices_of_idle (by rw [runs.2, idle]), runs.1]

/-! ### The stages of an entry to SOLO -/

/-- The sequence of a station that enters SOLO, at down phase N (R125). -/
def State.soloSeq (s : State) : Sequence :=
  { s.seq with
    mode := .solo, phase := s.settings.phaseCount, cause := .brk, heldRise := none,
    returnMode := .none, recovered := false,
    wait := if s.seq.mode == Mode.off then Wait.none else s.seq.wait }

/-- The station in SOLO, with HOLD let go. -/
def State.soloFreed (s : State) : State := ({ s with seq := s.soloSeq }).leaveClaim.stopPhase

/-- The station in SOLO whose ride-through is over. -/
def State.soloCalled (s : State) : State := s.soloFreed.endRide

/-- The station in SOLO with DIM_OUT dark, before its rails are switched off. -/
def State.soloDark (s : State) : State :=
  (s.soloCalled.setSolo.dimCut.assertMute.stopOnTimers.stopRetryTimer).setOutcome .soloBreak

/-- The station at phase 1. -/
def State.atPhaseOne (s : State) : State := { s with seq := { s.seq with phase := 1 } }

theorem State.atPhaseOne_frame (s : State) :
    s.atPhaseOne.table = s.table ∧ s.atPhaseOne.front = s.front ∧
      s.atPhaseOne.rails = s.rails := ⟨rfl, rfl, rfl⟩

/-- The station in SOLO whose force off begins (R127). -/
def State.soloUrgent (s : State) : State := s.soloDark.atPhaseOne

theorem State.enterSolo_eq (s : State) :
    s.enterSolo =
      if s.soloDark.urgent then s.soloUrgent.forceOff
      else s.soloDark.switchOffPhase s.settings.phaseCount := by
  unfold State.enterSolo State.soloUrgent State.atPhaseOne State.soloDark State.soloCalled State.soloFreed
    State.soloSeq
  rfl

/-! ### Field by field -/

theorem State.soloCalled_facts (s : State) :
    let t := s.soloCalled
    t.line = { s.line with claimed := false, minHoldLeft := none, reclaim := none } ∧
      t.ctl.ride = false ∧ t.ctl.held = false ∧
      t.timers = { s.timers with phase := .stopped } ∧ t.holdUp = s.holdUp ∧ t.dim = s.dim ∧
      t.mute = s.mute ∧ t.table = s.table ∧ t.front = s.front ∧ t.settings = s.settings ∧
      t.last = s.last ∧ t.port = s.port ∧ t.loader = s.loader ∧ t.notices = s.notices ∧
      t.seq = s.soloSeq ∧ ∃ later, t.cur = { s.cur with laterFaults := later } := by
  let d : State := s.soloFreed
  have frame : RailFrame d d.endRide := .endRide d
  obtain ⟨later, cur⟩ := frame.cur
  obtain ⟨ride, held, -⟩ := d.endRide_ctl
  have notices : d.endRide.notices = d.notices := State.endRide_notices_of_idle (s := d) rfl
  exact ⟨frame.line, ride, held, frame.timers, frame.holdUp, frame.dim, frame.mute, frame.table,
    frame.front, frame.settings, frame.last, frame.port, frame.loader, notices, frame.seq, later,
    cur⟩

theorem State.setSolo_ctl (s : State) :
    s.setSolo.ctl.ride = s.ctl.ride ∧ s.setSolo.ctl.held = s.ctl.held ∧
      s.setSolo.ctl.solo = true := by
  have loop : Alike { s with ctl := { s.ctl with solo := true } }
      (({ s with ctl := { s.ctl with solo := true } }).forEachRail State.soloRail) :=
    .forEachRail RailTurn.soloRail _
  have tidied (u : State) : Alike u u.tidyBlankWait := (RailTurn.tidyBlankWait (i := 0) u).alike
  have alike : Alike { s with ctl := { s.ctl with solo := true } } s.setSolo :=
    loop.trans (tidied _)
  exact ⟨alike.ride, alike.held, alike.solo⟩

theorem State.soloDark_facts (s : State) :
    let t := s.soloDark
    t.line = { s.line with claimed := false, minHoldLeft := none, reclaim := none } ∧
      t.ctl.ride = false ∧ t.ctl.held = false ∧ t.ctl.solo = true ∧
      t.timers =
        { s.timers with
          phase := .stopped, quiet := .stopped, retry := .stopped, mute := .stopped } ∧
      t.holdUp = s.holdUp ∧ t.mute = (s.settings.roles.panel || s.mute) ∧ t.table = s.table ∧
      t.front = s.front ∧ t.settings = s.settings ∧ t.last = s.last ∧ t.port = s.port ∧
      t.loader = s.loader ∧ t.notices = s.notices ∧ t.seq = s.soloSeq ∧
      ∃ later, t.cur = { s.cur with laterFaults := later, outcome := .soloBreak } := by
  obtain ⟨line, ride, held, timers, holdUp, dim, mute, table, front, settings, last, port, loader,
    notices, seq, later, cur⟩ := s.soloCalled_facts
  obtain ⟨rideKept, heldKept, solo⟩ := s.soloCalled.setSolo_ctl
  obtain ⟨more, curKept⟩ := (RailFrame.setSolo s.soloCalled).cur
  refine ⟨?_, ?_, ?_, ?_, ?_, ?_, ?_, ?_, ?_, ?_, ?_, ?_, ?_, ?_, ?_, more, ?_⟩
  · simp [State.soloDark, line]
  · simp [State.soloDark, rideKept, ride]
  · simp [State.soloDark, heldKept, held]
  · simp [State.soloDark, solo]
  · simp [State.soloDark, State.stopOnTimers, State.stopRetryTimer, timers]
  · simp [State.soloDark, holdUp]
  · rw [State.soloDark, State.setOutcome_mute, State.stopRetryTimer_mute, State.stopOnTimers_mute,
      State.assertMute_mute]
    simp [mute, settings]
  · simp [State.soloDark, table]
  · simp [State.soloDark, front]
  · simp [State.soloDark, settings]
  · simp [State.soloDark, last]
  · simp [State.soloDark, port]
  · simp [State.soloDark, loader]
  · simp [State.soloDark, State.setSolo_notices, notices]
  · simp [State.soloDark, seq]
  · simp [State.soloDark, State.setOutcome, curKept, cur]

theorem State.soloDark_dim (s : State) :
    (s.settings.roles.backlight = true → s.soloDark.dim = s.dim.cut) ∧
      (s.settings.roles.backlight = false → s.soloDark.dim = s.dim) := by
  obtain ⟨-, -, -, -, -, dim, -, -, -, settings, -⟩ := s.soloCalled_facts
  have same : s.soloDark.dim = s.soloCalled.setSolo.dimCut.dim := by simp [State.soloDark]
  rw [same]
  refine ⟨fun lit => ?_, fun dark => ?_⟩
  · rw [State.dimCut_dim (by simp [settings, lit])]
    simp [dim]
  · rw [State.dimCut_of_dark (by simp [settings, dark])]
    simp [dim]

end Solo

end Sys2Proof.Machine

/-! The rails of an entry to SOLO, and a BREAK that is detected (R82, R125 to R128). -/

namespace Sys2Proof.Machine

section SoloRails

variable {s t : State} {i : Fin 8}

/-! ### Before the rails are switched off -/

theorem State.soloFreed_frame (s : State) :
    s.soloFreed.table = s.table ∧ s.soloFreed.front = s.front ∧ s.soloFreed.ctl = s.ctl ∧
      s.soloFreed.rails = s.rails := ⟨rfl, rfl, rfl, rfl⟩

theorem State.soloFreed_dips : s.soloFreed.dips i ↔ s.dips i := by
  obtain ⟨-, front, -, rails⟩ := s.soloFreed_frame
  simp only [State.dips, State.zone_congr front, State.rail_congr rails]

theorem State.rail_soloCalled_of_dips (h : s.dipsAtEnd i) :
    s.soloCalled.rail i = s.dippedRail i := by
  obtain ⟨table, front, ctl, rails⟩ := s.soloFreed_frame
  rw [State.soloCalled,
    State.rail_endRide_of_dips (by rw [ctl, h.1]) (State.soloFreed_dips.mpr h.2),
    State.dippedRail, State.fallenRail_congr table front (State.rail_congr rails i)]
  rfl

theorem State.rail_soloCalled_of_not_dips (h : ¬s.dipsAtEnd i) :
    s.soloCalled.rail i = s.ranOnRail i := by
  obtain ⟨-, -, ctl, rails⟩ := s.soloFreed_frame
  rw [State.soloCalled, State.rail_endRide_of_not_dips, State.ranOnRail, State.ranOnRail, ctl,
    State.rail_congr rails]
  rw [ctl, State.soloFreed_dips]
  exact h

theorem State.rail_soloDark (s : State) (i : Fin 8) :
    s.soloDark.rail i = s.soloCalled.setSolo.dimCut.rail i :=
  State.rail_congr (by simp [State.soloDark]) i

theorem State.setSolo_cutDarkens : s.soloCalled.setSolo.cutDarkens ↔ s.cutDarkens := by
  obtain ⟨-, -, -, -, -, dim, -, -, -, settings, -⟩ := s.soloCalled_facts
  simp [State.cutDarkens, dim, settings]

theorem State.soloCalled_urgent (s : State) : s.soloCalled.urgent = s.urgent := by
  obtain ⟨-, -, -, -, holdUp, -⟩ := s.soloCalled_facts
  exact State.urgent_congr holdUp

theorem State.soloedRail_of_not_armed (on : (s.rail i).state ≠ .armedOn)
    (off : (s.rail i).state ≠ .armedOff) : s.soloedRail i = s.rail i := by
  unfold State.soloedRail
  cases st : (s.rail i).state with
  | armedOn => exact absurd st on
  | armedOff => exact absurd st off
  | _ => rfl

/-- A rail that waits neither for blanking nor for dimming is left to the switch off. -/
theorem State.rail_soloDark_of_calm (on : (s.soloCalled.rail i).state ≠ .armedOn)
    (off : (s.soloCalled.rail i).state ≠ .armedOff)
    (waits : (s.soloCalled.rail i).state ≠ .dimWait) :
    s.soloDark.rail i = s.soloCalled.rail i := by
  have solo := State.soloedRail_of_not_armed on off
  rw [State.rail_soloDark, State.rail_dimCut_other, State.rail_setSolo, solo]
  rw [State.rail_setSolo, solo]
  exact fun cut => waits cut.2

theorem State.rail_soloDark_of_dips (h : s.dipsAtEnd i) :
    s.soloDark.rail i = s.dippedRail i := by
  have called := State.rail_soloCalled_of_dips h
  have falls := s.fallenRail_state i true
  rw [State.rail_soloDark_of_calm, called]
  all_goals
    rw [called, State.dippedRail]
    rcases falls with st | st <;> simp [st]

/-- The rail of `s.soloCalled` where it is neither timed nor dipping. -/
theorem State.rail_soloCalled_of_standing (st : (s.rail i).state ≠ .ramping)
    (st' : (s.rail i).state ≠ .settling) (good : (s.rail i).state ≠ .good) :
    s.soloCalled.rail i = s.rail i := by
  rw [State.rail_soloCalled_of_not_dips fun dips => good dips.2.1,
    State.ranOnRail_of_not_timed st st']

theorem State.rail_soloDark_of_armedOn (st : (s.rail i).state = .armedOn) :
    s.soloDark.rail i = (s.rail i).rests := by
  have called : s.soloCalled.rail i = s.rail i := by
    apply State.rail_soloCalled_of_standing <;> simp [st]
  have solo : s.soloCalled.soloedRail i = (s.rail i).rests := by
    simp only [State.soloedRail, called, st]
  rw [State.rail_soloDark, State.rail_dimCut_other, State.rail_setSolo, solo]
  rw [State.rail_setSolo, solo]
  rintro ⟨-, waits⟩
  cases waits

theorem State.rail_soloDark_of_armedOff (st : (s.rail i).state = .armedOff) :
    s.soloDark.rail i = s.fallenRail i s.urgent := by
  obtain ⟨-, -, -, -, -, -, -, table, front, -⟩ := s.soloCalled_facts
  have called : s.soloCalled.rail i = s.rail i := by
    apply State.rail_soloCalled_of_standing <;> simp [st]
  have solo : s.soloCalled.soloedRail i = s.fallenRail i s.urgent := by
    simp only [State.soloedRail, called, st, State.soloCalled_urgent,
      State.fallenRail_congr table front called]
  rw [State.rail_soloDark, State.rail_dimCut_other, State.rail_setSolo, solo]
  rw [State.rail_setSolo, solo]
  rintro ⟨-, waits⟩
  rcases s.fallenRail_state i s.urgent with falls | falls <;> simp [falls] at waits

theorem State.rail_setSolo_of_dimWait (st : (s.rail i).state = .dimWait) :
    s.soloCalled.setSolo.rail i = s.rail i := by
  have called : s.soloCalled.rail i = s.rail i := by
    apply State.rail_soloCalled_of_standing <;> simp [st]
  rw [State.rail_setSolo, State.soloedRail_of_not_armed, called] <;> simp [called, st]

/-- The cut of a lit channel lets a rail in DIM_WAIT fall (R20, R152). -/
theorem State.rail_soloDark_of_lit (st : (s.rail i).state = .dimWait) (lit : s.cutDarkens) :
    s.soloDark.rail i = s.fallenRail i s.urgent := by
  obtain ⟨-, -, -, -, -, -, -, table, front, -⟩ := s.soloCalled_facts
  have solo := State.rail_setSolo_of_dimWait st
  have urgent : s.soloCalled.setSolo.urgent = s.urgent :=
    (State.urgent_congr (by simp)).trans s.soloCalled_urgent
  rw [State.rail_soloDark, State.rail_dimCut_of_dimWait (State.setSolo_cutDarkens.mpr lit)
    (by rw [solo, st]), urgent, State.fallenRail_congr ((State.setSolo_table _).trans table)
      ((State.setSolo_front _).trans front) solo]

theorem State.rail_soloDark_of_unlit (st : (s.rail i).state = .dimWait) (unlit : ¬s.cutDarkens) :
    s.soloDark.rail i = s.rail i := by
  rw [State.rail_soloDark, State.rail_dimCut_other, State.rail_setSolo_of_dimWait st]
  exact fun cut => unlit (State.setSolo_cutDarkens.mp cut.1)

/-- Any other rail runs on to the switch off. -/
theorem State.rail_soloDark_of_rest (calm : ¬s.dipsAtEnd i) (on : (s.rail i).state ≠ .armedOn)
    (off : (s.rail i).state ≠ .armedOff) (waits : (s.rail i).state ≠ .dimWait) :
    s.soloDark.rail i = s.ranOnRail i := by
  have called := State.rail_soloCalled_of_not_dips calm
  rw [State.rail_soloDark_of_calm, called] <;> rw [called, State.ranOnRail_state] <;> assumption

theorem State.soloDark_frame (s : State) :
    s.soloDark.table = s.table ∧ s.soloDark.front = s.front := by
  obtain ⟨-, -, -, -, -, -, -, table, front, -⟩ := s.soloDark_facts
  exact ⟨table, front⟩

theorem State.soloDark_urgent (s : State) : s.soloDark.urgent = s.urgent := by
  obtain ⟨-, -, -, -, -, holdUp, -⟩ := s.soloDark_facts
  exact State.urgent_congr holdUp

/-- A rail that runs on falls as it would have fallen where it stood. -/
theorem State.fallenRail_soloDark_of_rest (rest : s.soloDark.rail i = s.ranOnRail i)
    (urgent : Bool) : s.soloDark.fallenRail i urgent = s.fallenRail i urgent := by
  obtain ⟨table, front⟩ := s.soloDark_frame
  obtain ⟨timer, ran⟩ := s.ranOnRail_timer i
  exact State.fallenRail_retimed table front ⟨timer, rest.trans ran⟩ urgent

/-! ### The force off of an urgent station -/

/-- A force off leaves a rail that has fallen under urgent timing as it is (R11). -/
theorem State.forcedRail_of_fallen (table : t.table = s.table)
    (rail : ∃ reason, t.rail i = { s.fallenRail i true with faultReason := reason }) :
    t.forcedRail i = t.rail i := by
  obtain ⟨reason, rail⟩ := rail
  unfold State.forcedRail
  by_cases off : (s.entry i).sense = true ∧ s.zone i = some .off
  · rw [State.fallenRail_of_off off] at rail
    simp only [rail]
  · rw [State.fallenRail_of_not_off off] at rail
    simp only [rail, State.hurriedRail, State.entry_congr table, OneShot.shorten, if_true,
      Nat.min_self, Bool.true_or]

theorem State.forcedRail_congr (table : t.table = s.table) (front : t.front = s.front)
    (rail : t.rail i = s.rail i) : t.forcedRail i = s.forcedRail i := by
  simp only [State.forcedRail, State.fallenRail_congr table front rail,
    State.hurriedRail_congr table rail, rail]

/-- The rails after the force off are those of a force off where they stood (R11). -/
theorem State.forcedRail_soloDark (urgent : s.urgent = true) (calm : ¬s.dipsAtEnd i) :
    s.soloDark.forcedRail i = s.forcedRail i := by
  obtain ⟨table, front⟩ := s.soloDark_frame
  have fallen : s.soloDark.rail i = s.fallenRail i true →
      s.soloDark.forcedRail i = s.fallenRail i true := fun rail => by
    rw [State.forcedRail_of_fallen table ⟨(s.fallenRail i true).faultReason, rail⟩, rail]
  have rest : (s.rail i).state ≠ .armedOn → (s.rail i).state ≠ .armedOff →
      (s.rail i).state ≠ .dimWait → s.soloDark.rail i = s.ranOnRail i :=
    State.rail_soloDark_of_rest calm
  cases st : (s.rail i).state with
  | armedOn =>
    simp only [State.forcedRail, State.rail_soloDark_of_armedOn st, st]
    rfl
  | armedOff =>
    rw [fallen (by rw [State.rail_soloDark_of_armedOff st, urgent])]
    simp only [State.forcedRail, st]
  | dimWait =>
    by_cases lit : s.cutDarkens
    · rw [fallen (by rw [State.rail_soloDark_of_lit st lit, urgent])]
      simp only [State.forcedRail, st]
    · exact State.forcedRail_congr table front (State.rail_soloDark_of_unlit st lit)
  | ramping | settling | good =>
    have rail := rest (by simp [st]) (by simp [st]) (by simp [st])
    have state : (s.soloDark.rail i).state = (s.rail i).state := by
      rw [rail, State.ranOnRail_state]
    simp only [State.forcedRail, state, st, State.fallenRail_soloDark_of_rest rail]
  | off | shed | falling | discharging =>
    have rail : s.soloDark.rail i = s.rail i := by
      rw [rest (by simp [st]) (by simp [st]) (by simp [st]), State.ranOnRail_of_not_timed] <;>
        simp [st]
    exact State.forcedRail_congr table front rail

theorem State.forcedRail_off (coherent : (s.rail i).coherent) :
    (s.forcedRail i).applied = false ∧
      ((s.forcedRail i).state = .off ∨ (s.forcedRail i).state = .falling ∨
        (s.forcedRail i).state = .discharging) := by
  obtain ⟨applied, -⟩ := coherent
  have released := (s.fallenRail_released i true).1
  have falls := s.fallenRail_state i true
  have fallen : (s.fallenRail i true).applied = false ∧
      ((s.fallenRail i true).state = .off ∨ (s.fallenRail i true).state = .falling ∨
        (s.fallenRail i true).state = .discharging) :=
    ⟨released, falls.elim (fun st => .inr (.inl st)) .inl⟩
  unfold State.forcedRail
  cases st : (s.rail i).state <;> rw [st] at applied
  case ramping | settling | good | armedOff | dimWait => exact fallen
  case armedOn | shed => exact ⟨applied, .inl rfl⟩
  case falling => exact ⟨applied, .inr (.inl st)⟩
  case off => exact ⟨applied, .inl st⟩
  case discharging => exact ⟨applied, .inr (.inr st)⟩

/-! ### The rails in SOLO -/

theorem State.enterSolo_of_urgent (urgent : s.urgent = true) :
    s.enterSolo = s.soloUrgent.forceOff := by
  rw [State.enterSolo_eq, if_pos (s.soloDark_urgent.trans urgent)]

theorem State.enterSolo_of_calm (calm : s.urgent = false) :
    s.enterSolo = s.soloDark.switchOffPhase s.settings.phaseCount := by
  rw [State.enterSolo_eq, if_neg (by simp [s.soloDark_urgent, calm])]

theorem State.rail_enterSolo_of_urgent (urgent : s.urgent = true)
    (present : (s.entry i).present = true) :
    s.enterSolo.rail i = s.soloDark.forcedRail i := by
  obtain ⟨table, front, rails⟩ : s.soloUrgent.table = s.soloDark.table ∧
      s.soloUrgent.front = s.soloDark.front ∧ s.soloUrgent.rails = s.soloDark.rails :=
    s.soloDark.atPhaseOne_frame
  have rail : s.soloUrgent.rail i = s.soloDark.rail i := State.rail_congr rails i
  have entry : s.soloUrgent.entry i = s.entry i :=
    State.entry_congr (table.trans s.soloDark_frame.1) i
  rw [State.enterSolo_of_urgent urgent, State.rail_forceOff (by rw [entry, present]),
    State.forcedRail_congr table front rail]

theorem State.soloDark_inTopPhase :
    s.soloDark.inDownPhase s.settings.phaseCount i ↔ s.inTopPhase i := by
  simp only [State.inTopPhase, State.inDownPhase, State.entry_congr s.soloDark_frame.1]

theorem State.rail_enterSolo_of_top (calm : s.urgent = false) (top : s.inTopPhase i) :
    s.enterSolo.rail i = s.soloDark.switchedOffRail i := by
  rw [State.enterSolo_of_calm calm]
  exact State.rail_switchOffPhase (State.soloDark_inTopPhase.mpr top)

theorem State.rail_enterSolo_other (calm : s.urgent = false) (h : ¬s.inTopPhase i) :
    s.enterSolo.rail i = s.soloDark.rail i := by
  rw [State.enterSolo_of_calm calm]
  exact State.rail_switchOffPhase_other fun down => h (State.soloDark_inTopPhase.mp down)

/-- A rail that leaves already goes on as it is. -/
theorem State.rail_enterSolo_of_leaving (calm : s.urgent = false)
    (h : (s.soloDark.rail i).state.leaving) : s.enterSolo.rail i = s.soloDark.rail i := by
  by_cases top : s.inTopPhase i
  · rw [State.rail_enterSolo_of_top calm top, State.switchedOffRail_of_leaving h]
  · exact State.rail_enterSolo_other calm top

theorem State.rail_enterSolo_of_dips (h : s.dipsAtEnd i) (present : (s.entry i).present = true) :
    s.enterSolo.rail i = s.dippedRail i := by
  have dark := State.rail_soloDark_of_dips h
  cases urgent : s.urgent with
  | true =>
    rw [State.rail_enterSolo_of_urgent urgent present,
      State.forcedRail_of_fallen (s := s) s.soloDark_frame.1 ⟨some .dip, dark⟩, dark]
  | false =>
    rw [State.rail_enterSolo_of_leaving urgent, dark]
    rw [dark]
    exact s.fallenRail_leaving i true

/-- In SOLO a serving rail of phase N does not wait for blanking, and not for a dimming channel
that the cut has made report zero (R6, R8, R152). -/
theorem State.rail_enterSolo_of_serving (calm : s.urgent = false) (top : s.inTopPhase i)
    (serves : (s.rail i).state = .ramping ∨ (s.rail i).state = .settling ∨
      (s.rail i).state = .good) (undipped : ¬s.dipsAtEnd i)
    (gated : (s.entry i).dimGated = false ∨
      s.settings.roles.backlight = true ∧ s.reportMatchesCeiling) :
    s.enterSolo.rail i = s.fallenRail i false := by
  have rest : s.soloDark.rail i = s.ranOnRail i := by
    apply State.rail_soloDark_of_rest undipped <;> rcases serves with st | st | st <;> simp [st]
  have state : (s.soloDark.rail i).state = (s.rail i).state := by
    rw [rest, State.ranOnRail_state]
  obtain ⟨-, -, -, solo, -⟩ := s.soloDark_facts
  have reports : (s.entry i).dimGated = true → s.soloDark.zeroReport = true := fun gates => by
    rcases gated with free | ⟨lit, matching⟩
    · exact absurd (free.symm.trans gates) (by decide)
    · rw [State.zeroReport, s.soloDark_dim.1 lit]
      rw [State.reportMatchesCeiling] at matching
      simp only [Dimming.cut, matching]
      by_cases zero : s.dim.ceiling = .limited 0 <;> simp [zero]
  rw [State.rail_enterSolo_of_top calm top, State.switchedOffRail_of_serving (by rwa [state]),
    if_neg (by simp [solo]), if_neg, s.soloDark_urgent, calm,
    State.fallenRail_soloDark_of_rest rest]
  rw [State.entry_congr s.soloDark_frame.1]
  rintro ⟨gates, -, reported⟩
  exact absurd ((reports gates).symm.trans reported) (by decide)

end SoloRails

end Sys2Proof.Machine

/-! A BREAK that is detected (R82, R125 to R128). -/

namespace Sys2Proof.Machine

section Breaks

variable {s : State} {i : Fin 8}

/-- The station whose entry to SOLO has only its rails still to switch off. -/
theorem State.enterSolo_alike (s : State) :
    ∃ w : State, Alike w s.enterSolo ∧ s.enterSolo.notices = w.notices ∧
      (w = s.soloDark ∨ w = s.soloDark.atPhaseOne) := by
  cases urgent : s.urgent with
  | true =>
    rw [State.enterSolo_of_urgent urgent]
    have loop : Alike s.soloUrgent (s.soloUrgent.forEachRail State.forceRailOff) :=
      .forEachRail RailTurn.forceRailOff _
    have tidied (u : State) : Alike u u.tidyBlankWait :=
      (RailTurn.tidyBlankWait (i := 0) u).alike
    exact ⟨s.soloUrgent, loop.trans (tidied _), State.forceOff_notices _, .inr rfl⟩
  | false =>
    rw [State.enterSolo_of_calm urgent]
    exact ⟨s.soloDark, .forEachRail (RailTurn.switchOffIf _) _, by simp, .inl rfl⟩

theorem State.enterSolo_facts (s : State) :
    let t := s.enterSolo
    t.line = { s.line with claimed := false, minHoldLeft := none, reclaim := none } ∧
      t.ctl.ride = false ∧ t.ctl.held = false ∧ t.ctl.solo = true ∧
      t.timers =
        { s.timers with
          phase := .stopped, quiet := .stopped, retry := .stopped, mute := .stopped } ∧
      t.holdUp = s.holdUp ∧ t.mute = (s.settings.roles.panel || s.mute) ∧ t.table = s.table ∧
      t.front = s.front ∧ t.settings = s.settings ∧ t.last = s.last ∧ t.port = s.port ∧
      t.loader = s.loader ∧ t.notices = s.notices ∧ t.dim = s.soloDark.dim ∧
      ∃ later, t.cur = { s.cur with laterFaults := later, outcome := .soloBreak } := by
  obtain ⟨w, alike, notices, dark⟩ := s.enterSolo_alike
  have frame := alike.frame
  obtain ⟨more, cur⟩ := frame.cur
  obtain ⟨line', ride', held', solo', timers', holdUp', mute', table', front', settings', last',
    port', loader', notices', -, later', cur'⟩ := s.soloDark_facts
  have same (d : State) : w = d ∨ w = d.atPhaseOne →
      w.line = d.line ∧ w.ctl = d.ctl ∧ w.timers = d.timers ∧ w.holdUp = d.holdUp ∧
        w.mute = d.mute ∧ w.table = d.table ∧ w.front = d.front ∧ w.settings = d.settings ∧
        w.last = d.last ∧ w.port = d.port ∧ w.loader = d.loader ∧ w.notices = d.notices ∧
        w.dim = d.dim ∧ w.cur = d.cur := by
    rintro (rfl | rfl)
    · exact ⟨rfl, rfl, rfl, rfl, rfl, rfl, rfl, rfl, rfl, rfl, rfl, rfl, rfl, rfl⟩
    · exact ⟨rfl, rfl, rfl, rfl, rfl, rfl, rfl, rfl, rfl, rfl, rfl, rfl, rfl, rfl⟩
  obtain ⟨line, ctl, timers, holdUp, mute, table, front, settings, last, port, loader, noticesKept,
    dim, curKept⟩ := same _ dark
  refine ⟨?_, ?_, ?_, ?_, ?_, ?_, ?_, ?_, ?_, ?_, ?_, ?_, ?_, ?_, ?_, more, ?_⟩
  · rw [frame.line, line, line']
  · rw [alike.ride, ctl, ride']
  · rw [alike.held, ctl, held']
  · rw [alike.solo, ctl, solo']
  · rw [frame.timers, timers, timers']
  · rw [frame.holdUp, holdUp, holdUp']
  · rw [frame.mute, mute, mute']
  · rw [frame.table, table, table']
  · rw [frame.front, front, front']
  · rw [frame.settings, settings, settings']
  · rw [frame.last, last, last']
  · rw [frame.port, port, port']
  · rw [frame.loader, loader, loader']
  · rw [notices, noticesKept, notices']
  · rw [frame.dim, dim]
  · rw [cur, curKept, cur']

/-- The MAINS_OK that a lead owes at a BREAK (R137, log 13). -/
theorem State.owedAfterBreak_eq (s : State) :
    s.owedAfterBreak =
      { s with
        notices :=
          { s.notices with
            outbound :=
              if s.seq.owed && s.front.mainsHeld then
                { s.notices.outbound with
                  mainsOk := some ⟨BitVec.ofNat 8 s.seq.phase, 0, 0⟩ }
              else s.notices.outbound } } := by
  unfold State.owedAfterBreak
  split
  · rw [State.queueMainsOk, State.queueNotice_of_ne_fault (by decide)]
    rfl
  · rfl

theorem State.owedAfterBreak_frame (s : State) :
    let t := s.owedAfterBreak
    t.rails = s.rails ∧ t.seq = s.seq ∧ t.cur = s.cur ∧ t.line = s.line ∧ t.ctl = s.ctl ∧
      t.holdUp = s.holdUp ∧ t.timers = s.timers ∧ t.mute = s.mute ∧ t.dim = s.dim ∧
      t.front = s.front ∧ t.settings = s.settings ∧ t.table = s.table ∧ t.last = s.last ∧
      t.port = s.port ∧ t.loader = s.loader ∧ t.notices.link = s.notices.link ∧
      t.notices.inFlight = s.notices.inFlight ∧ t.notices.breakDrive = s.notices.breakDrive ∧
      t.notices.stuck = s.notices.stuck := by
  dsimp only
  rw [State.owedAfterBreak_eq]
  exact ⟨rfl, rfl, rfl, rfl, rfl, rfl, rfl, rfl, rfl, rfl, rfl, rfl, rfl, rfl, rfl, rfl, rfl, rfl,
    rfl⟩

theorem exec_breakDetected
    (hears : s.notices.link = .waiting ∨ s.notices.link = .free ∨
      ∃ f, s.notices.link = .frame f) :
    exec .breakDetected s = .next s.detectBreak := by
  rw [show exec .breakDetected s = execBreakDetected s from rfl, execBreakDetected]
  rcases hears with link | link | ⟨f, link⟩ <;> rw [link]

theorem exec_breakDetected_of_deaf (h : s.notices.link = .dormant ∨ s.notices.link = .broken) :
    exec .breakDetected s = .next s := by
  rw [show exec .breakDetected s = execBreakDetected s from rfl, execBreakDetected]
  rcases h with link | link <;> rw [link]

end Breaks

end Sys2Proof.Machine

namespace Sys2Proof
open Machine

/-- Settles O40: the rails stage by stage, from `s.soloDark` on. -/
theorem detectedBreakBringsSolo : Obligations.DetectedBreakBringsSolo := by
  unfold Obligations.DetectedBreakBringsSolo
  intro hears
  refine ⟨fun s hear calls => ?_, fun s => ⟨exec_breakDetected_of_deaf, fun hear solo => ?_⟩⟩
  · intro dips runsOn off serves
    let t : State := s.breakAtLink
    let x : State := t.enterSolo
    obtain ⟨line, ride, held, solo, timers, holdUp, mute, table, front, settings, last, port, loader,
      notices, dim, later, cur⟩ := t.enterSolo_facts
    have detects : s.detectBreak = x.owedAfterBreak.conclude := by
      unfold State.detectBreak
      dsimp only
      rw [if_neg (by exact calls)]
    have seq : x.seq = _ := t.enterSolo_seq
    obtain ⟨rails', seq', cur', line', ctl', holdUp', timers', mute', dim', front', settings',
      table', last', port', loader', link', inFlight', breakDrive', stuck'⟩ :=
      x.owedAfterBreak_frame
    have rail : ∀ i, x.owedAfterBreak.rail i = x.rail i := State.rail_congr rails'
    have dips_iff : ∀ i, t.dipsAtEnd i ↔ dips i := fun _ => Iff.rfl
    have top_iff : ∀ i, t.inTopPhase i ↔ off i := fun _ => Iff.rfl
    have forced : s.urgent = true → ∀ i, ¬dips i → (s.entry i).present = true →
        x.rail i = s.forcedRail i := fun urgent i calm present =>
      (State.rail_enterSolo_of_urgent (s := t) urgent present).trans
        (State.forcedRail_soloDark (s := t) urgent calm)
    have dipped : ∀ i, dips i → (s.entry i).present = true → x.rail i = s.dippedRail i :=
      fun i dips present => State.rail_enterSolo_of_dips (s := t) dips present
    refine ⟨x.owedAfterBreak, by rw [exec_breakDetected hear, detects],
      link'.trans (by rw [notices]; rfl), inFlight'.trans (by rw [notices]; rfl),
      breakDrive'.trans (by rw [notices]; rfl), stuck'.trans (by rw [notices]; rfl), ?_, ?_, ?_, ?_,
      ?_, line'.trans line, by rw [ctl', ride], by rw [ctl', held], by rw [ctl', solo],
      holdUp'.trans holdUp, timers'.trans timers, mute'.trans mute, fun lit => ?_,
      fun i dips present => (rail i).trans (dipped i dips present),
      fun urgent i calm present => (rail i).trans (forced urgent i calm present),
      fun urgent i present coherent => ?_, fun urgent i calm => ?_, front'.trans front,
      settings'.trans settings, table'.trans table, last'.trans last, port'.trans port,
      loader'.trans loader⟩
    · rw [seq', State.owedAfterBreak_eq]
      dsimp only
      rw [notices, front, seq]
      rfl
    · rw [seq', seq]
      simp only [beq_iff_eq]
      rfl
    · rw [cur', cur]
      rfl
    · rw [cur', cur]
      rfl
    · rw [cur', cur]
    · rw [dim', dim, t.soloDark_dim.1 lit]
      exact ⟨rfl, rfl, rfl⟩
    · rw [rail]
      by_cases h : dips i
      · rw [dipped i h present, State.dippedRail]
        have falls := s.fallenRail_state i true
        exact ⟨(s.fallenRail_released i true).1, falls.elim (fun st => .inr (.inl st)) .inl⟩
      · rw [forced urgent i h present]
        exact State.forcedRail_off coherent
    · have leaves : (t.soloDark.rail i).state.leaving → x.rail i = t.soloDark.rail i :=
        State.rail_enterSolo_of_leaving (s := t) urgent
      rw [rail]
      refine ⟨fun st => ?_, fun st => ?_, fun st => ?_, fun serving down gated => ?_,
        fun st down => ?_, fun on armed waits rests => ?_⟩
      · have dark : t.soloDark.rail i = (s.rail i).rests :=
          State.rail_soloDark_of_armedOn (s := t) st
        rw [leaves (by rw [dark]; exact .inl rfl), dark]
      · have dark : t.soloDark.rail i = s.fallenRail i s.urgent :=
          State.rail_soloDark_of_armedOff (s := t) st
        rw [urgent] at dark
        rw [leaves (by rw [dark]; exact s.fallenRail_leaving i false), dark]
      · split
        case isTrue lit =>
          have dark : t.soloDark.rail i = s.fallenRail i s.urgent :=
            State.rail_soloDark_of_lit (s := t) st lit
          rw [urgent] at dark
          rw [leaves (by rw [dark]; exact s.fallenRail_leaving i false), dark]
        case isFalse unlit =>
          have dark : t.soloDark.rail i = s.rail i :=
            State.rail_soloDark_of_unlit (s := t) st unlit
          rw [leaves (by rw [dark]; exact .inr (.inr (.inl st))), dark]
      · exact State.rail_enterSolo_of_serving (s := t) urgent ((top_iff i).mpr down) serving calm gated
      · have dark : t.soloDark.rail i = s.rail i := by
          rw [State.rail_soloDark_of_rest (s := t) calm, State.ranOnRail_of_not_timed]
          · rfl
          all_goals simp [show (t.rail i).state = .shed from st]
        have switched : x.rail i = t.soloDark.switchedOffRail i :=
          State.rail_enterSolo_of_top (s := t) urgent ((top_iff i).mpr down)
        rw [switched, State.switchedOffRail, dark, st]
      · have dark : t.soloDark.rail i = t.ranOnRail i :=
          State.rail_soloDark_of_rest (s := t) calm on armed waits
        have ran : t.ranOnRail i = runsOn i := by
          have same : t.ranOnRail i = s.ranOnRail i := rfl
          rw [same]
          simp only [runsOn, State.ranOnRail, Rail.resumeTimed]
          by_cases stands : s.ctl.held = true <;> simp [stands]
        have stays : x.rail i = t.soloDark.rail i := by
          rcases rests with above | resting
          · exact State.rail_enterSolo_other (s := t) urgent fun top => above ((top_iff i).mp top)
          · refine leaves ?_
            rw [dark, State.ranOnRail_state]
            rcases resting with st | st | st
            · exact .inl st
            · exact .inr (.inr (.inr (.inl st)))
            · exact .inr (.inr (.inr (.inr st)))
        rw [stays, dark, ran]
  · let t : State := s.breakAtLink
    have detects : s.detectBreak = t.owedAfterBreak.conclude := by
      unfold State.detectBreak
      dsimp only
      rw [if_pos (by exact solo)]
    rw [exec_breakDetected hear, detects, State.owedAfterBreak_eq]
    rfl

end Sys2Proof

/-! The common steps of a taken notice (R56, R75, R79, R87). -/

namespace Sys2Proof.Machine

section Common

variable {s t u w : State} {n : Notice} {own hold : Bool} {k : Kind}

/-! ### The withdrawals -/

/-- What a taken notice withdraws (R79). -/
theorem State.withdrawForTaken_pendingOf (s : State) (kind : Kind) (own : Bool) (k : Kind) :
    (s.withdrawForTaken kind own).pendingOf k =
      if kind = .fault then
        (if k = .fault ∧ ∃ p, s.pendingOf .fault = some p ∧ p.arg1 = 15 then none
        else s.pendingOf k)
      else if k = kind ∧ own = false ∧ k ≠ .roll ∧ k ≠ .tally then none
      else s.pendingOf k := by
  have clears (j : Kind) (special : j ≠ .roll ∧ j ≠ .tally) :
      (if own then s else s.setPending j none).pendingOf k =
        if k = j ∧ own = false ∧ k ≠ .roll ∧ k ≠ .tally then none else s.pendingOf k := by
    cases own with
    | true => simp
    | false =>
      by_cases same : k = j
      · subst same
        simp [special]
      · simp [same, State.pendingOf_setPending_other _ _ same]
  cases kind with
  | fault =>
    rw [if_pos rfl]
    unfold State.withdrawForTaken
    dsimp only
    cases pending : s.pendingOf .fault with
    | none => simp
    | some p =>
      dsimp only
      by_cases level : p.arg1 = 15
      · rw [if_pos (show p.arg1 = stationLevel from level)]
        by_cases same : k = .fault
        · subst same
          simp [level]
        · simp [same, State.pendingOf_setPending_other _ _ same]
      · rw [if_neg (show ¬p.arg1 = stationLevel from level)]
        refine (if_neg ?_).symm
        rintro ⟨-, q, same, isLevel⟩
        cases same
        exact level isLevel
  | roll | tally =>
    rw [if_neg (by decide), if_neg]
    · rfl
    · rintro ⟨rfl, -, roll, tally⟩
      contradiction
  | sag | commit | mainsOk | fall | rise =>
    rw [if_neg (by decide)]
    exact clears _ (by decide)

/-- The station at a taken notice before its sender's number is checked. -/
def State.noticeCounted (s : State) (n : Notice) (own hold : Bool) : State :=
  (s.frameOver n.kind own hold).countTaken n

theorem State.noticeCounted_notices (s : State) (n : Notice) (own hold : Bool) :
    (s.noticeCounted n own hold).notices =
      ((s.frameTaken own).withdrawForTaken n.kind own).notices := by
  simp [State.noticeCounted, State.frameOver]

theorem State.noticeCounted_settings (s : State) (n : Notice) (own hold : Bool) :
    (s.noticeCounted n own hold).settings = s.settings := by
  simp [State.noticeCounted, State.frameOver, State.frameTaken]

theorem State.noticeCounted_pendingOf (s : State) (n : Notice) (own hold : Bool) (k : Kind) :
    (s.noticeCounted n own hold).pendingOf k =
      if n.kind = .fault then
        (if k = .fault ∧ ∃ p, s.pendingOf .fault = some p ∧ p.arg1 = 15 then none
        else s.pendingOf k)
      else if k = n.kind ∧ own = false ∧ k ≠ .roll ∧ k ≠ .tally then none
      else s.pendingOf k := by
  rw [State.pendingOf, State.noticeCounted_notices]
  exact (s.frameTaken own).withdrawForTaken_pendingOf n.kind own k

/-- With no FAULT in its place before, none is there when the number is checked. -/
theorem State.noticeCounted_heldFaults (none : s.heldFaults = []) :
    (s.noticeCounted n false hold).heldFaults = [] := by
  refine List.eq_nil_iff_forall_not_mem.mpr fun p mem => ?_
  have absent : ∀ q, q ∉ s.heldFaults := List.eq_nil_iff_forall_not_mem.mp none
  have empty : s.pendingOf .fault = Option.none := by
    cases pending : s.pendingOf .fault with
    | none => rfl
    | some q => exact absurd (State.mem_heldFaults.mpr (.inl pending)) (absent q)
  rcases State.mem_heldFaults.mp mem with pending | ⟨f, flight, fault, same⟩
  · rw [State.noticeCounted_pendingOf, empty] at pending
    simp at pending
  · rw [State.noticeCounted_notices, State.withdrawForTaken_inFlight] at flight
    exact absent p (State.mem_heldFaults.mpr (.inr ⟨f, flight, fault, same⟩))

/-! ### A rise taken first -/

/-- The station `w` that has taken a rise in `s`, now at phase `p` in mode `m` (R54, R56). -/
structure Risen (s w : State) (p : Nat) (m : Mode) : Prop where
  mode : w.seq.mode = m
  phase : w.seq.phase = p
  signature : w.seq.signature = crc16Byte s.seq.signature (BitVec.ofNat 8 p)
  free : s.line.claimed = false → w.line.claimed = false
  link : w.notices.link = s.notices.link
  cur : ∃ later outcome, w.cur = { s.cur with laterFaults := later, outcome := outcome }
  settings : w.settings = s.settings

theorem Risen.enterRising (s : State) (k : Nat) : Risen s (s.enterRising k) k .rising := by
  obtain ⟨line, -, settings, -⟩ := s.enterRising_facts k
  have frame : RailFrame (s.risingBegun k) (s.enterRising k) := .switchOnPhase k _
  obtain ⟨later, cur⟩ := frame.cur
  refine ⟨?_, ?_, ?_, fun free => ?_, frame.link, ⟨later, s.cur.outcome, cur⟩, settings⟩
  · rw [State.enterRising_seq]
  · rw [State.enterRising_seq]
  · rw [State.enterRising_seq]
  · rw [line, free]

theorem Risen.enterOn (s : State) : Risen s s.enterOn s.settings.phaseCount .on := by
  rw [State.enterOn_eq, State.arriveOn_eq]
  exact ⟨rfl, rfl, rfl, fun _ => rfl, rfl, ⟨s.cur.laterFaults, .reachedOn, rfl⟩, rfl⟩

theorem Risen.returnToOn (s : State) : Risen s s.returnToOn s.settings.phaseCount .on := by
  rw [State.returnToOn_eq, State.arriveOn_eq]
  exact ⟨rfl, rfl, rfl, fun _ => rfl, rfl, ⟨s.cur.laterFaults, s.cur.outcome, rfl⟩, rfl⟩

/-- The end of ride after the rise changes none of it. -/
theorem Risen.rideOver {p : Nat} {m : Mode} (h : Risen s w p m) : Risen s w.rideOver p m := by
  obtain ⟨-, seq, line, -, -, -, -, -, settings, -⟩ := w.rideOver_facts
  have frame : RailFrame w w.clearRide := .clearRide w
  obtain ⟨later, outcome, cur⟩ := h.cur
  obtain ⟨more, clears⟩ := frame.cur
  refine ⟨?_, ?_, ?_, fun free => ?_, ?_, ⟨more, outcome, ?_⟩, settings.trans h.settings⟩
  · rw [seq, h.mode]
  · rw [seq, h.phase]
  · rw [seq, h.signature]
  · rw [line, h.free free]
  · rw [State.rideOver, State.reportStandingSag_link, frame.link, h.link]
  · rw [State.rideOver, State.reportStandingSag_cur, clears, cur]

theorem Risen.ascendFrom (s : State) (k : Nat) :
    Risen s (s.ascendFrom k)
      (if k < s.settings.phaseCount then k + 1 else s.settings.phaseCount)
      (if k < s.settings.phaseCount then .rising else .on) := by
  unfold State.ascendFrom
  split
  · exact .enterRising s _
  · exact .enterOn s

end Common

end Sys2Proof.Machine

/-! A rise taken before a notice (R56), and the notice's act in the mode it brings. -/

namespace Sys2Proof.Machine

section RiseFirst

variable {s t u w x : State} {n : Notice} {own hold : Bool} {k : Kind} {p : Nat} {m : Mode}

/-! ### The rise -/

/-- The phase that a rise in ROLLCALL, RISING or RIDING goes on from, at most N (R54, R139). -/
def State.risesFrom (s : State) : Nat :=
  match s.seq.mode, s.seq.returnMode with
  | .riding, .rollcall | .rollcall, _ => 0
  | .riding, .on | .riding, .none => s.settings.phaseCount
  | _, _ => s.seq.phase

/-- The phase that a rise brings (R54). -/
def State.risesTo (s : State) : Nat :=
  if s.risesFrom < s.settings.phaseCount then s.risesFrom + 1 else s.settings.phaseCount

/-- The mode that a rise brings (R54). -/
def State.risesInto (s : State) : Mode :=
  if s.risesFrom < s.settings.phaseCount then .rising else .on

/-- The station whose rise of this high interval is taken. -/
def State.riseMarked (s : State) : State := { s with line := { s.line with riseTaken := true } }

theorem Risen.of_marked (h : Risen s.riseMarked w p m) : Risen s w p m :=
  ⟨h.mode, h.phase, h.signature, h.free, h.link, h.cur, h.settings⟩

theorem State.riseFromRiding_risen (s : State) (riding : s.seq.mode = .riding) :
    Risen s s.riseFromRiding s.risesTo s.risesInto := by
  rw [State.riseFromRiding_eq]
  refine Risen.rideOver ?_
  have ends : s.risesFrom = s.settings.phaseCount → Risen s s.returnToOn s.risesTo s.risesInto :=
    fun top => by
      rw [State.risesTo, State.risesInto, top, if_neg (Nat.lt_irrefl _), if_neg (Nat.lt_irrefl _)]
      exact .returnToOn s
  unfold State.rideReturn
  cases back : s.seq.returnMode with
  | rollcall =>
    have from_ : s.risesFrom = 0 := by simp only [State.risesFrom, riding, back]
    rw [State.risesTo, State.risesInto, from_]
    exact .ascendFrom s 0
  | rising =>
    have from_ : s.risesFrom = s.seq.phase := by simp only [State.risesFrom, riding, back]
    rw [State.risesTo, State.risesInto, from_]
    exact .ascendFrom s _
  | on => exact ends (by simp only [State.risesFrom, riding, back])
  | none => exact ends (by simp only [State.risesFrom, riding, back])

/-- A rise in ROLLCALL, RISING or RIDING brings the next phase, or ON (R54, R139). -/
theorem State.takeRise_risen
    (mode : s.seq.mode = .rollcall ∨ s.seq.mode = .rising ∨ s.seq.mode = .riding) :
    Risen s s.takeRise s.risesTo s.risesInto := by
  refine Risen.of_marked ?_
  rcases mode with mode | mode | mode
  · have from_ : s.risesFrom = 0 := by simp only [State.risesFrom, mode]
    have rises : s.takeRise = s.riseMarked.ascendFrom 0 := by
      simp only [State.takeRise, mode, State.riseMarked]
    rw [rises, State.risesTo, State.risesInto, from_]
    exact .ascendFrom s.riseMarked 0
  · have from_ : s.risesFrom = s.seq.phase := by simp only [State.risesFrom, mode]
    have rises : s.takeRise = s.riseMarked.ascendFrom s.seq.phase := by
      simp only [State.takeRise, mode, State.riseMarked]
    rw [rises, State.risesTo, State.risesInto, from_]
    exact .ascendFrom s.riseMarked _
  · have rises : s.takeRise = s.riseMarked.riseFromRiding := by
      simp only [State.takeRise, mode, State.riseMarked]
    rw [rises]
    exact s.riseMarked.riseFromRiding_risen mode

/-! ### The common steps after the rise -/

/-- The station `u` at a notice that acts after a rise taken in `s` (R56, R87). -/
structure TakenAfterRise (s u : State) (n : Notice) (p : Nat) (m : Mode) : Prop where
  mode : u.seq.mode = m
  phase : u.seq.phase = p
  signature : u.seq.signature = crc16Byte s.seq.signature (BitVec.ofNat 8 p)
  free : u.line.claimed = false
  link : u.notices.link = .waiting
  settings : u.settings = s.settings
  firstFault : u.cur.firstFault = s.cur.firstFault
  disagreements : u.cur.phaseDisagreements =
    if n.senderPhase ≠ none ∧ n.senderPhase ≠ some p then satInc s.cur.phaseDisagreements
    else s.cur.phaseDisagreements

theorem Risen.taken (h : Risen s w p m) (free : s.line.claimed = false)
    (link : s.notices.link = .waiting) :
    TakenAfterRise s ((w.countTaken n).checkClash n own) n p m := by
  obtain ⟨r, seq⟩ := (w.countTaken n).checkClash_seq_eq n own
  obtain ⟨later, clash, alert, cur⟩ := (w.countTaken n).checkClash_cur_eq n own
  obtain ⟨later', outcome, cur'⟩ := h.cur
  refine ⟨?_, ?_, ?_, ?_, ?_, ?_, ?_, ?_⟩
  · rw [seq, State.countTaken_seq]
    exact h.mode
  · rw [seq, State.countTaken_seq]
    exact h.phase
  · rw [seq, State.countTaken_seq]
    exact h.signature
  · simp [h.free free]
  · simp [h.link, link]
  · simp [h.settings]
  · rw [cur, State.countTaken_cur, cur']
  · rw [cur, State.countTaken_cur, cur', h.phase]
    by_cases agrees : n.senderPhase = none ∨ n.senderPhase = some p
    · rw [if_pos agrees, if_neg]
      rintro ⟨known, other⟩
      exact agrees.elim known other
    · rw [if_neg agrees, if_pos (not_or.mp agrees)]

/-- A notice that changes the mode of a station with a rise ahead acts after that rise (R56). -/
theorem State.take_after_rise {act : Notice → Bool → State → State} (takes : s.takes n own)
    (free : s.line.claimed = false) (untaken : (s.line.riseTaken && s.line.high) = false)
    (mode : s.seq.mode = .rollcall ∨ s.seq.mode = .rising ∨ s.seq.mode = .riding)
    (changes : changesMode s.seq.mode n.kind = true) :
    ∃ u : State, TakenAfterRise s u n s.risesTo s.risesInto ∧
      s.take n.kind true act = (act n own u).conclude := by
  let y := s.frameOver n.kind own true
  have live : s.loaded = true := changesMode_loaded changes
  have line : y.line = (s.seeHold true).line := State.frameOver_line
  have seq : y.seq = s.seq := State.frameOver_seq
  have cur : y.cur = s.cur := by simp [y, State.frameOver]
  have link : y.notices.link = .waiting := by simp [y, State.frameOver, State.frameTaken]
  have settings : y.settings = s.settings := by simp [y, State.frameOver, State.frameTaken]
  have claimed : y.line.claimed = false := by rw [line, State.seeHold_claimed, free]
  have rises : y.riseBefore n.kind = y.takeRise := by
    have high : y.line.high = true ∧ y.line.riseTaken = false := by
      rw [line, State.seeHold_line_of_loaded live]
      simp [untaken]
    unfold State.riseBefore
    rw [if_pos (by simp [seq, changes, claimed, high.1, high.2])]
  have risen : Risen y y.takeRise y.risesTo y.risesInto := State.takeRise_risen (by rw [seq]; exact mode)
  have from_ : y.risesFrom = s.risesFrom := by simp only [State.risesFrom, seq, settings]
  have told : TakenAfterRise y ((y.takeRise.countTaken n).checkClash n own) n s.risesTo
      s.risesInto := by
    have same : y.risesTo = s.risesTo ∧ y.risesInto = s.risesInto := by
      simp only [State.risesTo, State.risesInto, from_, settings, and_self]
    rw [← same.1, ← same.2]
    exact risen.taken claimed link
  refine ⟨(y.takeRise.countTaken n).checkClash n own,
    ⟨told.mode, told.phase, ?_, told.free, told.link, told.settings.trans settings, ?_, ?_⟩, ?_⟩
  · rw [told.signature, seq]
  · rw [told.firstFault, cur]
  · rw [told.disagreements, cur]
  · rw [State.take_of_takes takes rfl, State.beforeNotice, rises]

/-! ### The act -/

/-- The station `x` at the entry to DESCENDING for the notice taken in `u` (R89, R90, R141). -/
structure ActedOn (u x : State) (n : Notice) : Prop where
  line : x.line = u.line
  link : x.notices.link = u.notices.link
  settings : x.settings = u.settings
  disagreements : x.cur.phaseDisagreements = u.cur.phaseDisagreements
  fault : n.kind = .fault → u.cur.firstFault = none →
    x.cur.firstFault = some ⟨n.arg2, n.sender, n.arg1, u.seq.phase⟩
  signature : x.seq.signature =
    if n.kind = .commit then
      crc16Byte u.seq.signature (BitVec.ofNat 8 (0x42 + (CommitCause.ofByte n.arg1).code))
    else u.seq.signature

theorem ActedOn.ofFault (kind : n.kind = .fault) : ActedOn u (u.recordFault n) n := by
  refine ⟨by simp, by simp, by simp, ?_, fun _ first => ?_, ?_⟩
  · unfold State.recordFault
    split <;> rfl
  · rw [State.recordFault_first first]
  · rw [State.recordFault_seq, if_neg (by simp [kind])]

theorem ActedOn.ofCommit (kind : n.kind = .commit) :
    ActedOn u (u.committed n).holdUpStartIfStopped n := by
  refine ⟨?_, ?_, ?_, ?_, fun fault => absurd (kind.symm.trans fault) (by decide), ?_⟩
  · simp [State.committed]
  · simp [State.committed]
  · simp [State.committed]
  · simp [State.committed]
  · rw [if_pos kind, State.holdUpStartIfStopped_seq]
    split <;> rfl

/-- After a rise a FALL, FAULT or COMMIT brings DESCENDING (R56, R89, R90, R141). -/
theorem exists_actedOn (takes : s.takes n own) (free : s.line.claimed = false)
    (untaken : (s.line.riseTaken && s.line.high) = false)
    (mode : s.seq.mode = .rollcall ∨ s.seq.mode = .rising ∨ s.seq.mode = .riding)
    (kind : n.kind = .fall ∨ n.kind = .fault ∨ n.kind = .commit) :
    ∃ u x : State, TakenAfterRise s u n s.risesTo s.risesInto ∧ ActedOn u x n ∧
      exec (n.kind.taken true) s = .next (x.enterDescending (descentCause n.kind)).conclude := by
  have changes : changesMode s.seq.mode n.kind = true := by
    rcases mode with m | m | m <;> rcases kind with k | k | k <;> rw [m, k] <;> rfl
  have active : ∀ u : State, TakenAfterRise s u n s.risesTo s.risesInto →
      u.seq.mode.active = true := fun u told => by
    rw [told.mode, State.risesInto]
    split <;> rfl
  rcases kind with fall | fault | commit
  · obtain ⟨u, told, acts⟩ :=
      State.take_after_rise (act := State.onFall) takes free untaken mode changes
    refine ⟨u, u, told, ⟨rfl, rfl, rfl, rfl, ?_, ?_⟩, ?_⟩
    · exact fun fault => absurd (fall.symm.trans fault) (by decide)
    · rw [if_neg (by simp [fall])]
    · have enters : u.onFall n own = u.enterDescending .request := if_pos (active u told)
      rw [enters, fall] at acts
      rw [fall]
      exact congrArg Host.Outcome.next acts
  · obtain ⟨u, told, acts⟩ :=
      State.take_after_rise (act := State.onFault) takes free untaken mode changes
    refine ⟨u, u.recordFault n, told, .ofFault fault, ?_⟩
    have enters : u.onFault n own = (u.recordFault n).enterDescending .fault :=
      if_pos (by simpa using active u told)
    rw [enters, fault] at acts
    rw [fault]
    exact congrArg Host.Outcome.next acts
  · obtain ⟨u, told, acts⟩ :=
      State.take_after_rise (act := State.onCommit) takes free untaken mode changes
    refine ⟨u, (u.committed n).holdUpStartIfStopped, told, .ofCommit commit, ?_⟩
    rw [State.onCommit_of_active (active u told), commit] at acts
    rw [commit]
    exact congrArg Host.Outcome.next acts

/-! ### What follows the act -/

theorem State.issueBreak_link_of_waiting (waits : s.notices.link = .waiting) :
    s.issueBreak.notices.link = .waiting := by
  cases drive : s.notices.breakDrive with
  | none =>
    rw [State.issueBreak_of_waiting (.inl waits) drive]
    exact waits
  | some d =>
    rw [State.issueBreak_of_not (.inr (by simp [drive]))]
    exact waits

theorem State.enterDescending_link (c : Cause) (waits : x.notices.link = .waiting) :
    (x.enterDescending c).notices.link = .waiting := by
  obtain ⟨-, -, -, -, -, -, -, -, -, -, -, -, -, -, begun, -⟩ := x.descentBegun_facts c
  obtain ⟨-, -, -, -, -, -, -, -, -, -, -, notices, -⟩ := x.descentDark_frame c
  have link : (x.descended c).notices.link = .waiting := by
    simp [State.descended, notices, begun, waits]
  rw [State.enterDescending_eq]
  split
  · exact State.issueBreak_link_of_waiting link
  · exact link

theorem State.enterDescending_line (c : Cause) (free : x.line.claimed = false) :
    (x.enterDescending c).line = .newClaim := by
  obtain ⟨line, -⟩ := x.enterDescending_facts c
  rw [line, State.claimNow_line_of_free free]

/-- After the entry to DESCENDING with a new claim nothing follows. -/
theorem State.enterDescending_rests (c : Cause) (free : x.line.claimed = false)
    (waits : x.notices.link = .waiting) :
    (x.enterDescending c).conclude = x.enterDescending c := by
  refine State.conclude_of_resting ?_ (State.canRelease_of_not_minHold ?_) ?_
  · rw [State.enterDescending_seq]
    exact nofun
  · rw [State.enterDescending_line c free]
    rfl
  · rw [State.enterDescending_link c waits]
    exact nofun

end RiseFirst

end Sys2Proof.Machine

namespace Sys2Proof
open Machine

/-- Settles O42. -/
theorem takenNoticeMakesTheCommonSteps : Obligations.TakenNoticeMakesTheCommonSteps := by
  unfold Obligations.TakenNoticeMakesTheCommonSteps
  refine ⟨fun s n own hold takes sender => ?_, fun s n hold takes sender => ?_,
    fun s n own takes free untaken => ?_⟩
  · intro u
    have same : u = s.noticeCounted n own hold :=
      State.checkClash_eq (s := s.noticeCounted n own hold) (by rw [s.noticeCounted_settings]; exact sender)
    refine ⟨by simp [u], ?_, State.atNotice_line s n own hold, fun k => ?_, ?_, ?_, by simp [u],
      by simp [u], by simp [u], by simp [u], by simp [u], by simp [u], by simp [u], by simp [u],
      by simp [u], by simp [u]⟩
    · rw [same, State.noticeCounted_notices, State.withdrawForTaken_inFlight]
      rfl
    · rw [same]
      exact s.noticeCounted_pendingOf n own hold k
    · rw [same, State.noticeCounted, State.countTaken_seq, State.frameOver_seq]
    · rw [same, State.noticeCounted, State.countTaken_cur, State.frameOver_seq]
      simp [State.frameOver]
  · intro u
    let b := s.noticeCounted n false hold
    have settings : b.settings = s.settings := s.noticeCounted_settings n false hold
    have clash : u = b.recordClash :=
      State.checkClash_of_clash (s := b) (by rw [settings]; exact sender)
    have mode : b.seq.mode = s.seq.mode := by
      simp [b, State.noticeCounted, State.countTaken_seq]
    obtain ⟨later, cur⟩ := b.recordClash_cur_eq
    rw [clash]
    refine ⟨by rw [cur], by rw [cur], fun e mem number => ?_, fun active none => ?_⟩
    · rw [State.recordClash_seq, settings] at mem
      obtain ⟨e', -, rfl⟩ := List.mem_map.mp mem
      split at number
      case isTrue mine => rw [if_pos mine]
      case isFalse other => exact absurd number other
    · exact State.recordClash_fault (by rw [mode, active]) (State.noticeCounted_heldFaults none)
  · intro top k p signature cause disagrees counts
    have goes : s.risesTo = p := rfl
    have into : s.risesInto = if k < top then .rising else .on := rfl
    refine ⟨fun mode kind => ?_, fun mode kind => ?_⟩
    · obtain ⟨u, x, told, acted, acts⟩ := exists_actedOn takes free untaken mode kind
      have free' : x.line.claimed = false := by rw [acted.line, told.free]
      have waits : x.notices.link = .waiting := by rw [acted.link, told.link]
      obtain ⟨-, -, -, -, -, -, -, -, -, -, -, -, -, later, cur⟩ :=
        x.enterDescending_facts (descentCause n.kind)
      have line := State.enterDescending_line (descentCause n.kind) free'
      have seq := State.enterDescending_seq (descentCause n.kind) x
      refine ⟨x.enterDescending (descentCause n.kind), ?_, ?_, ?_, ?_, ?_, ?_, ?_,
        fun fault first => ?_, ?_⟩
      · rw [acts, State.enterDescending_rests _ free' waits]
      · simp only [counts, disagrees]
        rw [cur]
        exact acted.disagreements.trans told.disagreements
      · rw [seq]
      · rw [seq]
        rfl
      · rw [seq, acted.settings, told.settings]
      · rw [line]
        rfl
      · rw [line]
        rfl
      · rw [cur]
        rw [acted.fault fault (told.firstFault.trans first), told.phase]
        rfl
      · rw [seq]
        rw [acted.signature, told.signature]
        rfl
    · have mode' : s.seq.mode = .rollcall ∨ s.seq.mode = .rising ∨ s.seq.mode = .riding :=
        mode.imp_right .inl
      have changes : changesMode s.seq.mode n.kind = true := by
        rw [kind]
        rcases mode with m | m <;> rw [m] <;> rfl
      obtain ⟨u, told, acts⟩ :=
        State.take_after_rise (act := State.onSag) takes free untaken mode' changes
      let b := u.sagBooked n own
      let t := b.enterRiding.leadAlreadyHeld own
      have rides : u.onSag n own = t := by
        refine State.onSag_of_active ?_
        rw [told.mode, into]
        split
        · exact .inr (.inl rfl)
        · exact .inr (.inr rfl)
      obtain ⟨line, -⟩ := b.enterRiding_frame
      have free' : b.line.claimed = false := told.free
      have line_t : t.line = .newClaim := by
        rw [show t.line = _ from State.leadAlreadyHeld_line b.enterRiding own, line,
          State.claimNow_line_of_free free']
      have seq : t.seq = b.enterRiding.seq := State.leadAlreadyHeld_seq b.enterRiding own
      rw [State.enterRiding_seq] at seq
      have cur : t.cur = b.cur :=
        (State.leadAlreadyHeld_cur b.enterRiding own).trans b.enterRiding_cur
      have rests : t.conclude = t := by
        refine State.conclude_of_resting ?_ (State.canRelease_of_not_minHold ?_) ?_
        · rw [seq]
          exact nofun
        · rw [line_t]
          rfl
        · rw [State.leadAlreadyHeld_link, State.enterRiding_notices]
          show u.notices.link ≠ .free
          rw [told.link]
          exact nofun
      refine ⟨t, ?_, ?_, ?_, ?_, ?_, ?_, ?_, ?_⟩
      · rw [rides, rests, kind] at acts
        exact congrArg Host.Outcome.next acts
      · simp only [counts, disagrees]
        rw [cur]
        exact told.disagreements
      · rw [seq]
      · rw [seq]
        show u.seq.mode.toReturn = _
        rw [told.mode, into]
        split <;> rfl
      · rw [seq]
        exact told.phase
      · rw [line_t]
        rfl
      · rw [line_t]
        rfl
      · rw [seq]
        show crc16Byte u.seq.signature 0x40 = _
        rw [told.signature, goes]

end Sys2Proof
